-- ==== Sys2Proof/Word.lean ====
section
/-!
DEFINITION. The plain data every other file is written over: octets, window words, numbered slots of a
fixed-size vector, saturating counters, and finite maps kept as sorted lists of keys and values.
-/

namespace Sys2Proof

/-- One octet of a frame. -/
abbrev Byte := BitVec 8

/-- One 32-bit word of the register window (chapter 11, opening: bit 31 is the most significant bit). -/
abbrev Word := BitVec 32

/-- A lane number, 0..3 (00_scope.md, section 2: indices). -/
abbrev LaneId := Fin 4

/-- The number of an ingress frame store, 0..3 (R110). -/
abbrev StoreId := Fin 4

/-- A key slot number: `false` is slot 0 and `true` is slot 1 (R3). -/
abbrev SlotNo := Bool

/-- A frame: its octets from the first octet of the destination MAC to the last octet of the FCS
(00_scope.md, section 2: lengths). -/
abbrev Frame := List Byte

/-- The value at a numbered place of a vector. -/
abbrev vget {α : Type} {n : Nat} (v : Vector α n) (i : Fin n) : α := v[i]

/-- The vector with one numbered place given a new value. -/
def vput {α : Type} {n : Nat} (v : Vector α n) (i : Fin n) (x : α) : Vector α n := v.set i x

/-- A saturating increase of a counter whose largest value is `top` (00_scope.md, section 2: counters). -/
def satAdd (top v n : Nat) : Nat := min top (v + n)

/-- A finite map with natural-number keys, as a list of keys and values. Its one canonical form has its keys
strictly rising; a key that is not listed has the value that its reader names. -/
abbrev KeyedList (α : Type) := List (Nat × α)

/-- The value listed under a key. -/
def KeyedList.find {α : Type} : KeyedList α → Nat → Option α
  | [], _ => none
  | (k', v) :: t, k => if k' = k then some v else KeyedList.find t k

/-- The map with one key given a value, kept in key order. -/
def KeyedList.insert {α : Type} : KeyedList α → Nat → α → KeyedList α
  | [], k, v => [(k, v)]
  | (k', v') :: t, k, v =>
    if k < k' then (k, v) :: (k', v') :: t
    else if k = k' then (k, v) :: t
    else (k', v') :: KeyedList.insert t k v

/-- The map without a key. -/
def KeyedList.erase {α : Type} (m : KeyedList α) (k : Nat) : KeyedList α := m.filter (fun p => p.1 ≠ k)

/-- The canonical form: the keys rise strictly. -/
abbrev KeyedList.Sorted {α : Type} (m : KeyedList α) : Prop := (m.map Prod.fst).Pairwise (· < ·)

end Sys2Proof
end

