-- ==== Sys2Proof/Config.lean ====
section
/-!
DEFINITION. What the part fixes once and for all: the sizes and limits the manual states, and the values it
leaves open, which are constants with no body, so that no proof can lean on what they are.
-/

namespace Sys2Proof

/-- Records of the Association Table (chapter 1, opening: 8,192 entries, indices 0..8191). -/
abbrev Config.records : Nat := 8192
/-- Largest Flow Map (R80: at most 4,096 entries). -/
abbrev Config.flowEntries : Nat := 4096
/-- Most queued frames that a record counts (R2). -/
abbrev Config.queuedMax : Nat := 8192
/-- Most frames in flight under a slot of an EGRESS record: four lanes of two (R3, R19). -/
abbrev Config.egressInFlight : Nat := 8
/-- Most frames in flight under a slot of an INGRESS record: four lanes of four (R3, R19). -/
abbrev Config.ingressInFlight : Nat := 16
/-- Cells of one Holding Buffer (R91). -/
abbrev Config.holdingCells : Nat := 2048
/-- Cells of one Delivery Buffer (R110). -/
abbrev Config.deliveryCells : Nat := 512
/-- Octets of one cell (00_scope.md, section 3: cell). -/
abbrev Config.cellOctets : Nat := 128
/-- Most cells one received outbound frame holds (R91, R92). -/
abbrev Config.frameCells : Nat := 72
/-- Words of the Command FIFO and of the Response FIFO (section 10.2, R157). -/
abbrev Config.fifoWords : Nat := 256
/-- Response FIFO words that must be free before a command is taken (R157). -/
abbrev Config.responseRoom : Nat := 64
/-- Most words of a response body that Walk Table builds (R147). -/
abbrev Config.walkBody : Nat := 63
/-- Largest value of lead, grace, overlap and of the stage and grace timers (R1, R2). -/
abbrev Config.timerMax : Nat := 1048575
/-- Largest value of a 32-bit counter. -/
abbrev Config.max32 : Nat := 4294967295
/-- Largest value of a 64-bit counter. -/
abbrev Config.max64 : Nat := 18446744073709551615
/-- Largest switch count (R2). -/
abbrev Config.switchCountMax : Nat := 65535
/-- The last sequence number of a key, 2^48−1 (section 2.4). -/
abbrev Config.seqMax : Nat := 281474976710655
/-- The soft threshold taken under the use-default indication, 2^47 (R1). -/
abbrev Config.defaultT : Nat := 140737488355328
/-- The replay window size taken under the use-default indication (R1). -/
abbrev Config.defaultW : Nat := 63
/-- Largest replay window size (R1). -/
abbrev Config.windowMax : Nat := 255
/-- Octets in one lifetime block (R51). -/
abbrev Config.lifeBlock : Nat := 65536
/-- Largest system maximum frame S (R132). -/
abbrev Config.frameMax : Nat := 9216
/-- Smallest frame, and smallest S (R93, R132). -/
abbrev Config.frameMin : Nat := 64
/-- Octets the envelope adds to a frame (section 2.7). -/
abbrev Config.envelopeOctets : Nat := 28
/-- Shortest enveloped line-side frame (R115). -/
abbrev Config.envelopedMin : Nat := 92
/-- Largest quanta value of a PAUSE frame (R91). -/
abbrev Config.quantaMax : Nat := 65535

/-- The check code computed from a key and a salt (R3, R21). The manual calls it internal and gives neither its
width nor its computation: a free value of the model (log entry 3). -/
opaque Config.checkCode : BitVec 256 → BitVec 48 → Nat

/-- Octet `i` of the key stream of the cipher function under a key and a nonce (section 1.4 of 00_scope.md:
AES-256 in Galois/Counter mode, whose internal working the manual does not restate; log entry 4). -/
opaque Config.keyStream : BitVec 256 → BitVec 96 → Nat → Byte

/-- The 16-octet check tag of the cipher function over the associated data and the ciphertext (section 1.4 of
00_scope.md; log entry 4). -/
opaque Config.checkTag : BitVec 256 → BitVec 96 → List Byte → List Byte → BitVec 128

/-- The kind field of a Walk Table summary of a FREE record, which "has no meaning" (R146): a free value, drawn
afresh for each summary by its place in the sequence of such summaries (log entry 5). -/
opaque Config.freeKindBit : Nat → Bool

end Sys2Proof
end

