-- ==== Sys2Proof/Syntax.lean ====
section
/-!
DEFINITION. The commands and events the part takes: one constructor of `Instr` for each row of
spec/opcode_table.json, with the row's operands.

The twenty command rows carry no operand of their own: a command's words stand in the Command FIFO, written there by
HEADER, BODY and KEY writes, and the row is the event at which the Command Processor takes the oldest closed command and
its owner carries it out (R157). An event at a record or an engine names the record, lane or store at which it is taken,
and, where it is the taking of a message in transit, the message.
-/

namespace Sys2Proof

/-- A side of a lane (00_scope.md, section 1.1). -/
inductive Side where
  | system
  | line
deriving DecidableEq, Repr

/-- How a granted egress frame ended (R36). -/
inductive ReleaseOutcome where
  | completed
  | aborted
deriving DecidableEq, Repr

/-- A release, as an Egress Engine sends it to the Association Manager (R36). -/
structure ReleaseMsg where
  record : Nat
  slot : SlotNo
  outcome : ReleaseOutcome
  /-- protected octets n -/
  octets : Nat
deriving DecidableEq, Repr

/-- Why a looked-up frame is abandoned (R123). -/
inductive AbandonReason where
  | badTag
  | abort
deriving DecidableEq, Repr

/-- An abandon, as an Ingress Engine sends it to the Association Manager (R121, R123). -/
structure AbandonMsg where
  record : Nat
  slot : SlotNo
  reason : AbandonReason
deriving DecidableEq, Repr

/-- The state each link of each lane is in when a reset ends, bit k for lane k, 1 for UP (R132). -/
structure LinkStates where
  system : BitVec 4
  line : BitVec 4
deriving DecidableEq, Repr

/-- An inbound frame whose last octet has arrived: from the line, with its octets, or from the loop, where the octets
are those of the frame that the same lane's Egress Engine hands over (R111, R112). -/
inductive Arrival where
  | line (octets : Frame)
  | loop
deriving DecidableEq, Repr

/-- The commands and events of spec/opcode_table.json, in the table's order. -/
inductive Instr where
  /-- INSTALL_ASSOCIATION (R8) -/
  | installAssociation
  /-- ACTIVATE_ASSOCIATION (R10) -/
  | activateAssociation
  /-- MODIFY_ASSOCIATION (R11) -/
  | modifyAssociation
  /-- RETIRE_ASSOCIATION (R15) -/
  | retireAssociation
  /-- READ_ASSOCIATION (R143) -/
  | readAssociation
  /-- CLEAR_COUNTERS (R24) -/
  | clearCounters
  /-- LOAD_NEXT_KEY (R58, R69) -/
  | loadNextKey
  /-- ROLL_NOW (R57) -/
  | rollNow
  /-- FORCE_SWITCH (R66, R74) -/
  | forceSwitch
  /-- ADD_FLOW (R85) -/
  | addFlow
  /-- REMOVE_FLOW (R88) -/
  | removeFlow
  /-- READ_FLOW (R88) -/
  | readFlow
  /-- SET_LANE_MODE (R133) -/
  | setLaneMode
  /-- CONFIGURE_LANE (R138) -/
  | configureLane
  /-- SAMPLE_LANE_COUNTERS (R141) -/
  | sampleLaneCounters
  /-- RESTART_LANE (R142) -/
  | restartLane
  /-- WALK_TABLE (R145) -/
  | walkTable
  /-- TAKE_ATTENTION (R150) -/
  | takeAttention
  /-- CONFIGURE_PART (R159) -/
  | configurePart
  /-- READ_PART (R160) -/
  | readPart
  /-- COMMAND_ANSWERED_BY_PORT (R157) -/
  | commandAnsweredByPort
  /-- HEADER_WRITE (R153): a word written to HEADER -/
  | headerWrite (word : Word)
  /-- BODY_WRITE (R154): a word written to BODY -/
  | bodyWrite (word : Word)
  /-- KEY_WRITE (R155): a word written to KEY -/
  | keyWrite (word : Word)
  /-- RESPONSE_READ (R158) -/
  | responseRead
  /-- SERVICE_STATUS_WRITE (R161): a word written to SERVICE STATUS -/
  | serviceStatusWrite (word : Word)
  /-- SERVICE_ENABLE_WRITE (R162): a word written to SERVICE ENABLE -/
  | serviceEnableWrite (word : Word)
  /-- HOLD_BIT_WRITE (R163): a CONTROL write whose Part Reset request is 0; the operand is its hold bit -/
  | holdBitWrite (hold : Bool)
  /-- PART_RESET (R163): a CONTROL write whose Part Reset request is 1; the operand is its hold bit -/
  | partReset (hold : Bool)
  /-- PART_RESET_END (R163), with the link states found at the reset's end (R132) -/
  | partResetEnd (links : LinkStates)
  /-- IGNORED_WRITE (R152): a write of a word to an offset of the window that takes none -/
  | ignoredWrite (offset : Nat) (word : Word)
  /-- ASSEMBLY_EXPIRY (R156) -/
  | assemblyExpiry
  /-- POWER_ON_RESET (R25), with the link states found at the reset's end (R132) -/
  | powerOnReset (links : LinkStates)
  /-- PCIE_FUNDAMENTAL_RESET (R25), with the link states found at the reset's end (R132) -/
  | pcieFundamentalReset (links : LinkStates)
  /-- TICK (R42) -/
  | tick
  /-- RECORD_TICK (R46) at one record -/
  | recordTick (record : Nat)
  /-- LIFETIME_THRESHOLD (R52, R53): the tick at one record at which the lifetime threshold acts -/
  | lifetimeThreshold (record : Nat)
  /-- LEAD_EXPIRY (R60): the tick at one record at which the lead expires -/
  | leadExpiry (record : Nat)
  /-- GRACE_EXPIRY (R62): the tick at one record at which the grace expires -/
  | graceExpiry (record : Nat)
  /-- OVERLAP_EXPIRY (R72): the tick at one record at which the overlap expires -/
  | overlapExpiry (record : Nat)
  /-- EVIDENCE_ARRIVAL (R61) at an egress record, sent by an ingress record -/
  | evidenceArrival (sender receiver : Nat)
  /-- ALLOCATION_REQUEST (R27): the request sent by a lane's Egress Engine is taken at its record -/
  | allocationRequest (lane : LaneId)
  /-- RELEASE (R37): a release in transit is taken at its record -/
  | release (msg : ReleaseMsg)
  /-- ENQUEUE (R19): an enqueue sent by a lane's Egress Engine is taken at its record -/
  | enqueue (lane : LaneId) (record : Nat)
  /-- QUEUED_FRAME_WITHDRAWAL (R19): a withdrawal sent by a lane's Egress Engine is taken at its record -/
  | queuedFrameWithdrawal (lane : LaneId) (record : Nat)
  /-- LOOKUP (R116): the lookup request of a store of a lane's Ingress Engine is taken -/
  | lookup (lane : LaneId) (store : StoreId)
  /-- COMMIT (R122): the commit of a store of a lane's Ingress Engine is taken at its record -/
  | commit (lane : LaneId) (store : StoreId)
  /-- ABANDON (R123): an abandon in transit is taken at its record -/
  | abandon (msg : AbandonMsg)
  /-- CELL_CLAIM (R92): an octet of an outbound frame arrives on a lane's system side; `first` when it is the frame's
  first octet -/
  | cellClaim (lane : LaneId) (first : Bool) (octet : Byte)
  /-- EGRESS_RECEIVE_COMPLETION (R93): the last octet of the outbound frame in reception has arrived -/
  | egressReceiveCompletion (lane : LaneId)
  /-- HEAD_TAKEN (R96) -/
  | headTaken (lane : LaneId)
  /-- ALLOCATION_ANSWER (R98) -/
  | allocationAnswer (lane : LaneId)
  /-- TRANSMISSION_BEGIN (R101) -/
  | transmissionBegin (lane : LaneId)
  /-- TRANSMISSION_COMPLETION (R101) -/
  | transmissionCompletion (lane : LaneId)
  /-- LINE_PAUSE_INDICATION (R108) -/
  | linePauseIndication (lane : LaneId)
  /-- LINE_PAUSE_EXPIRY (R108) -/
  | linePauseExpiry (lane : LaneId)
  /-- REFRESH_EXPIRY (R105) -/
  | refreshExpiry (lane : LaneId)
  /-- PAUSE_FRAME_SEND (R106) -/
  | pauseFrameSend (lane : LaneId)
  /-- LINK_EVENT (R137): one link of a lane is reported UP or DOWN; `arrived` is the number of octets of the line frame
  in reception that had arrived when the line link was lost (R112) -/
  | linkEvent (lane : LaneId) (side : Side) (up : Bool) (arrived : Nat)
  /-- LINE_FRAME_START (R111) -/
  | lineFrameStart (lane : LaneId)
  /-- LOOP_HANDOVER_START (R111) -/
  | loopHandoverStart (lane : LaneId)
  /-- INGRESS_RECEIVE_COMPLETION (R112) -/
  | ingressReceiveCompletion (lane : LaneId) (arrival : Arrival)
  /-- SYSTEM_PAUSE_INDICATION (R127) -/
  | systemPauseIndication (lane : LaneId)
  /-- LOOKUP_ANSWER (R118) -/
  | lookupAnswer (lane : LaneId) (store : StoreId)
  /-- VERIFICATION_COMPLETION (R121) -/
  | verificationCompletion (lane : LaneId) (store : StoreId)
  /-- COMMIT_ANSWER (R124) -/
  | commitAnswer (lane : LaneId) (store : StoreId)
  /-- DELIVERY_START (R126) -/
  | deliveryStart (lane : LaneId)
  /-- DELIVERY_COMPLETION (R126) -/
  | deliveryCompletion (lane : LaneId)
  /-- SYSTEM_PAUSE_EXPIRY (R127) -/
  | systemPauseExpiry (lane : LaneId)
deriving DecidableEq, Repr

end Sys2Proof
end

