-- ==== Sys2Proof/WellFormed.lean ====
section
/-!
DEFINITION. The checks on a command's operands that its constructor's types do not already make.
-/

namespace Sys2Proof

/-- A record index of the Association Table, 0..8191 (00_scope.md, section 2: indices). -/
abbrev recordIndexOk (i : Nat) : Bool := decide (i < Config.records)

/-- The protected octets n of an outbound frame (R26, R36: 44..9,200). -/
abbrev protectedOctetsOk (n : Nat) : Bool := decide (44 ≤ n ∧ n ≤ 9200)

/-- An offset of the 64-octet window at which a written word is ignored: RESPONSE, LEVELS, or no place at all
(R152, section 11.2). The manual says nothing of an access at an offset that is not a multiple of 4; that such a write is no
command of the part is the model's choice (DESIGN CHOICE, log entry 34). -/
abbrev ignoredOffsetOk (o : Nat) : Bool :=
  decide (o < 64 ∧ o % 4 = 0) && !([0x00, 0x04, 0x08, 0x14, 0x18, 0x1C].contains o)

/-- A command's operands lie in the ranges the manual gives them. -/
def Instr.wellFormed : Instr → Bool
  | .ignoredWrite offset _ => ignoredOffsetOk offset
  | .recordTick i | .lifetimeThreshold i | .leadExpiry i | .graceExpiry i | .overlapExpiry i => recordIndexOk i
  | .evidenceArrival sender receiver => recordIndexOk sender && recordIndexOk receiver
  | .release m => recordIndexOk m.record && protectedOctetsOk m.octets
  | .enqueue _ i | .queuedFrameWithdrawal _ i => recordIndexOk i
  | .abandon m => recordIndexOk m.record
  | .ingressReceiveCompletion _ (.line octets) => !octets.isEmpty
  | .ingressReceiveCompletion _ .loop => true
  | .installAssociation | .activateAssociation | .modifyAssociation | .retireAssociation | .readAssociation
  | .clearCounters | .loadNextKey | .rollNow | .forceSwitch | .addFlow | .removeFlow | .readFlow | .setLaneMode
  | .configureLane | .sampleLaneCounters | .restartLane | .walkTable | .takeAttention | .configurePart | .readPart
  | .commandAnsweredByPort | .headerWrite _ | .bodyWrite _ | .keyWrite _ | .responseRead | .serviceStatusWrite _
  | .serviceEnableWrite _ | .holdBitWrite _ | .partReset _ | .partResetEnd _ | .assemblyExpiry | .powerOnReset _
  | .pcieFundamentalReset _ | .tick | .allocationRequest _ | .lookup _ _ | .commit _ _ | .cellClaim _ _ _
  | .egressReceiveCompletion _ | .headTaken _ | .allocationAnswer _ | .transmissionBegin _ | .transmissionCompletion _
  | .linePauseIndication _ | .linePauseExpiry _ | .refreshExpiry _ | .pauseFrameSend _ | .linkEvent _ _ _ _
  | .lineFrameStart _ | .loopHandoverStart _ | .systemPauseIndication _ | .lookupAnswer _ _
  | .verificationCompletion _ _ | .commitAnswer _ _ | .deliveryStart _ | .deliveryCompletion _
  | .systemPauseExpiry _ => true

end Sys2Proof
end

