-- ==== Sys2Proof/Decode.lean ====
section
/-!
DEFINITION. The command a word spells by the bits of spec/opcode_table.json. Every one of the table's 69 rows gives no
bits ("fields": [] and no "fixed"; spec/98_reader.md: n_rows_with_fixed 0, n_rows_with_fields 0), so no word spells a
command. The encodings of the manual's own command words are read where they are taken: in Machine/Operands.lean.
-/

namespace Sys2Proof

/-- The command that a word of `nbits` bits spells by the table's bits: none, for the table gives no row any bits. -/
def decodeTableWord (_nbits _w : Nat) : Option Instr := none

end Sys2Proof
end

