-- ==== Sys2Proof/Machine/State.lean ====
section
/-!
DEFINITION. The state of the part, block by block (00_scope.md, section 1.2), the messages in transit between the
blocks, the outcomes of a step, and the state after reset. INVENTORY.md lists every field with its rule.
-/

namespace Sys2Proof.Machine

/-! ### Association records (chapter 1) -/

/-- Direction of a record (R1). -/
inductive Kind where
  | egress
  | ingress
deriving DecidableEq, Repr

/-- Lifecycle state of a record (R2, R6). -/
inductive RecordState where
  | free
  | staged
  | live
  | halted
  | retiring
deriving DecidableEq, Repr

/-- Rollover stage of a record (R54 egress, R68 ingress). -/
inductive Stage where
  | steady
  | awaitKey
  | lead
  | awaitEvidence
  | armed
  | overlap
  | drainOld
deriving DecidableEq, Repr

/-- Role of a key slot (R3, R4). -/
inductive Role where
  | absent
  | next
  | current
  | old
  | closing
  | damaged
deriving DecidableEq, Repr

/-- Why a record is HALTED (R2). -/
inductive HaltReason where
  | none
  | graceExpired
  | seqExhausted
  | keyFault
deriving DecidableEq, Repr

/-- The condition for switching at lead expiry (R1). -/
inductive SwitchMode where
  | timed
  | evidence
deriving DecidableEq, Repr

/-- What the lifetime counter counts (R1). -/
inductive LifetimeSource where
  | age
  | octets
deriving DecidableEq, Repr

/-- A record's attention causes, a set (R2, R149). -/
structure Causes where
  keyNeeded : Bool := false
  switched : Bool := false
  halted : Bool := false
  staleKey : Bool := false
  keyFault : Bool := false
deriving DecidableEq, Repr

/-- The configuration fields of a record (R1). A field of the other kind holds the value it has in a FREE record. -/
structure RecordConfig where
  kind : Kind := .egress
  /-- bit k for lane k -/
  laneMask : BitVec 4 := 0
  tag : BitVec 24 := 0
  confidential : Bool := false
  companion : Option Nat := .none
  /-- window size W -/
  window : Nat := 0
  switchMode : SwitchMode := .timed
  lead : Nat := 0
  grace : Nat := 0
  overlap : Nat := 0
  lifetimeSource : LifetimeSource := .age
  lifetimeValue : Nat := 0
  /-- soft threshold T -/
  softThreshold : Nat := 0
deriving DecidableEq, Repr

/-- A key slot (R3). The default is the erased slot. -/
structure Slot where
  role : Role := .absent
  keyNumber : BitVec 2 := 0
  key : BitVec 256 := 0
  salt : BitVec 48 := 0
  checkCode : Nat := 0
  inFlight : Nat := 0
  /-- egress: the sequence number the next grant assigns -/
  nextSequence : Nat := 1
  /-- ingress: the highest sequence number accepted, H -/
  highest : Nat := 0
  /-- ingress: the accepted set A, in rising order -/
  accepted : List Nat := []
deriving DecidableEq, Repr

/-- The record counters (R23). -/
structure RecordCounters where
  framesProtected : Nat := 0
  octetsProtected : Nat := 0
  framesRefused : Nat := 0
  framesAccepted : Nat := 0
  octetsAccepted : Nat := 0
  late : Nat := 0
  replay : Nat := 0
  badTag : Nat := 0
  noKey : Nat := 0
deriving DecidableEq, Repr

/-- An association record (R1, R2, and the stale mark of R53). The default is the FREE record of R2. -/
structure Record where
  config : RecordConfig := {}
  state : RecordState := .free
  companionCount : Nat := 0
  flowReferences : Nat := 0
  queuedFrames : Nat := 0
  lifetimeCounter : Nat := 0
  octetRemainder : Nat := 0
  stage : Stage := .steady
  stageTimer : Nat := 0
  graceTimer : Nat := 0
  triggerLatch : Bool := false
  pendingTrigger : Bool := false
  evidence : Bool := false
  switchCapture : Nat := 0
  switchTick : Nat := 0
  switchCount : Nat := 0
  haltReason : HaltReason := .none
  causes : Causes := {}
  staleMark : Bool := false
  /-- the number of the slot in the CURRENT position (R4) -/
  currentSlot : SlotNo := false
  slot0 : Slot := {}
  slot1 : Slot := {}
  counters : RecordCounters := {}
deriving DecidableEq, Repr

/-! ### Walks of the Association Table (chapter 9) -/

/-- Direction of a walk (R145). -/
inductive WalkDirection where
  | up
  | down
deriving DecidableEq, Repr

/-- Filter of a walk (R146). -/
inductive WalkFilter where
  | all
  | inUse
  | attention
  | egress
  | ingress
deriving DecidableEq, Repr

/-- What a walk has built (R147): its entries so far, how many of them are summaries, the run of failing indices being
counted with its first index, and how many free values have been drawn (log entry 5). -/
structure Walk where
  entries : List Word := []
  summaries : Nat := 0
  run : Nat := 0
  runStart : Nat := 0
  draws : Nat
deriving DecidableEq, Repr

/-- A Walk Table between two of its visits (R146): the tag of its command, its parameters, the index it visits next, `none`
past the end of the table, and what it has built. -/
structure WalkTurn where
  tag : Nat
  direction : WalkDirection
  filter : WalkFilter
  count : Nat
  next : Option Nat
  built : Walk
deriving DecidableEq, Repr

/-- The Association Manager (R25): its records by index, an index that is not listed being FREE; the Tag Index (R17),
from tag to record index; the Walk cursor (R148), `none` for END; and how many of the ticks issued each record has taken
(R45), an index not listed having taken none. The Attention Set is the set of indices whose records hold causes (R149),
and is read from the records. -/
structure AssociationManager where
  records : KeyedList Record := []
  tagIndex : KeyedList Nat := []
  walkCursor : Option Nat := some 0
  /-- the Walk Table that is between two visits, if there is one -/
  walk : Option WalkTurn := none
  ticksTaken : KeyedList Nat := []
deriving DecidableEq, Repr

/-! ### Flow Map (chapter 5) -/

/-- A flow key (R80): the lane, the destination MAC and the VLAN ID, `none` for UNTAGGED. -/
structure FlowKey where
  lane : LaneId
  destination : BitVec 48
  vlan : Option (BitVec 12)
deriving DecidableEq, Repr

/-- What a Flow Map entry does with a frame (R80). -/
inductive FlowAction where
  | protect (record : Nat)
  | bypass
  | discard
deriving DecidableEq, Repr

/-- A Flow Map entry (R80). -/
structure FlowEntry where
  key : FlowKey
  action : FlowAction
  hits : Nat
deriving DecidableEq, Repr

/-! ### Egress Engine (chapter 6) -/

/-- Status of a Holding Buffer entry (R91). -/
inductive EntryStatus where
  | receiving
  | queued
  | requested
deriving DecidableEq, Repr

/-- Disposition of a Holding Buffer entry (R91). -/
inductive Disposition where
  | protect (record : Nat)
  | bypass
deriving DecidableEq, Repr

/-- A Holding Buffer entry (R91). Its length is the number of its octets, its cells follow from its length, and its
protected octets n from its octets (R39). -/
structure Entry where
  status : EntryStatus
  octets : Frame
  /-- absent while RECEIVING -/
  disposition : Option Disposition
deriving DecidableEq, Repr

/-- An egress grant (R28). -/
structure EgressGrant where
  record : Nat
  slot : SlotNo
  keyNumber : BitVec 2
  /-- sequence number s -/
  sequence : Nat
  tag : BitVec 24
  confidential : Bool
  key : BitVec 256
  salt : BitVec 48
deriving DecidableEq, Repr

/-- Where a frame in a transmit store goes (R91). -/
inductive Destination where
  | line
  | loop
deriving DecidableEq, Repr

/-- A frame in a transmit store: the octets to be sent, the destination, the grant of a PROTECT frame, and its protected
octets n (R91, R101). -/
structure StoredFrame where
  octets : Frame
  destination : Destination
  grant : Option EgressGrant
  protectedOctets : Nat
deriving DecidableEq, Repr

/-- A transmit store (R91). A RESERVED store knows the destination chosen at the head (R96). -/
inductive TransmitStore where
  | free
  | reserved (destination : Destination)
  | held (frame : StoredFrame)
  | sending (frame : StoredFrame)
deriving DecidableEq, Repr

/-- Why an allocation request is refused (R27). -/
inductive AllocationRefusal where
  | retired
  | notReady
  | halted
  | wrongLane
  | keyFault
deriving DecidableEq, Repr

/-- The answer to an allocation request (R27, R28). -/
inductive AllocationAnswer where
  | refused (reason : AllocationRefusal)
  | granted (grant : EgressGrant)
deriving DecidableEq, Repr

/-- An allocation request in transit (R26), whose lane is that of the engine that holds it. -/
structure AllocationRequest where
  record : Nat
  protectedOctets : Nat
deriving DecidableEq, Repr

/-- An Egress Engine (R91). -/
structure EgressEngine where
  /-- the Holding Buffer, oldest entry first -/
  buffer : List Entry := []
  store0 : TransmitStore := .free
  store1 : TransmitStore := .free
  /-- the number of the store that was last set aside or filled: of two HELD frames the other is the older (R101) -/
  youngest : SlotNo := false
  /-- the allocation request sent whose answer has not been taken at the engine (R98) -/
  request : Option AllocationRequest := .none
  /-- the answer given at the record to that request, `none` until it has been given (R98) -/
  answer : Option AllocationAnswer := .none
  /-- line-side pause timer: `none` idle, or the quanta left (R108) -/
  linePause : Option Nat := .none
  /-- pause generator: ASSERTED when true, QUIET when false (R105) -/
  asserted : Bool := false
  /-- refresh timer: `none` stopped, or the quanta counted (R105) -/
  refresh : Option Nat := .none
  /-- waiting pause frame: its quanta value (R105) -/
  waitingPause : Option Nat := .none
  /-- line-side pause indications handed over by the Ingress Engine and not yet taken, oldest first (R108) -/
  indications : List Nat := []
deriving DecidableEq, Repr

/-! ### Ingress Engine (chapter 7) -/

/-- Where an ingress frame came from (R110). -/
inductive Source where
  | line
  | loop
deriving DecidableEq, Repr

/-- The fields of an envelope header that a lookup carries (R115). -/
structure EnvelopeFields where
  tag : BitVec 24
  keyNumber : BitVec 2
  /-- sequence number s -/
  sequence : Nat
  /-- C -/
  confidential : Bool
deriving DecidableEq, Repr

/-- Why a lookup is refused (R116). -/
inductive LookupRefusal where
  | unknownTag
  | notReady
  | wrongLane
  | badHeader
  | noKey
  | late
  | replay
deriving DecidableEq, Repr

/-- An ingress grant (R116, R20). -/
structure IngressGrant where
  record : Nat
  slot : SlotNo
  key : BitVec 256
  salt : BitVec 48
deriving DecidableEq, Repr

/-- The answer to a lookup request (R116). -/
inductive LookupAnswer where
  | refused (reason : LookupRefusal)
  | granted (grant : IngressGrant)
deriving DecidableEq, Repr

/-- The answer to a commit (R122). -/
inductive CommitAnswer where
  | accepted
  | retired
  | noKey
  | late
  | replay
deriving DecidableEq, Repr

/-- What a frame store holds besides its source and cancel mark, by its status (R110). In LOOKUP and COMMITTING the
answer is `none` until it has been given at the record. The store grant is held from the lookup grant until the frame leaves
the store: a READY store holds it too, and none where its frame is a clear one. -/
inductive StoreStatus where
  | receiving
  | lookup (octets : Frame) (header : EnvelopeFields) (answer : Option LookupAnswer)
  | opening (octets : Frame) (header : EnvelopeFields) (grant : IngressGrant)
  | committing (octets : Frame) (header : EnvelopeFields) (grant : IngressGrant) (plaintext : List Byte)
      (answer : Option CommitAnswer)
  | ready (octets : Frame) (grant : Option IngressGrant)
deriving DecidableEq, Repr

/-- An ingress frame store that is not FREE (R110). -/
structure FrameStore where
  source : Source
  cancelled : Bool
  status : StoreStatus
deriving DecidableEq, Repr

/-- The line-side receiver: no frame arriving, or a frame arriving with the store it claimed, if any (R111). -/
inductive LineReceiver where
  | idle
  | receiving (store : Option StoreId)
deriving DecidableEq, Repr

/-- An Ingress Engine (R110). -/
structure IngressEngine where
  /-- frame stores, `none` for FREE -/
  stores : Vector (Option FrameStore) 4 := Vector.replicate 4 .none
  /-- the stores that are not FREE, in the order of their frames' first octets, oldest first -/
  ages : List StoreId := []
  receiver : LineReceiver := .idle
  /-- the Delivery Buffer, oldest entry first -/
  delivery : List Frame := []
  /-- delivery transmitter: SENDING when true, IDLE when false -/
  sending : Bool := false
  /-- system-side pause timer: `none` idle, or the quanta left (R127) -/
  systemPause : Option Nat := .none
  /-- system-side pause indications handed over by the Egress Engine and not yet taken, oldest first (R127) -/
  indications : List Nat := []
deriving DecidableEq, Repr

/-! ### Lane Controller (chapter 8) -/

/-- Lane mode (R132). -/
inductive Mode where
  | off
  | clear
  | protect
  | looptest
deriving DecidableEq, Repr

/-- Disposition of an outbound frame that misses the Flow Map (R132). -/
inductive DefaultAction where
  | bypass
  | discard
deriving DecidableEq, Repr

/-- What happens to an inbound clear frame (R132). -/
inductive ClearPolicy where
  | dropClear
  | acceptClear
deriving DecidableEq, Repr

/-- The 16 outbound lane counters, in the order listed in R140. -/
inductive OutCounter where
  | runt
  | badFcs
  | tooLong
  | bufferFull
  | laneOff
  | discard
  | linkDown
  | flushed
  | notReady
  | halted
  | retired
  | wrongLane
  | keyFault
  | aborted
  | framesPassed
  | pauseFramesSent
deriving DecidableEq, Repr

/-- The 20 inbound lane counters, in the order listed in R140. -/
inductive InCounter where
  | runt
  | badFcs
  | tooLong
  | laneOff
  | looptest
  | overrun
  | clearDropped
  | badHeader
  | unknownTag
  | notReady
  | wrongLane
  | noKey
  | late
  | replay
  | badTag
  | retired
  | deliveryFull
  | linkDown
  | aborted
  | framesPassed
deriving DecidableEq, Repr

/-- A lane's 36 counters, each direction in the order of R140. -/
structure LaneCounters where
  outbound : Vector Nat 16 := Vector.replicate 16 0
  inbound : Vector Nat 20 := Vector.replicate 20 0
deriving DecidableEq, Repr

/-- A lane's settings (R132): S, default action, clear policy, H_m, L_m and Q. -/
structure LaneConfig where
  maxFrame : Nat := 1522
  defaultAction : DefaultAction := .discard
  clearPolicy : ClearPolicy := .dropClear
  highMark : Nat := 1536
  lowMark : Nat := 1024
  quanta : Nat := 65535
deriving DecidableEq, Repr

/-- What the Lane Controller holds for one lane (R132). -/
structure LaneControl where
  mode : Mode := .off
  systemUp : Bool := false
  lineUp : Bool := false
  config : LaneConfig := {}
  counters : LaneCounters := {}
  sampleCounters : LaneCounters := {}
  sampleTick : Nat := 0
deriving DecidableEq, Repr

/-- One lane: its part of the Lane Controller, its two engines, and the last frame that each of its transmitters has
sent whole (the model's own record of the lane's outputs). -/
structure Lane where
  control : LaneControl := {}
  egress : EgressEngine := {}
  ingress : IngressEngine := {}
  lastLineFrame : Option Frame := .none
  lastSystemFrame : Option Frame := .none
deriving DecidableEq, Repr

/-! ### Timebase and Command Port (chapters 3 and 10) -/

/-- The Timebase (R42, R43): the tick count, the prescaler setting, the prescaler of the interval in progress, and the
number of ticks issued to the records since the last reset. -/
structure Timebase where
  tickCount : Nat := 0
  prescaler : Nat := 0
  intervalPrescaler : Nat := 0
  issued : Nat := 0
deriving DecidableEq, Repr

/-- The place a body word was written through (section 10.2). -/
inductive Place where
  | body
  | key
deriving DecidableEq, Repr

/-- How far a command of the Command FIFO is: in assembly with body words still expected, complete, or closed as
truncated (R153, R156). -/
inductive Phase where
  | assembling (expected : Nat)
  | complete
  | truncated
deriving DecidableEq, Repr

/-- A command of the Command FIFO: its words with the places they were written through, and its marks (section 10.2). -/
structure Command where
  header : Word
  body : List (Place × Word)
  overflow : Bool
  framing : Bool
  phase : Phase
deriving DecidableEq, Repr

/-- A flow command at the Flow Classifier whose response is not posted yet (R84, R157). -/
inductive FlowTurn where
  /-- it waits for the enqueues of the frames that were classified PROTECT before it arrived -/
  | waiting (command : Command) (awaited : List (LaneId × Nat))
  /-- it has changed the map; the reference release on a record waits for the enqueues of the frames that were classified
  PROTECT before that change -/
  | releasing (command : Command) (record : Nat) (awaited : List (LaneId × Nat))
deriving DecidableEq, Repr

/-- One bit for each service flag (R161). -/
structure ServiceBits where
  response : Bool := false
  space : Bool := false
  attention : Bool := false
  lane : Bool := false
  portFault : Bool := false
deriving DecidableEq, Repr

/-- The Command Port (chapter 10). RESPONSE, SPACE and ATTENTION are level flags, read from the state (R161). -/
structure CommandPort where
  /-- the Command FIFO, oldest command first -/
  commands : List Command := []
  /-- the Response FIFO, oldest word first -/
  responses : List Word := []
  laneFlag : Bool := false
  portFault : Bool := false
  enables : ServiceBits := {}
  hold : Bool := false
  envelopeType : BitVec 16 := 0x88B6
  responseThreshold : Nat := 1
  spaceThreshold : Nat := 64
  /-- a Part Reset lasts (R163) -/
  resetting : Bool := false
deriving DecidableEq, Repr

/-! ### The whole part -/

/-- Messages sent by one block and not yet taken at another (R25), besides those an engine holds itself. -/
structure Transit where
  enqueues : List (LaneId × Nat) := []
  withdrawals : List (LaneId × Nat) := []
  releases : List ReleaseMsg := []
  abandons : List AbandonMsg := []
  /-- evidence arrivals: the sending ingress record and the receiving egress record (R71) -/
  evidence : List (Nat × Nat) := []
deriving DecidableEq, Repr

/-- The part's connections to the host: the endpoint's input "message signalling enabled" (R162), the number of service
messages sent, and the word the last window read of RESPONSE returned. -/
structure HostPins where
  messageSignalling : Bool := true
  messagesSent : Nat := 0
  readData : Word := 0
deriving DecidableEq, Repr

/-- The state of the part, with the queue of the commands and events that wait to be taken. -/
structure State where
  manager : AssociationManager := {}
  flowMap : List FlowEntry := []
  /-- the flow command at the Flow Classifier between two events of its turn, if there is one -/
  flowTurn : Option FlowTurn := none
  lanes : Vector Lane 4 := Vector.replicate 4 {}
  timebase : Timebase := {}
  port : CommandPort := {}
  transit : Transit := {}
  pins : HostPins := {}
  /-- how many free values have been drawn (log entry 5): the model's own -/
  freeDraws : Nat := 0
  /-- how many records a walk visits before another event may be taken (R146, log entry 36): the model's own -/
  walkPace : Nat := 1
  pending : List Instr := []
deriving DecidableEq, Repr

/-- Why a step can stop with a fault: there is no such reason. The manual gives every command and event an effect, and
gives the part no condition that stops it, so no meaning answers with a fault. -/
inductive Fault where
deriving DecidableEq, Repr

/-- Why a step can be refused. -/
inductive Refusal where
  /-- Raised by the arm of `exec` of a command whose meaning is not written. Safe: the model stops where the part goes
  on. No arm raises it. -/
  | notModelled (mnemonic : String)
deriving DecidableEq, Repr

/-- The part right after reset (R25, R42, R80, R91, R110, R132, R161, R163): every record FREE, every buffer and FIFO
empty, every lane OFF with its default settings. The links, which R132 takes as they are found when the reset ends, are
held DOWN (log entry 6), and message signalling, which no reset changes, is enabled (log entry 7). -/
def State.reset : State := {}

end Sys2Proof.Machine
end

