-- ==== Sys2Proof/Machine/Operands.lean ====
section
/-!
DEFINITION. The words the host exchanges with the part: the fields of a word, the twenty command codes and their layouts,
the encodings of every quantity, the status codes and the words of a response (chapter 11).
-/

namespace Sys2Proof.Machine

/-! ### Fields of a word -/

/-- The field "hi:lo" of a word: the bits hi down to lo (chapter 11, opening). -/
def bits (w : Word) (hi lo : Nat) : Nat := w.toNat / 2 ^ lo % 2 ^ (hi + 1 - lo)

/-- Bit k of a word. -/
def flag (w : Word) (k : Nat) : Bool := w.getLsbD k

/-- 1 for yes, set and UP; 0 for no, clear and DOWN (section 11.3). -/
def bit (b : Bool) : Nat := if b then 1 else 0

/-- A word made of fields, each given by its lowest bit, its width and its value. -/
def packWord (fields : List (Nat × Nat × Nat)) : Word :=
  BitVec.ofNat 32 (fields.foldl (fun acc f => acc + f.2.2 % 2 ^ f.2.1 * 2 ^ f.1) 0)

/-- A whole word holding a number. -/
def wordOf (n : Nat) : Word := BitVec.ofNat 32 n

/-- The low word of a value of more than 32 bits (R165: low word first). -/
def lowWord (n : Nat) : Word := BitVec.ofNat 32 n

/-- The high word of a value of more than 32 bits (R165). -/
def highWord (n : Nat) : Word := BitVec.ofNat 32 (n / 2 ^ 32)

/-- A number given by words, the most significant first. -/
def bigEndianWords (ws : List Word) : Nat := ws.foldl (fun acc w => acc * 2 ^ 32 + w.toNat) 0

/-! ### Commands of the Command FIFO -/

/-- The twenty commands (section 11.4). -/
inductive CommandName where
  | installAssociation
  | activateAssociation
  | modifyAssociation
  | retireAssociation
  | readAssociation
  | clearCounters
  | loadNextKey
  | rollNow
  | forceSwitch
  | addFlow
  | removeFlow
  | readFlow
  | setLaneMode
  | configureLane
  | sampleLaneCounters
  | restartLane
  | walkTable
  | takeAttention
  | configurePart
  | readPart
deriving DecidableEq, Repr

/-- The command of a code; none for a code that is not listed (section 11.4). -/
def CommandName.ofCode : Nat → Option CommandName
  | 0x01 => some .installAssociation
  | 0x02 => some .activateAssociation
  | 0x03 => some .modifyAssociation
  | 0x04 => some .retireAssociation
  | 0x05 => some .readAssociation
  | 0x06 => some .clearCounters
  | 0x08 => some .loadNextKey
  | 0x09 => some .rollNow
  | 0x0A => some .forceSwitch
  | 0x10 => some .addFlow
  | 0x11 => some .removeFlow
  | 0x12 => some .readFlow
  | 0x18 => some .setLaneMode
  | 0x19 => some .configureLane
  | 0x1A => some .sampleLaneCounters
  | 0x1B => some .restartLane
  | 0x20 => some .walkTable
  | 0x21 => some .takeAttention
  | 0x28 => some .configurePart
  | 0x29 => some .readPart
  | _ => none

/-- Body words of a command's layout (section 11.4). -/
def CommandName.bodyWords : CommandName → Nat
  | .installAssociation => 19
  | .modifyAssociation => 9
  | .loadNextKey => 11
  | .addFlow | .removeFlow | .readFlow | .configurePart => 3
  | .configureLane => 4
  | .takeAttention | .readPart => 0
  | .activateAssociation | .retireAssociation | .readAssociation | .clearCounters | .rollNow | .forceSwitch
  | .setLaneMode | .sampleLaneCounters | .restartLane | .walkTable => 1

/-- A command's layout has key positions: Install Association and Load Next Key alone (R155). -/
def CommandName.hasKeys : CommandName → Bool
  | .installAssociation | .loadNextKey => true
  | _ => false

/-- Whether a body position of a code's layout is a key position (section 11.4, R155: for a code that is not one of the
twenty commands every position is a body position). -/
def keyPosition (code position : Nat) : Bool :=
  match CommandName.ofCode code with
  | some .installAssociation => decide (9 ≤ position ∧ position ≤ 18)
  | some .loadNextKey => decide (1 ≤ position ∧ position ≤ 10)
  | _ => false

/-- Command tag, header bits 31:16 (section 11.2). -/
def headerTag (w : Word) : Nat := bits w 31 16
/-- Command code, header bits 15:8 (section 11.2). -/
def headerCode (w : Word) : Nat := bits w 15 8
/-- Body length, header bits 5:0 (section 11.2). -/
def headerLength (w : Word) : Nat := bits w 5 0

/-- The words a command holds in the FIFO: its header and the body words stored. -/
def Command.words (c : Command) : Nat := 1 + c.body.length

/-- The k-th body word of a command. -/
def Command.word (c : Command) (k : Nat) : Word := ((c.body[k]?).map Prod.snd).getD 0

/-- The body words of a command from position `first`, `n` of them. -/
def Command.wordsFrom (c : Command) (first n : Nat) : List Word := (List.range n).map (fun k => c.word (first + k))

/-- The record index that a command names (section 11.4: word 0, bits 15:0). -/
def Command.index (c : Command) : Nat := bits (c.word 0) 15 0

/-- The key carried by a command whose key words begin at a position: key octets most significant first (R164). -/
def Command.keyAt (c : Command) (first : Nat) : BitVec 256 := BitVec.ofNat 256 (bigEndianWords (c.wordsFrom first 8))

/-- The salt carried by a command whose salt words begin at a position: salt octets 0 and 1 in bits 15:0 of the first
word, whose bits 31:16 are ignored, and octets 2 to 5 in the second (R164). -/
def Command.saltAt (c : Command) (first : Nat) : BitVec 48 :=
  BitVec.ofNat 48 (bits (c.word first) 15 0 * 2 ^ 32 + (c.word (first + 1)).toNat)

/-- A lane number read from a field; none above 3. -/
def laneOf (n : Nat) : Option LaneId := if h : n < 4 then some ⟨n, h⟩ else none

/-! ### Encodings (section 11.3) -/

/-- Encoding of the kind. -/
def Kind.code : Kind → Nat
  | .egress => 0
  | .ingress => 1

/-- Encoding of the state. -/
def RecordState.code : RecordState → Nat
  | .free => 0
  | .staged => 1
  | .live => 2
  | .halted => 3
  | .retiring => 4

/-- Encoding of the stage. -/
def Stage.code : Stage → Nat
  | .steady => 0
  | .awaitKey | .armed => 1
  | .lead | .overlap => 2
  | .awaitEvidence => 3
  | .drainOld => 4

/-- Encoding of the slot role. -/
def Role.code : Role → Nat
  | .absent => 0
  | .next => 1
  | .current => 2
  | .old => 3
  | .closing => 4
  | .damaged => 5

/-- Encoding of the halt reason. -/
def HaltReason.code : HaltReason → Nat
  | .none => 0
  | .graceExpired => 1
  | .seqExhausted => 2
  | .keyFault => 3

/-- Encoding of the causes: five bits, low first. -/
def Causes.code (c : Causes) : Nat :=
  bit c.keyNeeded + 2 * bit c.switched + 4 * bit c.halted + 8 * bit c.staleKey + 16 * bit c.keyFault

/-- Encoding of the switch mode. -/
def SwitchMode.code : SwitchMode → Nat
  | .timed => 0
  | .evidence => 1

/-- The switch mode of a bit. -/
def SwitchMode.ofBit (b : Bool) : SwitchMode := if b then .evidence else .timed

/-- Encoding of the lifetime source. -/
def LifetimeSource.code : LifetimeSource → Nat
  | .age => 0
  | .octets => 1

/-- The lifetime source of a bit. -/
def LifetimeSource.ofBit (b : Bool) : LifetimeSource := if b then .octets else .age

/-- Encoding of a flow action. -/
def FlowAction.code : FlowAction → Nat
  | .protect _ => 0
  | .bypass => 1
  | .discard => 2

/-- Encoding of the lane mode. -/
def Mode.code : Mode → Nat
  | .off => 0
  | .clear => 1
  | .protect => 2
  | .looptest => 3

/-- The lane mode of an encoding; none where it names no mode. -/
def Mode.ofCode : Nat → Option Mode
  | 0 => some .off
  | 1 => some .clear
  | 2 => some .protect
  | 3 => some .looptest
  | _ => none

/-- The default action of an encoding; none where it names none. -/
def DefaultAction.ofCode : Nat → Option DefaultAction
  | 0 => some .bypass
  | 1 => some .discard
  | _ => none

/-- The clear policy of an encoding; none where it names none. -/
def ClearPolicy.ofCode : Nat → Option ClearPolicy
  | 0 => some .dropClear
  | 1 => some .acceptClear
  | _ => none

/-- The place of an outbound counter in the order of R140. -/
def OutCounter.index : OutCounter → Fin 16
  | .runt => 0
  | .badFcs => 1
  | .tooLong => 2
  | .bufferFull => 3
  | .laneOff => 4
  | .discard => 5
  | .linkDown => 6
  | .flushed => 7
  | .notReady => 8
  | .halted => 9
  | .retired => 10
  | .wrongLane => 11
  | .keyFault => 12
  | .aborted => 13
  | .framesPassed => 14
  | .pauseFramesSent => 15

/-- The place of an inbound counter in the order of R140. -/
def InCounter.index : InCounter → Fin 20
  | .runt => 0
  | .badFcs => 1
  | .tooLong => 2
  | .laneOff => 3
  | .looptest => 4
  | .overrun => 5
  | .clearDropped => 6
  | .badHeader => 7
  | .unknownTag => 8
  | .notReady => 9
  | .wrongLane => 10
  | .noKey => 11
  | .late => 12
  | .replay => 13
  | .badTag => 14
  | .retired => 15
  | .deliveryFull => 16
  | .linkDown => 17
  | .aborted => 18
  | .framesPassed => 19

/-! ### Responses -/

/-- The status of a response (section 11.5). -/
inductive Status where
  | ok
  | draining
  | badCommand
  | badFraming
  | overflow
  | truncated
  | badIndex
  | occupied
  | notPresent
  | wrongKind
  | badState
  | badValue
  | tagInUse
  | inUse
  | slotBusy
  | noNextKey
  | alreadyRolling
  | mapFull
  | duplicate
  | noFlow
  | badModeChange
  | empty
  | retiring
  | clamped
deriving DecidableEq, Repr

/-- Status codes (section 11.5). -/
def Status.code : Status → Nat
  | .ok => 0
  | .draining => 1
  | .badCommand => 2
  | .badFraming => 3
  | .overflow => 4
  | .truncated => 5
  | .badIndex => 6
  | .occupied => 7
  | .notPresent => 8
  | .wrongKind => 9
  | .badState => 10
  | .badValue => 11
  | .tagInUse => 12
  | .inUse => 13
  | .slotBusy => 14
  | .noNextKey => 15
  | .alreadyRolling => 16
  | .mapFull => 17
  | .duplicate => 18
  | .noFlow => 19
  | .badModeChange => 20
  | .empty => 21
  | .retiring => 22
  | .clamped => 23

/-- What an owner answers to a command: the status and the body. -/
structure Reply where
  status : Status
  body : List Word := []
deriving DecidableEq, Repr

/-- The header word of a response: the echoed tag, the status and the body length (section 11.2). -/
def responseHeader (tag : Nat) (status : Status) (length : Nat) : Word :=
  packWord [(16, 16, tag), (8, 8, status.code), (0, 6, length)]

/-- A response: its header word followed by its body words (R157). -/
def responseWords (tag : Nat) (r : Reply) : List Word := responseHeader tag r.status r.body.length :: r.body

end Sys2Proof.Machine
end

