-- ==== Sys2Proof/Machine/Flags.lean ====
section
/-!
DEFINITION. The service flags, the service request and the service message (section 10.5).
-/

namespace Sys2Proof.Machine

/-- A record's attention causes are not empty (R149). -/
def Causes.any (c : Causes) : Bool := c.keyNeeded || c.switched || c.halted || c.staleKey || c.keyFault

/-- The Attention Set: the indices of the records whose attention causes are not empty, lowest first (R149). -/
def AssociationManager.attentionSet (m : AssociationManager) : List Nat :=
  (m.records.filter (fun p => p.2.causes.any)).map Prod.fst

/-- Words held in the Command FIFO (section 10.2). -/
def CommandPort.commandWords (p : CommandPort) : Nat := (p.commands.map Command.words).sum

/-- Free words of the Command FIFO (R152). -/
def CommandPort.freeCommandWords (p : CommandPort) : Nat := Config.fifoWords - p.commandWords

/-- Free words of the Response FIFO (R157). -/
def CommandPort.freeResponseWords (p : CommandPort) : Nat := Config.fifoWords - p.responses.length

/-- The five service flags as they stand (R161). -/
def State.serviceFlags (s : State) : ServiceBits where
  response := decide (s.port.responseThreshold ≤ s.port.responses.length)
  space := decide (s.port.spaceThreshold ≤ s.port.freeCommandWords)
  attention := !s.manager.attentionSet.isEmpty
  lane := s.port.laneFlag
  portFault := s.port.portFault

/-- At least one flag is true with its enable set (R162). -/
def ServiceBits.meets (flags enables : ServiceBits) : Bool :=
  (flags.response && enables.response) || (flags.space && enables.space) || (flags.attention && enables.attention)
    || (flags.lane && enables.lane) || (flags.portFault && enables.portFault)

/-- The service request is asserted: a flag is true with its enable set, and the hold bit is clear (R162). -/
def State.requestAsserted (s : State) : Bool := s.serviceFlags.meets s.port.enables && !s.port.hold

/-- A service message is sent, unless message signalling is not enabled, when a message due is not sent and not kept
(R162). -/
def State.sendMessage (s : State) : State :=
  if s.pins.messageSignalling then
    { s with pins := { s.pins with messagesSent := s.pins.messagesSent + 1 } }
  else s

/-- The state after one event, with the service message that the event sends: one when it changes the request from not
asserted to asserted (R162). -/
def State.notify (before after : State) : State :=
  if !before.requestAsserted && after.requestAsserted then after.sendMessage else after

/-- The state after a write to SERVICE STATUS, SERVICE ENABLE or CONTROL: a message is sent when the request is asserted
after the write, whether it was asserted before or not (R162). -/
def State.notifyWrite (after : State) : State := if after.requestAsserted then after.sendMessage else after

/-- The positions of the five flags in SERVICE STATUS and SERVICE ENABLE (section 11.2). -/
def ServiceBits.ofWord (w : Word) : ServiceBits where
  response := flag w 0
  space := flag w 1
  attention := flag w 2
  lane := flag w 3
  portFault := flag w 4

/-- The word a read of SERVICE STATUS or SERVICE ENABLE gives for five bits (section 11.2). -/
def ServiceBits.toWord (b : ServiceBits) : Word :=
  packWord [(0, 1, bit b.response), (1, 1, bit b.space), (2, 1, bit b.attention), (3, 1, bit b.lane),
    (4, 1, bit b.portFault)]

end Sys2Proof.Machine
end

