-- ==== Sys2Proof/Machine/Records.lean ====
section
/-!
DEFINITION. The operations on one association record and its slots that the commands, requests and ticks share: slots
written, erased and closed, the reading of a key, attention causes, halting, lifetime, triggers, the lead, the two
switches, the replay window, and the return to FREE (chapters 1 to 4, sections 7.4 and 7.5).
-/

namespace Sys2Proof.Machine

/-! ### Slots -/

/-- The FREE record (R2). -/
def Record.free : Record := {}

/-- A slot of a record by its number. -/
def Record.slot (r : Record) (k : SlotNo) : Slot := if k then r.slot1 else r.slot0

/-- The record with one slot given. -/
def Record.setSlot (r : Record) (k : SlotNo) (sl : Slot) : Record :=
  if k then { r with slot1 := sl } else { r with slot0 := sl }

/-- The erased slot: ABSENT, with nothing left of key, salt and check code (R3). -/
def Slot.erased : Slot := {}

/-- A slot written with a key and salt: a fresh check code, in-flight 0, next sequence 1, H 0 and A empty (R3). -/
def Slot.written (role : Role) (keyNumber : BitVec 2) (key : BitVec 256) (salt : BitVec 48) : Slot where
  role := role
  keyNumber := keyNumber
  key := key
  salt := salt
  checkCode := Config.checkCode key salt

/-- A slot whose role ends: ABSENT and erased when no frame holds a grant under it, CLOSING otherwise (R5). -/
def Slot.close (sl : Slot) : Slot := if sl.inFlight = 0 then Slot.erased else { sl with role := .closing }

/-- A slot found damaged (R22). -/
def Slot.damage (sl : Slot) : Slot := { sl with role := .damaged }

/-- The read of a slot's key passes its check code (R21). -/
def Slot.keyPasses (sl : Slot) : Bool := sl.checkCode == Config.checkCode sl.key sl.salt

/-- The slot in the CURRENT position (R4). -/
def Record.currentPosition (r : Record) : Slot := r.slot r.currentSlot

/-- The slot that is not in the CURRENT position (R4, R58). -/
def Record.otherPosition (r : Record) : Slot := r.slot (!r.currentSlot)

/-- The record holds a usable NEXT: a NEXT slot that is present and not DAMAGED (R4). -/
def Record.usableNext (r : Record) : Bool := r.otherPosition.role == .next

/-! ### Attention causes, halting and the return to FREE -/

/-- The record halts for a reason, with cause HALTED (R7). -/
def Record.halt (r : Record) (why : HaltReason) : Record :=
  { r with state := .halted, haltReason := why, causes := { r.causes with halted := true } }

/-- The entry into a stage, which sets the stage timer to 0 (R47). -/
def Record.enter (r : Record) (st : Stage) : Record := { r with stage := st, stageTimer := 0 }

/-- Cause KEY_NEEDED raised (R149). -/
def Record.raiseKeyNeeded (r : Record) : Record := { r with causes := { r.causes with keyNeeded := true } }

/-- Cause KEY_FAULT raised (R149). -/
def Record.raiseKeyFault (r : Record) : Record := { r with causes := { r.causes with keyFault := true } }

/-- A RETIRING record with queued frames and both in-flight counts at 0 becomes FREE (R16). -/
def Record.freeWhenDrained (r : Record) : Record :=
  if r.state = .retiring ∧ r.queuedFrames = 0 ∧ r.slot0.inFlight = 0 ∧ r.slot1.inFlight = 0 then Record.free else r

/-! ### Lifetime (sections 3.4 and 3.5) -/

/-- The lifetime threshold condition: the value is not 0 and the counter is at or above it (R52, R53). -/
def Record.lifetimeReached (r : Record) : Bool :=
  r.config.lifetimeValue != 0 && decide (r.config.lifetimeValue ≤ r.lifetimeCounter)

/-- The credit of a frame's protected octets under source OCTETS; under AGE nothing is credited (R51). -/
def Record.credit (r : Record) (n : Nat) : Record :=
  match r.config.lifetimeSource with
  | .age => r
  | .octets =>
    if Config.lifeBlock ≤ r.octetRemainder + n then
      { r with lifetimeCounter := satAdd Config.max32 r.lifetimeCounter 1
               octetRemainder := r.octetRemainder + n - Config.lifeBlock }
    else { r with octetRemainder := r.octetRemainder + n }

/-- The lifetime threshold at an ingress record: STALE_KEY is raised and the stale mark set, unless it is set (R53). -/
def Record.staleCheck (r : Record) : Record :=
  if r.lifetimeReached && !r.staleMark then
    { r with staleMark := true, causes := { r.causes with staleKey := true } }
  else r

/-! ### The egress switch, the lead and triggers (chapter 4) -/

/-- Steps 2 to 6 of an egress switch, from a NEXT slot whose key has passed its check (R63). -/
def Record.switchTo (r : Record) (tickCount : Nat) : Record :=
  let old := r.currentPosition
  let moved := (r.setSlot (!r.currentSlot) { r.otherPosition with role := .current, nextSequence := 1 }).setSlot
    r.currentSlot old.close
  { moved with
    currentSlot := !r.currentSlot
    switchCapture := old.nextSequence - 1
    switchTick := tickCount % 2 ^ 32
    lifetimeCounter := 0
    octetRemainder := 0
    stageTimer := 0
    graceTimer := 0
    triggerLatch := false
    pendingTrigger := false
    evidence := false
    switchCount := satAdd Config.switchCountMax r.switchCount 1
    causes := { r.causes with switched := true }
    stage := if old.inFlight = 0 then .steady else .drainOld
    state := if r.state = .halted then .live else r.state
    haltReason := if r.state = .halted then .none else r.haltReason }

/-- Step 1 of R63 finding a key fault: the NEXT slot becomes DAMAGED, with cause KEY_FAULT (R64, R22). -/
def Record.nextFault (r : Record) : Record :=
  (r.setSlot (!r.currentSlot) r.otherPosition.damage).raiseKeyFault

/-- An egress switch called for at a record: it needs a usable NEXT, whose key is read and checked first (R63, R64). -/
def Record.egressSwitch (r : Record) (tickCount : Nat) : Record :=
  if r.usableNext then
    if r.otherPosition.keyPasses then r.switchTo tickCount else r.nextFault
  else r

/-- A lead expiry (R60). -/
def Record.leadExpiry (r : Record) (tickCount : Nat) : Record :=
  if r.config.switchMode = .timed ∨ r.evidence = true then r.egressSwitch tickCount else r.enter .awaitEvidence

/-- The entry into LEAD; a lead of 0 expires within the event (R55, R59, R60). -/
def Record.enterLead (r : Record) (tickCount : Nat) : Record :=
  if r.config.lead = 0 then (r.enter .lead).leadExpiry tickCount else r.enter .lead

/-- A trigger at an egress record in LIVE, taken in its present stage (R55, R56). -/
def Record.trigger (r : Record) (tickCount : Nat) : Record :=
  match r.stage with
  | .steady =>
    let latched := { r with triggerLatch := true, graceTimer := 0 }
    if r.usableNext then latched.enterLead tickCount else (latched.enter .awaitKey).raiseKeyNeeded
  | .drainOld => { r with pendingTrigger := true }
  | _ => r

/-! ### The end of a frame's grant, and of DRAIN_OLD -/

/-- DRAIN_OLD ends: the stage becomes STEADY, and in LIVE a pending trigger of an egress record fires (R65, R73). -/
def Record.endDrain (r : Record) (tickCount : Nat) : Record :=
  let r' := r.enter .steady
  if r.config.kind = .egress ∧ r.state = .live ∧ r.pendingTrigger = true then
    ({ r' with pendingTrigger := false }).trigger tickCount
  else r'

/-- A frame granted under a slot ends: the slot's in-flight loses 1, and a CLOSING slot whose in-flight reaches 0 is
erased, which ends DRAIN_OLD (R5, R37, R65, R73). -/
def Record.endGrant (r : Record) (k : SlotNo) (tickCount : Nat) : Record :=
  let left := { r.slot k with inFlight := (r.slot k).inFlight - 1 }
  if left.role = .closing ∧ left.inFlight = 0 then
    let erased := r.setSlot k Slot.erased
    if r.stage = .drainOld then erased.endDrain tickCount else erased
  else r.setSlot k left

/-! ### The ingress switch (section 4.11) -/

/-- Steps 1 to 6 of an ingress switch, with the switch capture given (R70, R74). The slot in the CURRENT position becomes
OLD, or is closed when it is DAMAGED or the overlap is 0. -/
def Record.ingressSwitch (r : Record) (capture tickCount : Nat) : Record :=
  let displaced := r.currentPosition
  let keepsOld := displaced.role != .damaged && r.config.overlap != 0
  let old := if keepsOld then { displaced with role := .old } else displaced.close
  let moved := (r.setSlot (!r.currentSlot) { r.otherPosition with role := .current }).setSlot r.currentSlot old
  { moved with
    currentSlot := !r.currentSlot
    switchCapture := capture
    switchTick := tickCount % 2 ^ 32
    lifetimeCounter := 0
    octetRemainder := 0
    staleMark := false
    stageTimer := 0
    switchCount := satAdd Config.switchCountMax r.switchCount 1
    causes := { r.causes with switched := true }
    stage := if keepsOld then .overlap else if displaced.inFlight = 0 then .steady else .drainOld
    state := if r.state = .halted then .live else r.state
    haltReason := if r.state = .halted then .none else r.haltReason }

/-- The OLD slot's overlap ends: the slot is closed, and the stage becomes DRAIN_OLD or STEADY (R72, R22). -/
def Record.endOverlap (r : Record) (k : SlotNo) : Record :=
  (r.setSlot k (r.slot k).close).enter (if (r.slot k).inFlight = 0 then .steady else .drainOld)

/-! ### The replay window (section 7.5) -/

/-- The result of judging a sequence number against a window (R119). -/
inductive Judgment where
  | accept
  | replay
  | late
deriving DecidableEq, Repr

/-- A sequence number judged against H, A and W, the rows of R119 tried in order. -/
def judge (highest : Nat) (accepted : List Nat) (window s : Nat) : Judgment :=
  if highest < s then .accept
  else if max 1 (highest - window) ≤ s then (if s ∈ accepted then .replay else .accept)
  else .late

/-- A number added to a set kept in rising order. -/
def addMember (s : Nat) : List Nat → List Nat
  | [] => [s]
  | a :: t => if s < a then s :: a :: t else if s = a then a :: t else a :: addMember s t

/-- The slot after a sequence number that is accepted: H and A as R119 gives them. -/
def Slot.accept (sl : Slot) (window s : Nat) : Slot :=
  if sl.highest < s then
    { sl with highest := s, accepted := (addMember s sl.accepted).filter (fun x => decide (s - window ≤ x)) }
  else { sl with accepted := addMember s sl.accepted }

/-- The trim of a slot's accepted set when W is lowered: every number below H − W is removed (R12). An ABSENT slot's set is
empty (R3), and stays so. -/
def Slot.trim (sl : Slot) (window : Nat) : Slot :=
  { sl with accepted := sl.accepted.filter (fun x => decide (sl.highest - window ≤ x)) }

/-- A slot's role is eligible for a lookup in the record's state and stage (R117). -/
def Record.eligible (r : Record) (role : Role) : Bool :=
  match r.state, r.stage, role with
  | .live, _, .current => true
  | .live, .armed, .next => true
  | .live, .overlap, .old => true
  | .halted, _, .next => true
  | _, _, _ => false

/-- The slot that a key number selects (R117). -/
def Record.selectSlot (r : Record) (keyNumber : BitVec 2) : Option SlotNo :=
  if r.slot0.keyNumber = keyNumber ∧ r.eligible r.slot0.role = true then some false
  else if r.slot1.keyNumber = keyNumber ∧ r.eligible r.slot1.role = true then some true
  else none

/-- A key fault found on the slot that a lookup selected, by the slot's role (R22). -/
def Record.lookupFault (r : Record) (k : SlotNo) : Record :=
  match (r.slot k).role with
  | .current => (r.setSlot k (r.slot k).damage).halt .keyFault
  | .old => (r.endOverlap k).raiseKeyFault
  | _ => (r.setSlot k (r.slot k).damage).raiseKeyFault

/-! ### Ticks at a record (sections 3.2 and 3.3) -/

/-- Steps 1 and 2 of a tick taken at a LIVE record: the timers and the AGE lifetime advance (R46, R47, R48, R50). -/
def Record.advance (r : Record) : Record :=
  { r with
    stageTimer := satAdd Config.timerMax r.stageTimer 1
    graceTimer :=
      if r.config.kind = .egress ∧ r.triggerLatch = true then satAdd Config.timerMax r.graceTimer 1 else r.graceTimer
    lifetimeCounter :=
      if r.config.lifetimeSource = .age then satAdd Config.max32 r.lifetimeCounter 1 else r.lifetimeCounter }

/-- The lifetime threshold acts at a record: it is reached, and an egress record's trigger latch, or an ingress record's
stale mark, is clear (R52, R53). -/
def Record.lifetimeActs (r : Record) : Bool :=
  r.lifetimeReached && (match r.config.kind with | .egress => !r.triggerLatch | .ingress => !r.staleMark)

/-- The lifetime threshold condition taken at a LIVE record: a trigger at an egress record whose latch is clear, STALE_KEY
at an ingress record whose stale mark is clear (R52, R53). -/
def Record.lifetimeCheck (r : Record) (tickCount : Nat) : Record :=
  match r.config.kind with
  | .egress => if r.lifetimeReached && !r.triggerLatch then r.trigger tickCount else r
  | .ingress => r.staleCheck

/-- The lead comparison of R49 holds. -/
def Record.leadMet (r : Record) : Bool :=
  r.config.kind == .egress && r.stage == .lead && decide (r.config.lead ≤ r.stageTimer)

/-- The grace comparison of R49 holds. -/
def Record.graceMet (r : Record) : Bool :=
  r.config.kind == .egress && (r.stage == .awaitKey || r.stage == .lead || r.stage == .awaitEvidence)
    && r.config.grace != 0 && decide (r.config.grace ≤ r.graceTimer)

/-- The overlap comparison of R49 holds. -/
def Record.overlapMet (r : Record) : Bool :=
  r.config.kind == .ingress && r.stage == .overlap && decide (r.config.overlap ≤ r.stageTimer)

/-- The lead expiry of step 4, where its comparison holds (R49, R60). -/
def Record.leadStep (r : Record) (tickCount : Nat) : Record := if r.leadMet then r.leadExpiry tickCount else r

/-- The grace expiry of step 4, where its comparison holds (R49, R62). -/
def Record.graceStep (r : Record) : Record := if r.graceMet then r.halt .graceExpired else r

/-- The overlap expiry of step 4, where its comparison holds (R49, R72). The OLD slot stands beside the CURRENT one. -/
def Record.overlapStep (r : Record) : Record := if r.overlapMet then r.endOverlap (!r.currentSlot) else r

/-- Steps 1 to 3 of a tick taken at a LIVE record (R46). -/
def Record.tickThirdStep (r : Record) (tickCount : Nat) : Record := r.advance.lifetimeCheck tickCount

/-- A tick taken at a record: the four steps of R46 at a LIVE record, and no effect in any other state (R45). When a lead
and a grace expiry fall at one tick, the lead expiry is taken first (R60). -/
def Record.tick (r : Record) (tickCount : Nat) : Record :=
  if r.state = .live then ((r.tickThirdStep tickCount).leadStep tickCount).graceStep.overlapStep else r

/-! ### An allocation granted (section 2.2) -/

/-- Steps 2 to 4 of a grant: the sequence number assigned, the queued frame taken into the CURRENT slot's in-flight, and
the lifetime credited (R28, R29). -/
def Record.assign (r : Record) (n : Nat) : Record :=
  let sl := r.currentPosition
  ({ r.setSlot r.currentSlot { sl with nextSequence := sl.nextSequence + 1, inFlight := sl.inFlight + 1 } with
     queuedFrames := r.queuedFrames - 1 }).credit n

/-- Step 5 of a grant of sequence number s: one trigger when the soft threshold or the lifetime threshold holds and the
latch is clear (R30). -/
def Record.thresholds (r : Record) (s tickCount : Nat) : Record :=
  if (decide (r.config.softThreshold ≤ s) || r.lifetimeReached) && !r.triggerLatch then r.trigger tickCount else r

/-- Exhaustion at a record whose CURRENT slot has given its last number: a switch to a usable NEXT whose key passes its
check, and otherwise the halt SEQ_EXHAUSTED (R31, R32). -/
def Record.exhaust (r : Record) (tickCount : Nat) : Record :=
  if r.usableNext then
    if r.otherPosition.keyPasses then r.switchTo tickCount else r.nextFault.halt .seqExhausted
  else r.halt .seqExhausted

/-- Step 6 of a grant of sequence number s from slot k: exhaustion, when s is 2^48−1 and the slot is still CURRENT (R28). -/
def Record.exhaustion (r : Record) (k : SlotNo) (s tickCount : Nat) : Record :=
  if s = Config.seqMax ∧ (r.slot k).role = .current then r.exhaust tickCount else r

end Sys2Proof.Machine
end

