-- ==== Sys2Proof/Machine/Ops.lean ====
section
/-!
DEFINITION. The operations on the whole state that the commands and events share: reading and writing records and lanes,
the taking of messages in transit, the taking and answering of a command, the resets, the reads of the register window,
and the passing of time on an empty queue.
-/

namespace Sys2Proof.Machine

/-- The outcome of a command or event. -/
abbrev Result := Host.Outcome State Fault Refusal

/-- The outcome of one event taken in a state, with the service message it sends (R162). -/
def State.takes (before after : State) : Result := .next (before.notify after)

/-! ### Records -/

/-- The record at an index; an index that is not listed is FREE (R2, R25). -/
def State.record (s : State) (i : Nat) : Record := (s.manager.records.find i).getD Record.free

/-- The Association Table with the record at an index given; a record in state FREE is the FREE record (R2). -/
def AssociationManager.setRecord (m : AssociationManager) (i : Nat) (r : Record) : AssociationManager :=
  { m with records := if r.state = .free then m.records.erase i else m.records.insert i r }

/-- The state with the record at an index given. -/
def State.setRecord (s : State) (i : Nat) (r : Record) : State := { s with manager := s.manager.setRecord i r }

/-- The record that the Tag Index leads to (R17): an INGRESS record in STAGED, LIVE or HALTED; none for an absent tag. -/
def State.tagged (s : State) (tag : BitVec 24) : Option Nat :=
  match s.manager.tagIndex.find tag.toNat with
  | some i => if (s.record i).state = .free ∨ (s.record i).state = .retiring then none else some i
  | none => none

/-- The state with an entry inserted in the Tag Index (R17). -/
def State.insertTag (s : State) (tag : BitVec 24) (i : Nat) : State :=
  { s with manager := { s.manager with tagIndex := s.manager.tagIndex.insert tag.toNat i } }

/-- The state with an entry removed from the Tag Index (R17). -/
def State.removeTag (s : State) (tag : BitVec 24) : State :=
  { s with manager := { s.manager with tagIndex := s.manager.tagIndex.erase tag.toNat } }

/-- The companion count of a named record raised by 1 (R18). -/
def State.gainCompanion (s : State) : Option Nat → State
  | none => s
  | some c => s.setRecord c { s.record c with companionCount := (s.record c).companionCount + 1 }

/-- The companion count of a named record lowered by 1 (R18). -/
def State.loseCompanion (s : State) : Option Nat → State
  | none => s
  | some c => s.setRecord c { s.record c with companionCount := (s.record c).companionCount - 1 }

/-- The EGRESS records that name an index as companion (R71). -/
def State.companionsOf (s : State) (i : Nat) : List Nat :=
  (s.manager.records.filter (fun p => p.2.config.kind == .egress && p.2.config.companion == some i)).map Prod.fst

/-- Step 7 of an ingress switch: one evidence arrival is sent to each EGRESS record that names the switched record as
companion (R71). -/
def State.sendEvidence (s : State) (i : Nat) : State :=
  { s with transit := { s.transit with evidence := s.transit.evidence ++ (s.companionsOf i).map (fun e => (i, e)) } }

/-! ### Lanes -/

/-- A lane of the part. -/
def State.lane (s : State) (l : LaneId) : Lane := vget s.lanes l

/-- The state with one lane given. -/
def State.setLane (s : State) (l : LaneId) (v : Lane) : State := { s with lanes := vput s.lanes l v }

/-- An outbound lane counter. -/
def Lane.outCount (v : Lane) (c : OutCounter) : Nat := vget v.control.counters.outbound c.index

/-- An inbound lane counter. -/
def Lane.inCount (v : Lane) (c : InCounter) : Nat := vget v.control.counters.inbound c.index

/-- An increase by n of an outbound lane counter, saturating (R140). -/
def Lane.countOutBy (v : Lane) (c : OutCounter) (n : Nat) : Lane :=
  { v with control := { v.control with counters := { v.control.counters with
      outbound := vput v.control.counters.outbound c.index (satAdd Config.max32 (v.outCount c) n) } } }

/-- An increase by 1 of an outbound lane counter (R109). -/
def Lane.countOut (v : Lane) (c : OutCounter) : Lane := v.countOutBy c 1

/-- An increase by 1 of an inbound lane counter (R131). -/
def Lane.countIn (v : Lane) (c : InCounter) : Lane :=
  { v with control := { v.control with counters := { v.control.counters with
      inbound := vput v.control.counters.inbound c.index (satAdd Config.max32 (v.inCount c) 1) } } }

/-- The lane with its Egress Engine given. -/
def Lane.withEgress (v : Lane) (e : EgressEngine) : Lane := { v with egress := e }

/-- The lane with its Ingress Engine given. -/
def Lane.withIngress (v : Lane) (g : IngressEngine) : Lane := { v with ingress := g }

/-! ### Messages in transit -/

/-- Releases sent to the Association Manager (R36). -/
def State.sendReleases (s : State) (ms : List ReleaseMsg) : State :=
  { s with transit := { s.transit with releases := s.transit.releases ++ ms } }

/-- Abandons sent to the Association Manager (R121, R123). -/
def State.sendAbandons (s : State) (ms : List AbandonMsg) : State :=
  { s with transit := { s.transit with abandons := s.transit.abandons ++ ms } }

/-- Queued-frame withdrawals sent by a lane's Egress Engine (R19). -/
def State.sendWithdrawals (s : State) (l : LaneId) (records : List Nat) : State :=
  { s with transit := { s.transit with withdrawals := s.transit.withdrawals ++ records.map (fun i => (l, i)) } }

/-- An enqueue sent by a lane's Egress Engine (R95). -/
def State.sendEnqueue (s : State) (l : LaneId) (i : Nat) : State :=
  { s with transit := { s.transit with enqueues := s.transit.enqueues ++ [(l, i)] } }

/-! ### Taking and answering a command (section 10.3) -/

/-- A command that is closed: complete or truncated (section 10.2). -/
def Command.closed (c : Command) : Bool :=
  match c.phase with
  | .assembling _ => false
  | .complete | .truncated => true

/-- The status with which the Command Processor answers a command itself, and none for a command that it hands to its
owner (R157). -/
def Command.portStatus (c : Command) : Option Status :=
  if c.phase = .truncated then some .truncated
  else if c.overflow then some .overflow
  else match CommandName.ofCode (headerCode c.header) with
    | none => some .badCommand
    | some name =>
      if headerLength c.header ≠ name.bodyWords ∨ (name.hasKeys = false ∧ c.framing = true) then some .badFraming
      else none

/-- A command is one of a name, handed to its owner (R157). -/
def Command.handedAs (c : Command) (name : CommandName) : Bool :=
  c.portStatus == none && CommandName.ofCode (headerCode c.header) == some name

/-- A command that has been taken is still unanswered: a flow command at the Flow Classifier (R84), or a Walk Table between
two visits (R146, R157). -/
def State.unanswered (s : State) : Bool := s.flowTurn.isSome || s.manager.walk.isSome

/-- The command the Command Processor may take: the oldest, when it is closed, no earlier command is still unanswered, at least
64 Response FIFO words are free and no Part Reset lasts (R157, R163). -/
def State.ready (s : State) : Option Command :=
  match s.port.commands with
  | [] => none
  | c :: _ =>
    if c.closed ∧ s.unanswered = false ∧ Config.responseRoom ≤ s.port.freeResponseWords ∧ s.port.resetting = false then
      some c
    else none

/-- The oldest command's words leave the Command FIFO (R157). -/
def State.dropCommand (s : State) : State :=
  { s with port := { s.port with commands := s.port.commands.tail } }

/-- The state just after the oldest command has been taken, with the service message that the freed words may call for
(R157, R161). -/
def State.taken (s : State) : State := s.notify s.dropCommand

/-- Words appended to the Response FIFO. -/
def State.appendResponse (s : State) (ws : List Word) : State :=
  { s with port := { s.port with responses := s.port.responses ++ ws } }

/-- A response posted whole, in one event (R157). -/
def State.post (s : State) (tag : Nat) (r : Reply) : State := s.notify (s.appendResponse (responseWords tag r))

/-- The turn of a command of a name, where the oldest closed command is one: its words leave the Command FIFO, its owner
takes it as one event, and its response is posted (R157). Where the Command Processor takes no such command, the state
stands (log entry 1). -/
def State.serve (s : State) (name : CommandName) (owner : Command → State → State × Reply) : Result :=
  match s.ready with
  | none => .next s
  | some c =>
    if c.handedAs name then
      let done := owner c s.taken
      .next ((s.taken.notify done.1).post (headerTag c.header) done.2)
    else .next s

/-- A reply that carries a status alone. -/
def status (st : Status) : Reply := { status := st }

/-! ### Resets (R25, R163) -/

/-- Whether link states have one link of one lane UP. -/
def linkUp (links : LinkStates) (l : LaneId) (side : Side) : Bool :=
  match side with
  | .system => links.system.getLsbD l.val
  | .line => links.line.getLsbD l.val

/-- A lane at its power-on state, with the states of its two links given (R91, R110, R132). -/
def Lane.cleared (systemUp lineUp : Bool) : Lane := { control := { systemUp := systemUp, lineUp := lineUp } }

/-- Every block at its power-on state, with the lanes given (R25, R163). What no reset reaches is kept: the queue of
commands that wait outside the part, the message-signalling input, and the model's own counts of messages sent and free
values drawn and its pace of walks. -/
def State.resetBlocks (s : State) (lanes : Vector Lane 4) : State :=
  { State.reset with
    lanes := lanes
    pins := { messageSignalling := s.pins.messageSignalling, messagesSent := s.pins.messagesSent }
    freeDraws := s.freeDraws
    walkPace := s.walkPace
    pending := s.pending }

/-- A reset taken and ended: every block at its power-on state, with the link states found at the reset's end (R25,
R132). -/
def State.fullReset (s : State) (links : LinkStates) : State :=
  s.resetBlocks (Vector.ofFn fun l => Lane.cleared (linkUp links l .system) (linkUp links l .line))

/-- The part while a Part Reset lasts: every block at its power-on state, and the window closed (R163). The link states are
taken up at the reset's end (R132). -/
def State.beginReset (s : State) : State :=
  let cleared := s.resetBlocks (s.lanes.map fun v => Lane.cleared v.control.systemUp v.control.lineUp)
  { cleared with port := { cleared.port with resetting := true } }

/-- A lane with the states of its two links taken up, which is not a link event (R132). -/
def Lane.withLinks (v : Lane) (systemUp lineUp : Bool) : Lane :=
  { v with control := { v.control with systemUp := systemUp, lineUp := lineUp } }

/-- The end of a Part Reset: the window accepts accesses again, and the link states are taken up (R163, R132). -/
def State.endReset (s : State) (links : LinkStates) : State :=
  { s with
    lanes := Vector.ofFn fun l => (s.lane l).withLinks (linkUp links l .system) (linkUp links l .line)
    port := { s.port with resetting := false } }

/-- An event that no block takes while a Part Reset lasts (R163; log entry 8). -/
def State.unlessResetting (s : State) (r : Result) : Result := if s.port.resetting then .next s else r

/-! ### Reads of the register window (R152) -/

/-- The LEVELS word: free Command FIFO words, Response FIFO words, and the assembly state (R152, section 11.2). -/
def State.levelsWord (s : State) : Word :=
  let expected := match s.port.commands.getLast? with
    | some c => (match c.phase with | .assembling e => some e | _ => none)
    | none => none
  packWord [(0, 9, s.port.freeCommandWords), (9, 9, s.port.responses.length), (24, 1, bit expected.isSome),
    (25, 6, expected.getD 0)]

/-- The word a read of an offset of the window returns (R152, R163). A read of RESPONSE also pops its word (R158). The manual says
nothing of a read at an offset that is not a multiple of 4; that it returns 0 is the model's choice (DESIGN CHOICE, log entry
34). Nor does it say what the bits that section 11.2 does not list return in LEVELS, SERVICE STATUS, SERVICE ENABLE and CONTROL;
that they are 0 is the model's choice too (DESIGN CHOICE, log entry 42). -/
def State.windowRead (s : State) (offset : Nat) : Word :=
  if s.port.resetting then 0
  else match offset with
    | 0x0C => s.port.responses.headD 0
    | 0x10 => s.levelsWord
    | 0x14 => s.serviceFlags.toWord
    | 0x18 => s.port.enables.toWord
    | 0x1C => packWord [(0, 1, bit s.port.hold)]
    | _ => 0

/-! ### Time on an empty queue -/

/-- One pause quantum counted down: a timer with no quanta left waits for its expiry to be taken (R108, R127). -/
def countDown (t : Option Nat) : Option Nat := t.map (fun q => q - 1)

/-- One pause quantum counted by a refresh timer (R105: 0..65,535). -/
def countUp (t : Option Nat) : Option Nat := t.map (fun q => satAdd Config.quantaMax q 1)

/-- A lane after one pause quantum: both pause timers count down and the refresh timer counts (R105, R108, R127). -/
def Lane.quantum (v : Lane) : Lane :=
  { v with
    egress := { v.egress with linePause := countDown v.egress.linePause, refresh := countUp v.egress.refresh }
    ingress := { v.ingress with systemPause := countDown v.ingress.systemPause } }

/-- The part after one pause quantum in which no command or event is taken (log entry 9). -/
def State.quantum (s : State) : State := { s with lanes := s.lanes.map Lane.quantum }

end Sys2Proof.Machine
end

