-- ==== Sys2Proof/Machine/Associations.lean ====
section
/-!
DEFINITION. The record commands of chapter 1: Install, Activate, Modify, Retire, Read Association and Clear Counters, as
the Association Manager takes them.
-/

namespace Sys2Proof.Machine

/-! ### Install Association (section 1.4) -/

/-- The kind that an Install carries: word 0, bit 16. -/
def Command.installKind (c : Command) : Kind := if flag (c.word 0) 16 then .ingress else .egress

/-- The companion that an Install carries: present by word 0, bit 26. Whether the companion index is checked where companion present
is clear the manual does not say; that it is then ignored, whatever it holds, is the model's choice (DESIGN CHOICE, log entry
35). -/
def Command.installCompanion (c : Command) : Option Nat :=
  if flag (c.word 0) 26 then some (bits (c.word 2) 15 0) else none

/-- The soft threshold in words 7 and 8, or its default under the use-default indication (R8, section 11.4). -/
def Command.softThreshold (c : Command) : Nat :=
  if flag (c.word 0) 28 then Config.defaultT else bits (c.word 8) 15 0 * 2 ^ 32 + (c.word 7).toNat

/-- W in word 2, clamped, or its default under the use-default indication (R9, section 11.4). -/
def Command.windowSize (c : Command) : Nat :=
  if flag (c.word 0) 27 then Config.defaultW else min Config.windowMax (bits (c.word 2) 31 16)

/-- W in word 2 is above 255 and is used (R9). -/
def Command.windowClamped (c : Command) : Bool :=
  !flag (c.word 0) 27 && decide (Config.windowMax < bits (c.word 2) 31 16)

/-- An interval of ticks in a word, clamped (R9). -/
def Command.interval (c : Command) (k : Nat) : Nat := min Config.timerMax (c.word k).toNat

/-- An interval of ticks in a word is above its largest value (R9). -/
def Command.intervalClamped (c : Command) (k : Nat) : Bool := decide (Config.timerMax < (c.word k).toNat)

/-- The configuration that an Install gives a record; a field of the other kind is ignored (R1, R9). -/
def Command.installConfig (c : Command) : RecordConfig :=
  let common : RecordConfig :=
    { kind := c.installKind
      laneMask := BitVec.ofNat 4 (bits (c.word 0) 23 20)
      tag := BitVec.ofNat 24 (bits (c.word 1) 23 0)
      confidential := flag (c.word 0) 17
      lifetimeSource := LifetimeSource.ofBit (flag (c.word 0) 19)
      lifetimeValue := (c.word 6).toNat }
  match c.installKind with
  | .egress =>
    { common with
      companion := c.installCompanion
      switchMode := SwitchMode.ofBit (flag (c.word 0) 18)
      lead := c.interval 3
      grace := c.interval 4
      softThreshold := c.softThreshold }
  | .ingress => { common with window := c.windowSize, overlap := c.interval 5 }

/-- A field that the installed record keeps is clamped (R9). -/
def Command.installClamped (c : Command) : Bool :=
  match c.installKind with
  | .egress => c.intervalClamped 3 || c.intervalClamped 4
  | .ingress => c.windowClamped || c.intervalClamped 5

/-- The record an accepted Install makes: its configuration, every running field at its "At Install" value, and the first
key in slot 0 (R2, R9). -/
def Command.installed (c : Command) : Record :=
  { config := c.installConfig
    state := .staged
    slot0 := Slot.written .current (BitVec.ofNat 2 (bits (c.word 0) 25 24)) (c.keyAt 9) (c.saltAt 17) }

/-- The named companion is not FREE and is EGRESS (R8, R11). -/
def State.companionWrongKind (s : State) : Option Nat → Bool
  | none => false
  | some i => (s.record i).state != .free && (s.record i).config.kind == .egress

/-- The named companion is FREE or RETIRING (R8, R11). -/
def State.companionNotPresent (s : State) : Option Nat → Bool
  | none => false
  | some i => (s.record i).state == .free || (s.record i).state == .retiring

/-- A companion index above 8191 (R8, R11). -/
def companionOutOfRange : Option Nat → Bool
  | none => false
  | some i => decide (Config.records ≤ i)

/-- Check 3 of R8 fails. -/
def Command.installBadValue (c : Command) : Bool :=
  bits (c.word 0) 23 20 == 0
    || (c.installKind == .ingress && c.installCompanion.isSome)
    || companionOutOfRange c.installCompanion
    || (c.installKind == .egress && c.softThreshold == 0)

/-- The first check of R8 that fails, in its order. -/
def State.installRefusal (s : State) (c : Command) : Option Status :=
  if Config.records ≤ c.index then some .badIndex
  else if (s.record c.index).state ≠ .free then some .occupied
  else if c.installBadValue then some .badValue
  else if s.companionWrongKind c.installCompanion then some .wrongKind
  else if s.companionNotPresent c.installCompanion then some .notPresent
  else if c.installKind = .ingress ∧ (s.manager.tagIndex.find c.installConfig.tag.toNat).isSome = true then
    some .tagInUse
  else if c.framing then some .badFraming
  else none

/-- An accepted Install, as one event (R9). -/
def State.install (s : State) (c : Command) : State :=
  let placed := s.setRecord c.index c.installed
  match c.installKind with
  | .egress => placed.gainCompanion c.installCompanion
  | .ingress => placed.insertTag c.installConfig.tag c.index

/-- Install Association at the Association Manager (R8, R9). -/
def installOwner (c : Command) (s : State) : State × Reply :=
  match s.installRefusal c with
  | some st => (s, status st)
  | none => (s.install c, status (if c.installClamped then .clamped else .ok))

/-- INSTALL_ASSOCIATION (R8, R9). -/
def execInstallAssociation (s : State) : Result := s.serve .installAssociation installOwner

/-! ### Activate Association (section 1.5) -/

/-- The record an accepted Activate makes (R10). -/
def Record.activate (r : Record) : Record :=
  { r with state := .live, stage := .steady, stageTimer := 0, graceTimer := 0 }

/-- Activate Association at the Association Manager (R10). -/
def activateOwner (c : Command) (s : State) : State × Reply :=
  let r := s.record c.index
  if Config.records ≤ c.index then (s, status .badIndex)
  else match r.state with
    | .free => (s, status .notPresent)
    | .live | .halted | .retiring => (s, status .badState)
    | .staged => (s.setRecord c.index r.activate, status .ok)

/-- ACTIVATE_ASSOCIATION (R10). -/
def execActivateAssociation (s : State) : Result := s.serve .activateAssociation activateOwner

/-! ### Modify Association (section 1.6) -/

/-- A field is selected by a bit of word 0 (section 11.4). -/
def Command.selects (c : Command) (k : Nat) : Bool := flag (c.word 0) k

/-- The companion that a Modify carries: none when companion present is clear (section 11.4). Whether the companion index is checked
then the manual does not say; that it is ignored, whatever it holds, is the model's choice (DESIGN CHOICE, log entry 35). -/
def Command.modifyCompanion (c : Command) : Option Nat :=
  if flag (c.word 1) 7 then some (bits (c.word 2) 15 0) else none

/-- The companion that a Modify selects and names, if any. -/
def Command.namedCompanion (c : Command) : Option Nat := if c.selects 18 then c.modifyCompanion else none

/-- Check 4 of R11 fails. A soft threshold is a field of an EGRESS record, ignored for an INGRESS one (R1; log entry 10). -/
def Command.modifyBadValue (c : Command) (kind : Kind) : Bool :=
  (c.selects 16 && bits (c.word 1) 3 0 == 0)
    || (c.selects 18 && kind == .ingress)
    || companionOutOfRange c.namedCompanion
    || (c.selects 26 && kind == .egress && c.softThreshold == 0)

/-- The first check of R11 that fails, in its order. -/
def State.modifyRefusal (s : State) (c : Command) : Option Status :=
  let r := s.record c.index
  if Config.records ≤ c.index then some .badIndex
  else if r.state = .free then some .notPresent
  else if r.state = .retiring then some .retiring
  else if c.modifyBadValue r.config.kind then some .badValue
  else if s.companionWrongKind c.namedCompanion then some .wrongKind
  else if s.companionNotPresent c.namedCompanion then some .notPresent
  else none

/-- A field that the record keeps is clamped (R11). -/
def Command.modifyClamped (c : Command) (kind : Kind) : Bool :=
  match kind with
  | .egress => (c.selects 21 && c.intervalClamped 3) || (c.selects 22 && c.intervalClamped 4)
  | .ingress => (c.selects 19 && c.windowClamped) || (c.selects 23 && c.intervalClamped 5)

/-- The selected configuration fields take their new values; a field of the other kind is ignored (R1, R11). -/
def Command.modifyConfig (c : Command) (g : RecordConfig) : RecordConfig :=
  let common : RecordConfig :=
    { g with
      laneMask := if c.selects 16 then BitVec.ofNat 4 (bits (c.word 1) 3 0) else g.laneMask
      confidential := if c.selects 17 then flag (c.word 1) 4 else g.confidential
      lifetimeSource := if c.selects 24 then LifetimeSource.ofBit (flag (c.word 1) 6) else g.lifetimeSource
      lifetimeValue := if c.selects 25 then (c.word 6).toNat else g.lifetimeValue }
  match g.kind with
  | .egress =>
    { common with
      companion := if c.selects 18 then c.modifyCompanion else g.companion
      switchMode := if c.selects 20 then SwitchMode.ofBit (flag (c.word 1) 5) else g.switchMode
      lead := if c.selects 21 then c.interval 3 else g.lead
      grace := if c.selects 22 then c.interval 4 else g.grace
      softThreshold := if c.selects 26 then c.softThreshold else g.softThreshold }
  | .ingress =>
    { common with
      window := if c.selects 19 then c.windowSize else g.window
      overlap := if c.selects 23 then c.interval 5 else g.overlap }

/-- The record with its new configuration stored: a lifetime source that changes zeroes the counter and remainder, a
lowered W trims the accepted sets, and a selected companion clears the evidence flag (R12, R13, R14), before any trigger is taken
(DESIGN CHOICE, log entry 39). -/
def Record.reconfigure (r : Record) (c : Command) : Record :=
  let g := c.modifyConfig r.config
  let resets := g.lifetimeSource != r.config.lifetimeSource
  let trims := decide (g.window < r.config.window)
  { r with
    config := g
    lifetimeCounter := if resets then 0 else r.lifetimeCounter
    octetRemainder := if resets then 0 else r.octetRemainder
    evidence := if c.selects 18 then false else r.evidence
    slot0 := if trims then r.slot0.trim g.window else r.slot0
    slot1 := if trims then r.slot1.trim g.window else r.slot1 }

/-- The new soft threshold has already been passed by a number assigned under the CURRENT slot (R13). -/
def Record.thresholdPassed (r : Record) : Bool :=
  !r.triggerLatch && decide (r.config.softThreshold ≤ r.currentPosition.nextSequence - 1)

/-- What a LIVE record's new lifetime value and soft threshold bring about at the Modify itself (R13). -/
def Record.modifyFires (r : Record) (c : Command) (tickCount : Nat) : Record :=
  if r.state = .live then
    let aged := if c.selects 25 then r.lifetimeCheck tickCount else r
    if c.selects 26 && aged.config.kind == .egress && aged.thresholdPassed then aged.trigger tickCount else aged
  else r

/-- An accepted Modify, as one event at all the records concerned (R11 to R14). Where it selects a companion and a lifetime value or T
that is already met, the manual does not say whether the evidence flag is cleared (R14) before the trigger is taken (R13); that it
is cleared first is the model's choice (DESIGN CHOICE, log entry 39). -/
def State.modify (s : State) (c : Command) : State :=
  let r := s.record c.index
  let linked :=
    if c.selects 18 then (s.loseCompanion r.config.companion).gainCompanion c.modifyCompanion else s
  linked.setRecord c.index ((r.reconfigure c).modifyFires c s.timebase.tickCount)

/-- Modify Association at the Association Manager (R11). -/
def modifyOwner (c : Command) (s : State) : State × Reply :=
  match s.modifyRefusal c with
  | some st => (s, status st)
  | none => (s.modify c, status (if c.modifyClamped (s.record c.index).config.kind then .clamped else .ok))

/-- MODIFY_ASSOCIATION (R11 to R14). -/
def execModifyAssociation (s : State) : Result := s.serve .modifyAssociation modifyOwner

/-! ### Retire Association (section 1.7) -/

/-- A slot that is not ABSENT is closed (R15). -/
def Slot.retire (sl : Slot) : Slot := if sl.role = .absent then sl else sl.close

/-- Steps 2 to 5 of an accepted Retire at the record, which becomes RETIRING (R15). -/
def Record.retire (r : Record) : Record :=
  { r with
    config := { r.config with companion := none }
    state := .retiring
    slot0 := r.slot0.retire
    slot1 := r.slot1.retire
    stage := .steady
    stageTimer := 0
    graceTimer := 0
    triggerLatch := false
    pendingTrigger := false
    evidence := false
    haltReason := .none }

/-- The first check of R15 that fails, in its order. -/
def State.retireRefusal (s : State) (c : Command) : Option Status :=
  let r := s.record c.index
  if Config.records ≤ c.index then some .badIndex
  else if r.state = .free then some .notPresent
  else if r.state = .retiring then some .retiring
  else if (match r.config.kind with | .egress => r.flowReferences | .ingress => r.companionCount) ≠ 0 then some .inUse
  else none

/-- An accepted Retire, as one event (R15, R16). -/
def State.retire (s : State) (c : Command) : State :=
  let r := s.record c.index
  let unlinked := match r.config.kind with
    | .ingress => s.removeTag r.config.tag
    | .egress => s.loseCompanion r.config.companion
  unlinked.setRecord c.index r.retire.freeWhenDrained

/-- Retire Association at the Association Manager (R15). -/
def retireOwner (c : Command) (s : State) : State × Reply :=
  match s.retireRefusal c with
  | some st => (s, status st)
  | none =>
    (s.retire c,
      status (if (s.record c.index).retire.freeWhenDrained.state = .retiring then .draining else .ok))

/-- RETIRE_ASSOCIATION (R15, R16). -/
def execRetireAssociation (s : State) : Result := s.serve .retireAssociation retireOwner

/-! ### Clear Counters (section 1.12) -/

/-- Clear Counters at the Association Manager (R24). -/
def clearCountersOwner (c : Command) (s : State) : State × Reply :=
  let r := s.record c.index
  if Config.records ≤ c.index then (s, status .badIndex)
  else if r.state = .free then (s, status .notPresent)
  else (s.setRecord c.index { r with counters := {} }, status .ok)

/-- CLEAR_COUNTERS (R24). -/
def execClearCounters (s : State) : Result := s.serve .clearCounters clearCountersOwner

end Sys2Proof.Machine
end

