-- ==== Sys2Proof/Machine/Frames.lean ====
section
/-!
DEFINITION. Frames on the wire: their fields, the FCS, lengths and protected octets, the envelope header, sealing and
opening with the cipher function, and PAUSE frames (sections 1.4, 2.5, 2.7, 5.1, 6.4, 7.3, 7.6, 11.1).
-/

namespace Sys2Proof.Machine

/-! ### Octets and numbers: most significant octet first (00_scope.md, section 2: wire order) -/

/-- Octet i of a frame, the first being octet 0. -/
def octet (f : Frame) (i : Nat) : Byte := (f[i]?).getD 0

/-- The number that octets spell, most significant octet first. -/
def ofOctets (l : List Byte) : Nat := l.foldl (fun acc b => acc * 256 + b.toNat) 0

/-- The n octets of a number, most significant octet first. -/
def toOctets : Nat → Nat → List Byte
  | 0, _ => []
  | n + 1, v => toOctets n (v / 256) ++ [BitVec.ofNat 8 v]

/-- The number that n octets of a frame spell, from octet i on. -/
def fieldAt (f : Frame) (i n : Nat) : Nat := ofOctets ((f.drop i).take n)

/-! ### The FCS (00_scope.md, section 3: the 4-octet CRC that ends every Ethernet frame; log entry 2) -/

/-- Some bit steps of the Ethernet CRC, the polynomial taken least significant bit first. -/
def crcBits (c : BitVec 32) : Nat → BitVec 32
  | 0 => c
  | n + 1 => crcBits (if c.getLsbD 0 then (c >>> 1) ^^^ 0xEDB88320#32 else c >>> 1) n

/-- One octet taken into the Ethernet CRC. -/
def crcOctet (c : BitVec 32) (b : Byte) : BitVec 32 := crcBits (c ^^^ b.setWidth 32) 8

/-- The four FCS octets over the octets before them, in the order they stand on the wire. -/
def fcsOctets (l : List Byte) : List Byte :=
  let c := ~~~ (l.foldl crcOctet 0xFFFFFFFF#32)
  [c.setWidth 8, (c >>> 8).setWidth 8, (c >>> 16).setWidth 8, (c >>> 24).setWidth 8]

/-- The FCS computed over the octets received matches the frame's FCS (R93, R112). -/
def fcsMatches (f : Frame) : Bool := f.drop (f.length - 4) == fcsOctets (f.take (f.length - 4))

/-- Octets with the FCS computed afresh over them (R99, R124). -/
def withFcs (l : List Byte) : Frame := l ++ fcsOctets l

/-! ### Lengths and fields of a frame -/

/-- The frame carries a VLAN tag: octets 12 and 13 hold 0x8100 (R81). -/
def vlanTagged (f : Frame) : Bool := fieldAt f 12 2 == 0x8100

/-- v: 4 when the frame carries a VLAN tag and 0 otherwise (R39). -/
def tagOctets (f : Frame) : Nat := if vlanTagged f then 4 else 0

/-- The 12-bit VLAN identifier of the tag, or none for UNTAGGED (R81). -/
def vlanId (f : Frame) : Option (BitVec 12) := if vlanTagged f then some (BitVec.ofNat 12 (fieldAt f 14 2)) else none

/-- The destination MAC: the first six octets (R81). -/
def destinationMac (f : Frame) : BitVec 48 := BitVec.ofNat 48 (fieldAt f 0 6)

/-- A MAC control frame: octets 12 and 13 hold 0x8808 (R94, R113). -/
def macControl (f : Frame) : Bool := fieldAt f 12 2 == 0x8808

/-- The quanta value of a PAUSE frame, in octets 16 and 17; none for another control opcode (R94, R113). -/
def pauseQuanta (f : Frame) : Option Nat := if fieldAt f 14 2 = 0x0001 then some (fieldAt f 16 2) else none

/-- The protected octets n of an outbound frame: L_in − 12 − v − 4 (R39). -/
def protectedCount (f : Frame) : Nat := f.length - 12 - tagOctets f - 4

/-- The octets before the envelope header: the MACs, and the VLAN tag when the frame carries one (R99). -/
def clearPart (f : Frame) : List Byte := f.take (12 + tagOctets f)

/-- The protected octets: from the original type/length field to the last octet before the FCS (R39). -/
def protectedPart (f : Frame) : List Byte := (f.drop (12 + tagOctets f)).take (protectedCount f)

/-- The cells that a number of octets needs (00_scope.md, section 3: cell). -/
def cellsFor (length : Nat) : Nat := (length + (Config.cellOctets - 1)) / Config.cellOctets

/-! ### The cipher function (section 1.4 of 00_scope.md; log entry 4) -/

/-- The plaintext joined with the key stream, or the ciphertext joined with it: counter mode. -/
def withKeyStream (key : BitVec 256) (nonce : BitVec 96) (text : List Byte) : List Byte :=
  text.mapIdx (fun i b => b ^^^ Config.keyStream key nonce i)

/-- The nonce: the salt followed by the sequence number, each half most significant octet first (R34, R35). -/
def nonceOf (salt : BitVec 48) (sequence : Nat) : BitVec 96 := salt ++ BitVec.ofNat 48 sequence

/-- The 16 octets of a check tag. -/
def tagOctetsOf (t : BitVec 128) : List Byte := toOctets 16 t.toNat

/-- Sealing: the ciphertext, of the plaintext's length, and the check tag. -/
def sealPlaintext (key : BitVec 256) (nonce : BitVec 96) (associated plaintext : List Byte) : List Byte × List Byte :=
  let ciphertext := withKeyStream key nonce plaintext
  (ciphertext, tagOctetsOf (Config.checkTag key nonce associated ciphertext))

/-- Opening: the plaintext, or none where the received check tag does not verify. -/
def openSealed (key : BitVec 256) (nonce : BitVec 96) (associated ciphertext tag : List Byte) : Option (List Byte) :=
  if tag = tagOctetsOf (Config.checkTag key nonce associated ciphertext) then some (withKeyStream key nonce ciphertext)
  else none

/-! ### The envelope (section 11.1) -/

/-- The 12 octets of an envelope header: the envelope type, version 1 with the zero bit clear and C and the key number,
the tag and the sequence number (R99, section 11.1). -/
def envelopeHeader (envelopeType : BitVec 16) (h : EnvelopeFields) : List Byte :=
  toOctets 2 envelopeType.toNat
    ++ [BitVec.ofNat 8 (16 + (if h.confidential then 4 else 0) + h.keyNumber.toNat)]
    ++ toOctets 3 h.tag.toNat ++ toOctets 6 h.sequence

/-- The envelope fields that a grant gives a frame (R99). -/
def EgressGrant.fields (g : EgressGrant) : EnvelopeFields where
  tag := g.tag
  keyNumber := g.keyNumber
  sequence := g.sequence
  confidential := g.confidential

/-- The frame sent for a granted frame: encapsulated and sealed under its grant (R99, R100). -/
def sealFrame (envelopeType : BitVec 16) (g : EgressGrant) (f : Frame) : Frame :=
  let header := envelopeHeader envelopeType g.fields
  let body := protectedPart f
  let nonce := nonceOf g.salt g.sequence
  if g.confidential then
    let sealed := sealPlaintext g.key nonce (clearPart f ++ header) body
    withFcs (clearPart f ++ header ++ sealed.1 ++ sealed.2)
  else
    let sealed := sealPlaintext g.key nonce (clearPart f ++ header ++ body) []
    withFcs (clearPart f ++ header ++ body ++ sealed.2)

/-- The octet at which the type field of a frame stands, and an envelope header in an enveloped one (R114, R115). -/
def headerAt (f : Frame) : Nat := 12 + tagOctets f

/-- The frame's type field holds the envelope type (R114). -/
def enveloped (envelopeType : BitVec 16) (f : Frame) : Bool := fieldAt f (headerAt f) 2 == envelopeType.toNat

/-- The control octet of an envelope header. -/
def controlOctet (f : Frame) : Byte := octet f (headerAt f + 2)

/-- The fields of an enveloped frame's header (section 11.1). -/
def headerFields (f : Frame) : EnvelopeFields where
  tag := BitVec.ofNat 24 (fieldAt f (headerAt f + 3) 3)
  keyNumber := (controlOctet f).setWidth 2
  sequence := fieldAt f (headerAt f + 6) 6
  confidential := (controlOctet f).getLsbD 2

/-- Why an enveloped frame fails its parse (R115). -/
inductive ParseDrop where
  | runt
  | badHeader
deriving DecidableEq, Repr

/-- The parse of an enveloped frame: its header's fields, or the drop reason of the first check that fails (R115). -/
def parseEnvelope (f : Frame) : Except ParseDrop EnvelopeFields :=
  if f.length < Config.envelopedMin then .error .runt
  else if (controlOctet f).toNat / 16 ≠ 1 then .error .badHeader
  else if (controlOctet f).getLsbD 3 then .error .badHeader
  else if (headerFields f).sequence = 0 then .error .badHeader
  else .ok (headerFields f)

/-- The delivered length L_d of an enveloped frame (R41). -/
def deliveredLength (f : Frame) : Nat := f.length - Config.envelopeOctets

/-- The protected octets n of an enveloped frame: L_d − 12 − v − 4 (R41). -/
def deliveredCount (f : Frame) : Nat := deliveredLength f - 12 - tagOctets f - 4

/-- The n protected octets of an enveloped frame, as received. -/
def envelopedBody (f : Frame) : List Byte := (f.drop (headerAt f + 12)).take (deliveredCount f)

/-- The received check tag of an enveloped frame: the 16 octets before the FCS (R121). -/
def receivedTag (f : Frame) : List Byte := (f.drop (f.length - 20)).take 16

/-- The envelope header of an enveloped frame, as received. -/
def receivedHeader (f : Frame) : List Byte := (f.drop (headerAt f)).take 12

/-- The opening of an enveloped frame under a grant's key and salt: the plaintext kept by the store, or none where the
frame fails verification (R121, R35). -/
def openFrame (key : BitVec 256) (salt : BitVec 48) (h : EnvelopeFields) (f : Frame) : Option (List Byte) :=
  let nonce := nonceOf salt h.sequence
  if h.confidential then
    openSealed key nonce (clearPart f ++ receivedHeader f) (envelopedBody f) (receivedTag f)
  else
    (openSealed key nonce (clearPart f ++ receivedHeader f ++ envelopedBody f) [] (receivedTag f)).map
      (fun _ => envelopedBody f)

/-- The delivered frame: the envelope header and check tag removed, the protected octets replaced by the plaintext, and
the FCS computed afresh (R124). -/
def stripFrame (f : Frame) (plaintext : List Byte) : Frame := withFcs (clearPart f ++ plaintext)

/-! ### PAUSE frames -/

/-- The 64-octet PAUSE frame that carries a quanta value (R106). -/
def pauseFrame (quanta : Nat) : Frame :=
  withFcs ([0x01, 0x80, 0xC2, 0x00, 0x00, 0x01] ++ List.replicate 6 0 ++ toOctets 2 0x8808 ++ toOctets 2 0x0001
    ++ toOctets 2 quanta ++ List.replicate 42 0)

end Sys2Proof.Machine
end

