-- ==== Sys2Proof/Machine/Flows.lean ====
section
/-!
DEFINITION. The Flow Map (chapter 5): its entries, classification, and Add Flow, Remove Flow and Read Flow, as the Flow
Classifier takes them.
-/

namespace Sys2Proof.Machine

/-! ### The map -/

/-- The entry that holds a flow key (R80). -/
def State.flow (s : State) (k : FlowKey) : Option FlowEntry := s.flowMap.find? (fun e => e.key == k)

/-- The map with the entry of a key given a new form. -/
def State.updateFlow (s : State) (k : FlowKey) (f : FlowEntry → FlowEntry) : State :=
  { s with flowMap := s.flowMap.map (fun e => if e.key = k then f e else e) }

/-- The map with a new entry. -/
def State.insertFlow (s : State) (e : FlowEntry) : State := { s with flowMap := s.flowMap ++ [e] }

/-- The map without the entry of a key. -/
def State.deleteFlow (s : State) (k : FlowKey) : State := { s with flowMap := s.flowMap.filter (fun e => e.key ≠ k) }

/-- The flow key of an outbound frame received on a lane (R81). -/
def flowKeyOf (l : LaneId) (f : Frame) : FlowKey := { lane := l, destination := destinationMac f, vlan := vlanId f }

/-- An entry that a classification has matched: its hit count gains 1, saturating (R82, R83). -/
def FlowEntry.hit (e : FlowEntry) : FlowEntry := { e with hits := satAdd Config.max32 e.hits 1 }

/-- The action of a default action (R82). -/
def DefaultAction.flowAction : DefaultAction → FlowAction
  | .bypass => .bypass
  | .discard => .discard

/-- The classification of a frame: the state with the hit counted, and the frame's action (R82). -/
def State.classify (s : State) (l : LaneId) (f : Frame) : State × FlowAction :=
  match s.flow (flowKeyOf l f) with
  | some e => (s.updateFlow (flowKeyOf l f) FlowEntry.hit, e.action)
  | none => (s, (s.lane l).control.config.defaultAction.flowAction)

/-! ### Reference claims and releases (R86) -/

/-- The status of a reference claim on a record for a lane: the first of rows 5 to 8 of R85 that fails (R86). -/
def State.claimRefusal (s : State) (i : Nat) (l : LaneId) : Option Status :=
  let r := s.record i
  if r.state = .free then some .notPresent
  else if r.state = .retiring then some .retiring
  else if r.config.kind = .ingress then some .wrongKind
  else if r.config.laneMask.getLsbD l.val = false then some .badValue
  else none

/-- A granted claim: the record's flow references gain 1 (R86). -/
def State.claimReference (s : State) (i : Nat) : State :=
  s.setRecord i { s.record i with flowReferences := (s.record i).flowReferences + 1 }

/-- A reference release: the record's flow references lose 1 (R86). -/
def State.releaseReference (s : State) (i : Nat) : State :=
  s.setRecord i { s.record i with flowReferences := (s.record i).flowReferences - 1 }

/-- The claim that goes with an action that takes the place of another, unless the entry already names the same record
(R86, R87). -/
def State.claimFor (s : State) (old : Option FlowAction) : FlowAction → State
  | .protect i => if old = some (.protect i) then s else s.claimReference i
  | .bypass | .discard => s

/-! ### The flow commands -/

/-- The flow key a flow command carries; none where its lane is above 3, or its VLAN ID above 4095 with the UNTAGGED
indication clear (R85, R88, section 11.4). Chapter 11 gives the octet order of key words and of the wire; that octet 0 of the
destination MAC stands in bits 31:24 of word 1, and octet 4 in bits 31:24 of word 2, is the model's choice (DESIGN CHOICE, log
entry 30). -/
def Command.flowKey (c : Command) : Option FlowKey :=
  match laneOf (bits (c.word 0) 7 0) with
  | none => none
  | some l =>
    let destination := BitVec.ofNat 48 ((c.word 1).toNat * 2 ^ 16 + bits (c.word 2) 31 16)
    if flag (c.word 0) 12 then some { lane := l, destination := destination, vlan := none }
    else if bits (c.word 0) 31 16 < 4096 then
      some { lane := l, destination := destination, vlan := some (BitVec.ofNat 12 (bits (c.word 0) 31 16)) }
    else none

/-- The action an Add Flow carries; none where the field names no action (R85, section 11.4). -/
def Command.flowAction (c : Command) : Option FlowAction :=
  match bits (c.word 0) 9 8 with
  | 0 => some (.protect (bits (c.word 2) 15 0))
  | 1 => some .bypass
  | 2 => some .discard
  | _ => none

/-- The REPLACE flag of an Add Flow: word 0, bit 13. -/
def Command.replaces (c : Command) : Bool := flag (c.word 0) 13

/-- Checks 2 to 8 of R85 for a key and an action, in their order. -/
def State.addFlowRefusal (s : State) (c : Command) (k : FlowKey) (a : FlowAction) : Option Status :=
  if (match a with | .protect i => decide (Config.records ≤ i) | _ => false) then some .badIndex
  else if (s.flow k).isSome ∧ c.replaces = false then some .duplicate
  else if (s.flow k).isNone ∧ Config.flowEntries ≤ s.flowMap.length then some .mapFull
  else match a with
    | .protect i => s.claimRefusal i k.lane
    | .bypass | .discard => none

/-- The record whose reference an action gives up when another takes its place, none where it gives up none (R87). -/
def releasedBy (old : Option FlowAction) (new : FlowAction) : Option Nat :=
  match old with
  | some (.protect a) => if new = .protect a then none else some a
  | _ => none

/-- The map change of an accepted Add Flow, with the claim before it (R86, R87). -/
def State.addFlow (s : State) (k : FlowKey) (a : FlowAction) : State :=
  let old := (s.flow k).map FlowEntry.action
  let claimed := s.claimFor old a
  match old with
  | some _ => claimed.updateFlow k (fun e => { e with action := a })
  | none => claimed.insertFlow { key := k, action := a, hits := 0 }

/-- What a flow command's event at the Flow Map gives: the state, the reply, and the record to which a reference release is
then to be sent, none where none is (R84, R87, R88). -/
structure FlowOutcome where
  after : State
  reply : Reply
  release : Option Nat := none

/-- Add Flow at the Flow Classifier (R85 to R87). -/
def addFlowOwner (c : Command) (s : State) : FlowOutcome :=
  match c.flowKey, c.flowAction with
  | some k, some a =>
    (match s.addFlowRefusal c k a with
     | some st => { after := s, reply := status st }
     | none =>
       { after := s.addFlow k a, reply := status .ok, release := releasedBy ((s.flow k).map FlowEntry.action) a })
  | _, _ => { after := s, reply := status .badValue }

/-- The record an action names. -/
def FlowAction.named : FlowAction → Option Nat
  | .protect i => some i
  | .bypass | .discard => none

/-- Remove Flow at the Flow Classifier (R88). -/
def removeFlowOwner (c : Command) (s : State) : FlowOutcome :=
  match c.flowKey with
  | none => { after := s, reply := status .badValue }
  | some k =>
    match s.flow k with
    | none => { after := s, reply := status .noFlow }
    | some e => { after := s.deleteFlow k, reply := status .ok, release := e.action.named }

/-- The body of a Read Flow response (section 11.4): the action, the record index of a PROTECT action, and the hit count. What
bits 31:16 of word 0 hold for BYPASS and DISCARD the manual does not say; that they are 0 is the model's choice (DESIGN CHOICE,
log entry 31). -/
def readFlowBody (e : FlowEntry) : List Word :=
  [packWord [(0, 2, e.action.code), (16, 16, match e.action with | .protect i => i | _ => 0)], wordOf e.hits]

/-- Read Flow at the Flow Classifier (R88). -/
def readFlowOwner (c : Command) (s : State) : FlowOutcome :=
  match c.flowKey with
  | none => { after := s, reply := status .badValue }
  | some k =>
    match s.flow k with
    | none => { after := s, reply := status .noFlow }
    | some e => { after := s, reply := { status := .ok, body := readFlowBody e } }

/-! ### The turn of a flow command (R84, R90, R157) -/

/-- The Flow Classifier with no flow command. -/
def State.endFlowTurn (s : State) : State := { s with flowTurn := none }

/-- The Flow Classifier with a flow command between two events of its turn. -/
def State.holdFlowTurn (s : State) (t : FlowTurn) : State := { s with flowTurn := some t }

/-- The event of a flow command at the Flow Map, and what follows it: the reference release, at once where no enqueue is in
transit and otherwise when every one that then is has been taken (R84), and the response (R90, R157). -/
def State.flowEvent (s : State) (c : Command) (owner : Command → State → FlowOutcome) : Result :=
  let done := owner c s.endFlowTurn
  match done.release with
  | none => .next ((s.notify done.after).post (headerTag c.header) done.reply)
  | some i =>
    if done.after.transit.enqueues = [] then
      .next ((s.notify (done.after.releaseReference i)).post (headerTag c.header) done.reply)
    else s.takes (done.after.holdFlowTurn (.releasing c i done.after.transit.enqueues))

/-- A flow command arrives at the Flow Classifier: it waits there until every enqueue for a frame classified PROTECT before it
arrived has been taken at its record (R84). -/
def State.flowArrives (s : State) (c : Command) (owner : Command → State → FlowOutcome) : Result :=
  if s.transit.enqueues = [] then s.flowEvent c owner else s.takes (s.holdFlowTurn (.waiting c s.transit.enqueues))

/-- The next event of a flow command's turn (R84, R90, R157): the command taken from the Command FIFO, its words leaving it, and
arriving at the Flow Classifier; the end of its wait; or the end of its release's wait. Where none of these can be taken, the
state stands (log entry 1). -/
def State.serveFlow (s : State) (name : CommandName) (owner : Command → State → FlowOutcome) : Result :=
  match s.flowTurn with
  | none =>
    (match s.ready with
     | some c => if c.handedAs name then s.taken.flowArrives c owner else .next s
     | none => .next s)
  | some (.waiting c []) => if c.handedAs name then s.unlessResetting (s.flowEvent c owner) else .next s
  | some (.releasing c i []) =>
    if c.handedAs name then
      s.unlessResetting (.next ((s.notify (s.endFlowTurn.releaseReference i)).post (headerTag c.header) (status .ok)))
    else .next s
  | some _ => .next s

/-- ADD_FLOW (R84 to R87). -/
def execAddFlow (s : State) : Result := s.serveFlow .addFlow addFlowOwner

/-- REMOVE_FLOW (R84, R88). -/
def execRemoveFlow (s : State) : Result := s.serveFlow .removeFlow removeFlowOwner

/-- READ_FLOW (R84, R88). -/
def execReadFlow (s : State) : Result := s.serveFlow .readFlow readFlowOwner

end Sys2Proof.Machine
end

