-- ==== Sys2Proof/Machine/EgressOps.lean ====
section
/-!
DEFINITION. The operations of an Egress Engine that its events, the lane commands and the link events share: Holding
Buffer, transmit stores, pause generator, flush, restart and link loss (chapter 6).
-/

namespace Sys2Proof.Machine

/-! ### The Holding Buffer -/

/-- The cells an entry holds: ceil(L/128) for the octets stored, up to 72 (R91, R92). -/
def Entry.cells (e : Entry) : Nat := min Config.frameCells (cellsFor e.octets.length)

/-- The occupancy: the sum of the cells of all entries (R91). -/
def EgressEngine.occupancy (e : EgressEngine) : Nat := (e.buffer.map Entry.cells).sum

/-- The RECEIVING entry, which is the newest (R91). -/
def EgressEngine.arriving (e : EgressEngine) : Option Entry := e.buffer.find? (fun x => x.status == .receiving)

/-- The Holding Buffer without its RECEIVING entry. -/
def EgressEngine.dropArriving (e : EgressEngine) : EgressEngine :=
  { e with buffer := e.buffer.filter (fun x => x.status != .receiving) }

/-- The Holding Buffer with its RECEIVING entry given a new form. -/
def EgressEngine.setArriving (e : EgressEngine) (f : Entry → Entry) : EgressEngine :=
  { e with buffer := e.buffer.map (fun x => if x.status = .receiving then f x else x) }

/-- The head: the oldest entry, when it is QUEUED or REQUESTED (R96). -/
def EgressEngine.head (e : EgressEngine) : Option Entry :=
  match e.buffer with
  | [] => none
  | x :: _ => if x.status = .receiving then none else some x

/-- The Holding Buffer without its head. -/
def EgressEngine.dropHead (e : EgressEngine) : EgressEngine := { e with buffer := e.buffer.tail }

/-- The head with its status REQUESTED (R98). -/
def EgressEngine.requestHead (e : EgressEngine) : EgressEngine :=
  match e.buffer with
  | [] => e
  | x :: t => { e with buffer := { x with status := .requested } :: t }

/-- The records named by PROTECT entries, in order: one for each (R103, R104). -/
def protectRecords (entries : List Entry) : List Nat :=
  entries.filterMap (fun x => match x.disposition with | some (.protect i) => some i | _ => none)

/-! ### Transmit stores -/

/-- A transmit store by its number. -/
def EgressEngine.store (e : EgressEngine) (k : SlotNo) : TransmitStore := if k then e.store1 else e.store0

/-- The engine with one transmit store given. -/
def EgressEngine.setStore (e : EgressEngine) (k : SlotNo) (t : TransmitStore) : EgressEngine :=
  if k then { e with store1 := t } else { e with store0 := t }

/-- The number of a FREE store, the lower first (log entry 11). -/
def EgressEngine.freeStore (e : EgressEngine) : Option SlotNo :=
  if e.store0 = .free then some false else if e.store1 = .free then some true else none

/-- A store is RESERVED. -/
def TransmitStore.isReserved : TransmitStore → Bool
  | .reserved _ => true
  | _ => false

/-- The number and destination of the RESERVED store. -/
def EgressEngine.reservedStore (e : EgressEngine) : Option (SlotNo × Destination) :=
  match e.store0, e.store1 with
  | .reserved d, _ => some (false, d)
  | _, .reserved d => some (true, d)
  | _, _ => none

/-- The number and frame of the SENDING store. -/
def EgressEngine.sendingStore (e : EgressEngine) : Option (SlotNo × StoredFrame) :=
  match e.store0, e.store1 with
  | .sending f, _ => some (false, f)
  | _, .sending f => some (true, f)
  | _, _ => none

/-- The number and frame of the store whose HELD frame is next to be sent: the older of two HELD frames, or a lone one
(R101). -/
def EgressEngine.oldestHeld (e : EgressEngine) : Option (SlotNo × StoredFrame) :=
  match e.store0, e.store1 with
  | .held f, .held f' => if e.youngest then some (false, f) else some (true, f')
  | .held f, _ => some (false, f)
  | _, .held f => some (true, f)
  | _, _ => none

/-- A store given to a frame, which is then the youngest (R101). -/
def EgressEngine.fill (e : EgressEngine) (k : SlotNo) (t : TransmitStore) : EgressEngine :=
  { e.setStore k t with youngest := k }

/-- The release that ends a frame's grant; none for a BYPASS frame (R36). -/
def StoredFrame.release (f : StoredFrame) (outcome : ReleaseOutcome) : List ReleaseMsg :=
  match f.grant with
  | none => []
  | some g => [{ record := g.record, slot := g.slot, outcome := outcome, octets := f.protectedOctets }]

/-- The frame in a HELD or SENDING store. -/
def TransmitStore.frame : TransmitStore → Option StoredFrame
  | .held f | .sending f => some f
  | .free | .reserved _ => none

/-! ### The pause generator (section 6.7) -/

/-- The generator in OFF: QUIET, the refresh timer stopped and no waiting pause frame (R105, R136). -/
def EgressEngine.quiet (e : EgressEngine) : EgressEngine :=
  { e with asserted := false, refresh := none, waitingPause := none }

/-- An occupancy event at the pause generator (R105). -/
def EgressEngine.occupancyEvent (e : EgressEngine) (mode : Mode) (g : LaneConfig) : EgressEngine :=
  if mode = .off then e.quiet
  else if e.asserted = false ∧ g.highMark ≤ e.occupancy then { e with asserted := true, waitingPause := some g.quanta }
  else if e.asserted = true ∧ e.occupancy < g.lowMark then
    { e with asserted := false, waitingPause := some 0, refresh := none }
  else e

/-- A lane whose Egress Engine has changed its Holding Buffer: an occupancy event when the occupancy has changed (R105). -/
def Lane.afterBuffer (v : Lane) (e : EgressEngine) : Lane :=
  if e.occupancy = v.egress.occupancy then v.withEgress e
  else v.withEgress (e.occupancyEvent v.control.mode v.control.config)

/-- The refresh interval: max(1, floor(Q/2)) quanta (R105, R107). -/
def LaneConfig.refreshInterval (g : LaneConfig) : Nat := max 1 (g.quanta / 2)

/-- A refresh expiry at the pause generator (R105). -/
def EgressEngine.refreshExpiry (e : EgressEngine) (mode : Mode) (g : LaneConfig) : EgressEngine :=
  if mode = .off then e.quiet
  else if g.lowMark ≤ e.occupancy then { e with waitingPause := some g.quanta, refresh := none }
  else { e with asserted := false, waitingPause := some 0, refresh := none }

/-! ### Flush, restart and link loss (section 6.6) -/

/-- The entries that a flush or a restart drops: those that are QUEUED. -/
def EgressEngine.queuedEntries (e : EgressEngine) : List Entry := e.buffer.filter (fun x => x.status == .queued)

/-- The flush at a lane that leaves PROTECT or LOOPTEST: every QUEUED entry is dropped FLUSHED, and the REQUESTED head and
a RECEIVING entry stay (R103). -/
def Lane.flush (v : Lane) : Lane :=
  (v.afterBuffer { v.egress with buffer := v.egress.buffer.filter (fun x => x.status != .queued) }).countOutBy .flushed
    v.egress.queuedEntries.length

/-- A store after a restart: a HELD or SENDING frame is ended, and a RESERVED store stays RESERVED (R104). -/
def TransmitStore.restart : TransmitStore → TransmitStore
  | .reserved d => .reserved d
  | .free | .held _ | .sending _ => .free

/-- An Egress Engine after Restart Lane (R104). A line-side pause indication that has been handed over and not yet taken stays on
its way (DESIGN CHOICE, log entry 37). -/
def EgressEngine.restart (e : EgressEngine) : EgressEngine :=
  { e with
    buffer := []
    store0 := e.store0.restart
    store1 := e.store1.restart
    linePause := none
    asserted := false
    refresh := none
    waitingPause := none }

/-- The releases ABORTED that a restart sends (R104). -/
def EgressEngine.restartReleases (e : EgressEngine) : List ReleaseMsg :=
  ((e.store0.frame).map (fun f => f.release .aborted)).getD []
    ++ ((e.store1.frame).map (fun f => f.release .aborted)).getD []

/-- The frame in a HELD or SENDING store with destination LINE, which a line link loss aborts (R102). -/
def TransmitStore.lineFrame (t : TransmitStore) : Option StoredFrame := t.frame.filter (fun f => f.destination == .line)

/-- A store after a line link loss (R102). -/
def TransmitStore.cutLine (t : TransmitStore) : TransmitStore := if t.lineFrame.isSome then .free else t

/-- The frames that a line link loss aborts (R102). -/
def EgressEngine.lineFrames (e : EgressEngine) : List StoredFrame :=
  e.store0.lineFrame.toList ++ e.store1.lineFrame.toList

/-- A lane's egress side at the line link down event: the LINE frames in its stores are ABORTED, and the line-side pause
timer becomes idle (R102). An indication on its way stays so (DESIGN CHOICE, log entry 37). -/
def Lane.egressLineDown (v : Lane) : Lane :=
  (v.withEgress { v.egress with store0 := v.egress.store0.cutLine, store1 := v.egress.store1.cutLine
                                linePause := none }).countOutBy .aborted v.egress.lineFrames.length

/-- The drop reason of a reception cut by link loss, with the octets that had arrived (R93, R112): RUNT when fewer than 64,
BAD_FCS otherwise. -/
def cutIsRunt (arrived : Nat) : Bool := decide (arrived < Config.frameMin)

/-- An outbound frame in reception is cut by the loss of the system link (R93). -/
def Lane.cutArriving (v : Lane) : Lane :=
  match v.egress.arriving with
  | none => v
  | some x =>
    (v.afterBuffer v.egress.dropArriving).countOut (if cutIsRunt x.octets.length then .runt else .badFcs)

/-- A lane's egress side at the system link down event: a frame in reception is cut, the waiting pause frame is discarded
and the refresh timer stops (R93, R106). -/
def Lane.egressSystemDown (v : Lane) : Lane :=
  let cut := v.cutArriving
  cut.withEgress { cut.egress with waitingPause := none, refresh := none }

/-- A lane's egress side at the system link up event: an ASSERTED generator sets a waiting pause frame of Q (R106). -/
def Lane.egressSystemUp (v : Lane) : Lane :=
  if v.egress.asserted then v.withEgress { v.egress with waitingPause := some v.control.config.quanta } else v

end Sys2Proof.Machine
end

