-- ==== Sys2Proof/Machine/IngressOps.lean ====
section
/-!
DEFINITION. The operations of an Ingress Engine that its events, the lane commands and the link events share: frame stores
and their ages, the receive completion, the Delivery Buffer, restart and link loss (chapter 7).
-/

namespace Sys2Proof.Machine

/-! ### Frame stores -/

/-- The content of a frame store; none for FREE (R110). -/
def IngressEngine.store (g : IngressEngine) (k : StoreId) : Option FrameStore := vget g.stores k

/-- The engine with a store's content given, the store keeping its age. -/
def IngressEngine.setStore (g : IngressEngine) (k : StoreId) (f : FrameStore) : IngressEngine :=
  { g with stores := vput g.stores k (some f) }

/-- A store becomes FREE (R110). -/
def IngressEngine.freeStore (g : IngressEngine) (k : StoreId) : IngressEngine :=
  { g with stores := vput g.stores k none, ages := g.ages.filter (fun j => j ≠ k) }

/-- The number of a FREE store, the lowest first (log entry 11). -/
def IngressEngine.findFree (g : IngressEngine) : Option StoreId :=
  ([0, 1, 2, 3] : List StoreId).find? (fun k => (g.store k).isNone)

/-- A FREE store claimed for a frame whose first octet arrives: RECEIVING, and the youngest by age (R111). -/
def IngressEngine.claim (g : IngressEngine) (k : StoreId) (source : Source) : IngressEngine :=
  { g with
    stores := vput g.stores k (some { source := source, cancelled := false, status := .receiving })
    ages := g.ages ++ [k] }

/-- The store that is RECEIVING a loop frame (R110: at most one). -/
def IngressEngine.loopStore (g : IngressEngine) : Option StoreId :=
  ([0, 1, 2, 3] : List StoreId).find? (fun k =>
    match g.store k with
    | some f => f.source == .loop && f.status == .receiving
    | none => false)

/-- The frame of a READY store. -/
def IngressEngine.readyFrame (g : IngressEngine) (k : StoreId) : Option Frame :=
  match g.store k with
  | some { status := .ready f _, .. } => some f
  | _ => none

/-! ### The Delivery Buffer (section 7.8) -/

/-- The occupancy of the Delivery Buffer: the sum of its entries' cells (R110). -/
def IngressEngine.deliveryOccupancy (g : IngressEngine) : Nat := (g.delivery.map (fun f => cellsFor f.length)).sum

/-- One READY store queued to the Delivery Buffer: an entry at its tail when its cells fit, and otherwise the frame dropped
DELIVERY_FULL; the store becomes FREE (R125). -/
def Lane.queueReady (v : Lane) (k : StoreId) (f : Frame) : Lane :=
  let freed := v.withIngress (v.ingress.freeStore k)
  if v.ingress.deliveryOccupancy + cellsFor f.length ≤ Config.deliveryCells then
    freed.withIngress { freed.ingress with delivery := freed.ingress.delivery ++ [f] }
  else freed.countIn .deliveryFull

/-- The run of READY stores at the head of a list of stores in order of age, queued oldest first (R125). -/
def Lane.queueRun (v : Lane) : List StoreId → Lane
  | [] => v
  | k :: t =>
    match v.ingress.readyFrame k with
    | some f => (v.queueReady k f).queueRun t
    | none => v

/-- The queueing to the Delivery Buffer at an event that frees a store or makes one READY (R125). -/
def Lane.queueDelivery (v : Lane) : Lane := v.queueRun v.ingress.ages

/-! ### Endings of a frame in a store -/

/-- A frame is dropped: its store, if it has one, becomes FREE, and the counter of the reason gains 1 (R112, R114). -/
def Lane.dropInbound (v : Lane) (store : Option StoreId) (why : InCounter) : Lane :=
  (match store with
   | some k => v.withIngress (v.ingress.freeStore k)
   | none => v).countIn why

/-- A frame's store takes a new status, if the frame has one. -/
def Lane.setStatus (v : Lane) (store : Option StoreId) (source : Source) (st : StoreStatus) : Lane :=
  match store with
  | some k => v.withIngress (v.ingress.setStore k { source := source, cancelled := false, status := st })
  | none => v

/-- A MAC control frame is consumed: its store, if any, becomes FREE, and the quanta of a PAUSE frame are handed to the same
lane's Egress Engine (R113). -/
def Lane.consumeLineControl (v : Lane) (store : Option StoreId) (f : Frame) : Lane :=
  let freed := match store with
    | some k => v.withIngress (v.ingress.freeStore k)
    | none => v
  match pauseQuanta f with
  | some q => freed.withEgress { freed.egress with indications := freed.egress.indications ++ [q] }
  | none => freed

/-- The parse of an enveloped frame at its receive completion: the lookup request is sent, or the frame dropped (R115). -/
def Lane.parseInbound (v : Lane) (store : Option StoreId) (source : Source) (f : Frame) : Lane :=
  match parseEnvelope f with
  | .error .runt => v.dropInbound store .runt
  | .error .badHeader => v.dropInbound store .badHeader
  | .ok h => v.setStatus store source (.lookup f h none)

/-- The disposition of a frame that has passed the checks and is not a MAC control frame, the rows of R114 tried in order. -/
def Lane.disposeInbound (v : Lane) (envelopeType : BitVec 16) (store : Option StoreId) (source : Source) (f : Frame) :
    Lane :=
  if v.control.mode = .off then v.dropInbound store .laneOff
  else if v.control.mode = .looptest ∧ source = .line then v.dropInbound store .looptest
  else if store.isNone then v.dropInbound store .overrun
  else if v.control.mode = .clear then v.setStatus store source (.ready f none)
  else if enveloped envelopeType f then v.parseInbound store source f
  else match v.control.config.clearPolicy with
    | .acceptClear => v.setStatus store source (.ready f none)
    | .dropClear => v.dropInbound store .clearDropped

/-- The receive completion of an inbound frame: the checks of R112 in order, then R113 for a line frame, then R114, and the
queueing to the Delivery Buffer that the event allows (R125). -/
def Lane.completeInbound (v : Lane) (envelopeType : BitVec 16) (store : Option StoreId) (source : Source) (f : Frame) :
    Lane :=
  (if f.length < Config.frameMin then v.dropInbound store .runt
   else if fcsMatches f = false then v.dropInbound store .badFcs
   else if v.control.config.maxFrame + Config.envelopeOctets < f.length then v.dropInbound store .tooLong
   else if source = .line ∧ macControl f = true then v.consumeLineControl store f
   else v.disposeInbound envelopeType store source f).queueDelivery

/-! ### Loop frames (R101, R111) -/

/-- A loop handover can begin: no frame of the Egress Engine is SENDING, its next frame to be sent is HELD with destination
LOOP, an ingress store is FREE and none is RECEIVING from the loop (R101, R111). -/
def Lane.loopReady (v : Lane) : Option (SlotNo × StoredFrame × StoreId) :=
  match v.egress.sendingStore, v.egress.oldestHeld, v.ingress.findFree, v.ingress.loopStore with
  | none, some (k, f), some j, none => if f.destination = .loop then some (k, f, j) else none
  | _, _, _, _ => none

/-- A loop handover begins: the Egress Engine's store becomes SENDING, and an ingress store RECEIVING with source LOOP
(R111). -/
def Lane.beginLoop (v : Lane) : Lane :=
  match v.loopReady with
  | none => v
  | some (k, f, j) =>
    (v.withEgress (v.egress.setStore k (.sending f))).withIngress (v.ingress.claim j .loop)

/-! ### Link loss and restart (sections 7.9) -/

/-- A line frame in reception is cut by the loss of the line link, with the octets that had arrived (R112, R128). -/
def Lane.ingressLineDown (v : Lane) (arrived : Nat) : Lane :=
  match v.ingress.receiver with
  | .idle => v
  | .receiving store =>
    ((v.withIngress { v.ingress with receiver := .idle }).dropInbound store
      (if cutIsRunt arrived then .runt else .badFcs)).queueDelivery

/-- A lane's ingress side at the system link down event: a delivery in progress is cut, and the system-side pause timer
becomes idle (R126, R127, R128). An indication on its way stays so (DESIGN CHOICE, log entry 37). -/
def Lane.ingressSystemDown (v : Lane) : Lane :=
  let idle := v.withIngress { v.ingress with systemPause := none }
  if v.ingress.sending then
    (idle.withIngress { idle.ingress with delivery := idle.ingress.delivery.tail, sending := false }).countIn .aborted
  else idle

/-- A frame store after a restart: one in LOOKUP or COMMITTING is kept with its cancel mark set, any other becomes FREE
(R130). -/
def FrameStore.restart (f : FrameStore) : Option FrameStore :=
  match f.status with
  | .lookup _ _ _ | .committing _ _ _ _ _ => some { f with cancelled := true }
  | .receiving | .opening _ _ _ | .ready _ _ => none

/-- The abandon ABORT that a restart sends for a store in OPENING (R130). -/
def FrameStore.restartAbandon (f : FrameStore) : List AbandonMsg :=
  match f.status with
  | .opening _ _ g => [{ record := g.record, slot := g.slot, reason := .abort }]
  | _ => []

/-- The abandons that a restart sends (R130). -/
def IngressEngine.restartAbandons (g : IngressEngine) : List AbandonMsg :=
  g.stores.toList.flatMap (fun x => (x.map FrameStore.restartAbandon).getD [])

/-- The line-side receiver after a restart: the rest of a frame that held a store is discarded; a frame without a store
goes on to its receive completion (R130, R111). -/
def LineReceiver.restart : LineReceiver → LineReceiver
  | .receiving (some _) => .idle
  | .receiving none => .receiving none
  | .idle => .idle

/-- An Ingress Engine after Restart Lane (R130). Of a system-side pause indication that has been handed over and not yet taken the
manual says nothing here; that it stays on its way is the model's choice (DESIGN CHOICE, log entry 37). -/
def IngressEngine.restart (g : IngressEngine) : IngressEngine :=
  let stores := g.stores.map (fun x => x.bind FrameStore.restart)
  { g with
    stores := stores
    ages := g.ages.filter (fun k => (vget stores k).isSome)
    receiver := g.receiver.restart
    delivery := []
    sending := false
    systemPause := none }

end Sys2Proof.Machine
end

