-- ==== Sys2Proof/Machine/Egress.lean ====
section
/-!
DEFINITION. The events of the Egress Engines: reception, the head of the queue, allocation answers, transmission and pause
(chapter 6).
-/

namespace Sys2Proof.Machine

/-! ### Reception (section 6.2) -/

/-- A frame in reception is dropped BUFFER_FULL: its RECEIVING entry is removed and its cells are returned (R92). -/
def Lane.bufferFull (v : Lane) : Lane := (v.afterBuffer v.egress.dropArriving).countOut .bufferFull

/-- An octet of an outbound frame arrives: the first opens a RECEIVING entry; the first octet of a cell claims the cell, up to
72 of them; an octet of a frame that has no entry is discarded (R92). R92 reads no link; that a frame which starts while the
system link is held DOWN is received like any other is the model's choice (DESIGN CHOICE, log entry 38). -/
def Lane.octetArrives (v : Lane) (first : Bool) (b : Byte) : Lane :=
  match v.egress.arriving with
  | none =>
    if first then
      if Config.holdingCells ≤ v.egress.occupancy then v.bufferFull
      else v.afterBuffer { v.egress with
        buffer := v.egress.buffer ++ [{ status := .receiving, octets := [b], disposition := none }] }
    else v
  | some x =>
    if first then v
    else if x.octets.length % Config.cellOctets = 0 ∧ x.cells < Config.frameCells
        ∧ Config.holdingCells ≤ v.egress.occupancy then v.bufferFull
    else v.afterBuffer (v.egress.setArriving (fun y => { y with octets := y.octets ++ [b] }))

/-- CELL_CLAIM (R92). -/
def execCellClaim (lane : LaneId) (first : Bool) (octet : Byte) (s : State) : Result :=
  s.unlessResetting (s.takes (s.setLane lane ((s.lane lane).octetArrives first octet)))

/-- The frame in reception is dropped at its receive completion (R93, R95). -/
def Lane.dropOutbound (v : Lane) (why : OutCounter) : Lane := (v.afterBuffer v.egress.dropArriving).countOut why

/-- A MAC control frame is consumed, and the quanta of a PAUSE frame are handed to the same lane's Ingress Engine (R94). -/
def Lane.consumeSystemControl (v : Lane) (f : Frame) : Lane :=
  let consumed := v.afterBuffer v.egress.dropArriving
  match pauseQuanta f with
  | some q => consumed.withIngress { consumed.ingress with indications := consumed.ingress.indications ++ [q] }
  | none => consumed

/-- The RECEIVING entry becomes QUEUED with its disposition (R95). -/
def Lane.queueOutbound (v : Lane) (d : Disposition) : Lane :=
  v.withEgress (v.egress.setArriving (fun x => { x with status := .queued, disposition := some d }))

/-- The frame in reception takes the disposition its classification gives it; a PROTECT frame's enqueue is sent (R95). -/
def State.applyAction (s : State) (l : LaneId) : FlowAction → State
  | .discard => s.setLane l ((s.lane l).dropOutbound .discard)
  | .bypass => s.setLane l ((s.lane l).queueOutbound .bypass)
  | .protect i => (s.setLane l ((s.lane l).queueOutbound (.protect i))).sendEnqueue l i

/-- The disposition of a frame that has passed the checks and is not a MAC control frame, by the lane mode (R95). -/
def State.disposeOutbound (s : State) (l : LaneId) (f : Frame) : State :=
  match (s.lane l).control.mode with
  | .off => s.setLane l ((s.lane l).dropOutbound .laneOff)
  | .clear => s.setLane l ((s.lane l).queueOutbound .bypass)
  | .protect | .looptest => (s.classify l f).1.applyAction l (s.classify l f).2

/-- The receive completion of an outbound frame: the checks of R93 in order, then R94, then R95. -/
def State.completeOutbound (s : State) (l : LaneId) (f : Frame) : State :=
  let v := s.lane l
  if f.length < Config.frameMin then s.setLane l (v.dropOutbound .runt)
  else if fcsMatches f = false then s.setLane l (v.dropOutbound .badFcs)
  else if v.control.config.maxFrame < f.length then s.setLane l (v.dropOutbound .tooLong)
  else if macControl f then s.setLane l (v.consumeSystemControl f)
  else s.disposeOutbound l f

/-- EGRESS_RECEIVE_COMPLETION (R93 to R95). A frame that has been dropped BUFFER_FULL has none (R92). -/
def execEgressReceiveCompletion (lane : LaneId) (s : State) : Result :=
  s.unlessResetting (match (s.lane lane).egress.arriving with
    | none => .next s
    | some x => s.takes (s.completeOutbound lane x.octets))

/-! ### The head of the queue (section 6.3) -/

/-- What the engine does with its QUEUED head (R96). -/
inductive HeadAction where
  | wait
  | drop (why : OutCounter)
  | start (store : SlotNo) (destination : Destination)
deriving DecidableEq, Repr

/-- The start of a head in a FREE store. A PROTECT head waits while an earlier request's answer is outstanding (R26). -/
def EgressEngine.startAction (e : EgressEngine) (x : Entry) (d : Destination) : HeadAction :=
  match e.freeStore with
  | none => .wait
  | some k =>
    match x.disposition with
    | some (.protect _) => if e.reservedStore.isSome then .wait else .start k d
    | _ => .start k d

/-- The row of R96 that a QUEUED head meets. -/
def Lane.headAction (v : Lane) (x : Entry) : HeadAction :=
  match v.control.mode with
  | .off => .drop .laneOff
  | .clear | .protect =>
    if v.control.lineUp = false then .drop .linkDown
    else if v.egress.linePause.isSome then .wait
    else v.egress.startAction x .line
  | .looptest => v.egress.startAction x .loop

/-- A head dropped without a request: a PROTECT head sends a queued-frame withdrawal (R96). -/
def State.dropHead (s : State) (l : LaneId) (x : Entry) (why : OutCounter) : State :=
  (s.setLane l (((s.lane l).afterBuffer (s.lane l).egress.dropHead).countOut why)).sendWithdrawals l (protectRecords [x])

/-- A BYPASS head started: a FREE store becomes HELD with the frame as it was received (R97). -/
def Lane.startBypass (v : Lane) (x : Entry) (k : SlotNo) (d : Destination) : Lane :=
  v.afterBuffer (v.egress.dropHead.fill k
    (.held { octets := x.octets, destination := d, grant := none, protectedOctets := 0 }))

/-- A PROTECT head started: a FREE store becomes RESERVED, the head REQUESTED, and the allocation request is sent (R98,
R26). -/
def Lane.startProtect (v : Lane) (x : Entry) (i : Nat) (k : SlotNo) (d : Destination) : Lane :=
  v.withEgress { v.egress.requestHead.fill k (.reserved d) with
    request := some { record := i, protectedOctets := protectedCount x.octets } }

/-- The head started (R97, R98). -/
def Lane.startHead (v : Lane) (x : Entry) (k : SlotNo) (d : Destination) : Lane :=
  match x.disposition with
  | some (.protect i) => v.startProtect x i k d
  | _ => v.startBypass x k d

/-- The engine takes its QUEUED head as the row it meets says (R96). -/
def State.takeHead (s : State) (l : LaneId) (x : Entry) : State :=
  match (s.lane l).headAction x with
  | .wait => s
  | .drop why => s.dropHead l x why
  | .start k d => s.setLane l ((s.lane l).startHead x k d)

/-- HEAD_TAKEN (R96 to R98). With no QUEUED head, or while no row's conditions hold, the head waits. R96 has the head taken at the
first event at which its row's conditions hold; that other events may come before this row, and that it reads the conditions as
they then stand, is the model's choice (DESIGN CHOICE, log entry 40). -/
def execHeadTaken (lane : LaneId) (s : State) : Result :=
  s.unlessResetting (match (s.lane lane).egress.head with
    | none => .next s
    | some x => if x.status = .queued then s.takes (s.takeHead lane x) else .next s)

/-! ### The allocation answer (sections 6.3, 6.4 and 6.6) -/

/-- The lane counter of a refusal reason (R98, R109). -/
def AllocationRefusal.counter : AllocationRefusal → OutCounter
  | .notReady => .notReady
  | .halted => .halted
  | .retired => .retired
  | .wrongLane => .wrongLane
  | .keyFault => .keyFault

/-- The engine without the request whose answer it has taken. -/
def EgressEngine.answered (e : EgressEngine) : EgressEngine := { e with request := none, answer := none }

/-- The REQUESTED head of a Holding Buffer. A restart removes it (R104). -/
def EgressEngine.requestedHead (e : EgressEngine) : Option Entry := e.head.filter (fun x => x.status == .requested)

/-- The engine with an answer taken: its RESERVED store takes what the answer gives it, and the REQUESTED entry, unless a
restart has removed it, leaves the Holding Buffer (R98, R104). -/
def EgressEngine.settle (e : EgressEngine) (k : SlotNo) (t : TransmitStore) : EgressEngine :=
  let e' := e.answered.setStore k t
  if e.requestedHead.isSome then e'.dropHead else e'

/-- A refusal taken: the RESERVED store becomes FREE, and the refusal is counted (R98, R104). -/
def Lane.takeRefusal (v : Lane) (k : SlotNo) (why : AllocationRefusal) : Lane :=
  (v.afterBuffer (v.egress.settle k .free)).countOut why.counter

/-- A grant taken for a frame that cannot be sent: it is ABORTED at once, and its store becomes FREE (R102, R104). -/
def State.abortGrant (s : State) (l : LaneId) (k : SlotNo) (g : EgressGrant) (n : Nat) : State :=
  (s.setLane l (((s.lane l).afterBuffer ((s.lane l).egress.settle k .free)).countOut .aborted)).sendReleases
    [{ record := g.record, slot := g.slot, outcome := .aborted, octets := n }]

/-- The frame of a grant as its store holds it: encapsulated and sealed (R98 to R100). -/
def grantedFrame (envelopeType : BitVec 16) (d : Destination) (g : EgressGrant) (n : Nat) (f : Frame) : StoredFrame where
  octets := sealFrame envelopeType g f
  destination := d
  grant := some g
  protectedOctets := n

/-- The answer to an allocation request taken at the engine, at its RESERVED store (R98, R102, R104). -/
def State.takeAllocationAnswer (s : State) (l : LaneId) (k : SlotNo) (d : Destination) (a : AllocationAnswer)
    (n : Nat) : State :=
  let v := s.lane l
  match a, v.egress.requestedHead with
  | .refused why, _ => s.setLane l (v.takeRefusal k why)
  | .granted g, none => s.abortGrant l k g n
  | .granted g, some x =>
    if d = .line ∧ v.control.lineUp = false then s.abortGrant l k g n
    else s.setLane l (v.afterBuffer (v.egress.settle k (.held (grantedFrame s.port.envelopeType d g n x.octets))))

/-- ALLOCATION_ANSWER (R98 to R100, R102, R104). -/
def execAllocationAnswer (lane : LaneId) (s : State) : Result :=
  s.unlessResetting (match (s.lane lane).egress.answer, (s.lane lane).egress.request,
      (s.lane lane).egress.reservedStore with
    | some a, some q, some (k, d) => s.takes (s.takeAllocationAnswer lane k d a q.protectedOctets)
    | _, _, _ => .next s)

/-! ### Transmission (section 6.5) -/

/-- The transmission of the oldest HELD frame begins, where its conditions hold: to the line when the line-side pause timer is
idle, to the loop when the Ingress Engine takes the frame (R101). -/
def Lane.beginTransmission (v : Lane) : Lane :=
  match v.egress.sendingStore, v.egress.oldestHeld with
  | none, some (k, f) =>
    (match f.destination with
     | .line => if v.egress.linePause.isSome then v else v.withEgress (v.egress.setStore k (.sending f))
     | .loop => v.beginLoop)
  | _, _ => v

/-- TRANSMISSION_BEGIN (R101). -/
def execTransmissionBegin (lane : LaneId) (s : State) : Result :=
  s.unlessResetting (s.takes (s.setLane lane (s.lane lane).beginTransmission))

/-- The end of a frame's transmission at the Egress Engine: frames passed gains 1, and the store becomes FREE (R101). -/
def Lane.endTransmission (v : Lane) (k : SlotNo) : Lane :=
  (v.withEgress (v.egress.setStore k .free)).countOut .framesPassed

/-- A transmission completes. A frame for the line has been put on the line side. A frame for the loop has been handed over
whole, which is its receive completion at the Ingress Engine (R101, R111, R112). -/
def State.completeTransmission (s : State) (l : LaneId) (k : SlotNo) (f : StoredFrame) : State :=
  let ended := (s.lane l).endTransmission k
  (s.setLane l (match f.destination with
    | .line => { ended with lastLineFrame := some f.octets }
    | .loop =>
      match ended.ingress.loopStore with
      | some j => ended.completeInbound s.port.envelopeType (some j) .loop f.octets
      | none => ended)).sendReleases (f.release .completed)

/-- TRANSMISSION_COMPLETION (R101, R36). -/
def execTransmissionCompletion (lane : LaneId) (s : State) : Result :=
  s.unlessResetting (match (s.lane lane).egress.sendingStore with
    | some (k, f) => s.takes (s.completeTransmission lane k f)
    | none => .next s)

/-! ### Pause from the campus and toward the rack switch (sections 6.7 and 6.8) -/

/-- A pause timer after an indication of q quanta (R108, R127). -/
def pauseTimer (q : Nat) : Option Nat := if q = 0 then none else some q

/-- The Egress Engine after a line-side pause indication; in LOOPTEST it is ignored (R108). -/
def EgressEngine.indicated (e : EgressEngine) (mode : Mode) (q : Nat) (rest : List Nat) : EgressEngine :=
  { e with indications := rest, linePause := if mode = .looptest then e.linePause else pauseTimer q }

/-- LINE_PAUSE_INDICATION (R108). -/
def execLinePauseIndication (lane : LaneId) (s : State) : Result :=
  let v := s.lane lane
  s.unlessResetting (match v.egress.indications with
    | [] => .next s
    | q :: rest => s.takes (s.setLane lane (v.withEgress (v.egress.indicated v.control.mode q rest))))

/-- LINE_PAUSE_EXPIRY (R108): a running timer with no quanta left becomes idle. -/
def execLinePauseExpiry (lane : LaneId) (s : State) : Result :=
  let v := s.lane lane
  s.unlessResetting (if v.egress.linePause = some 0 then
      s.takes (s.setLane lane (v.withEgress { v.egress with linePause := none }))
    else .next s)

/-- The refresh timer of an ASSERTED generator has reached the refresh interval (R105). Where Configure Lane lowers Q so that the
running timer already stands beyond the new interval the manual says nothing; that the expiry is then due is the model's choice
(DESIGN CHOICE, log entry 32). -/
def Lane.refreshDue (v : Lane) : Bool :=
  v.egress.asserted && (match v.egress.refresh with
    | some n => decide (v.control.config.refreshInterval ≤ n)
    | none => false)

/-- REFRESH_EXPIRY (R105). -/
def execRefreshExpiry (lane : LaneId) (s : State) : Result :=
  let v := s.lane lane
  s.unlessResetting (if v.refreshDue then
      s.takes (s.setLane lane (v.withEgress (v.egress.refreshExpiry v.control.mode v.control.config)))
    else .next s)

/-- A lane that has sent its waiting pause frame, with the quanta value that was set when it began to wait (R105, R106): that a Q
changed meanwhile leaves that value is the model's choice (DESIGN CHOICE, log entry 41). -/
def Lane.sendPause (v : Lane) (q : Nat) : Lane :=
  { (v.withEgress { v.egress with waitingPause := none, refresh := if q = 0 then none else some 0 }).countOut
      .pauseFramesSent with lastSystemFrame := some (pauseFrame q) }

/-- PAUSE_FRAME_SEND (R106): at a boundary between frames of the system-side transmitter, with the system link up. -/
def execPauseFrameSend (lane : LaneId) (s : State) : Result :=
  let v := s.lane lane
  s.unlessResetting (match v.egress.waitingPause with
    | none => .next s
    | some q =>
      if v.control.systemUp = true ∧ v.ingress.sending = false then s.takes (s.setLane lane (v.sendPause q))
      else .next s)

end Sys2Proof.Machine
end

