-- ==== Sys2Proof/Machine/Ingress.lean ====
section
/-!
DEFINITION. The events of the Ingress Engines: reception, the answers of lookups and commits, verification, delivery and
pause (chapter 7).
-/

namespace Sys2Proof.Machine

/-! ### Reception (section 7.2) -/

/-- The first octet of a line frame arrives: in CLEAR and PROTECT a FREE store is claimed for it (R111). R111 reads the mode alone;
that a frame which starts while the line link is held DOWN is received like any other is the model's choice (DESIGN CHOICE, log
entry 38). -/
def Lane.startLineFrame (v : Lane) : Lane :=
  match v.ingress.findFree with
  | some k =>
    if v.control.mode = .clear ∨ v.control.mode = .protect then
      v.withIngress { v.ingress.claim k .line with receiver := .receiving (some k) }
    else v.withIngress { v.ingress with receiver := .receiving none }
  | none => v.withIngress { v.ingress with receiver := .receiving none }

/-- LINE_FRAME_START (R111), whatever state the line link is held in (DESIGN CHOICE, log entry 38). A line frame starts only when
none is arriving. -/
def execLineFrameStart (lane : LaneId) (s : State) : Result :=
  let v := s.lane lane
  s.unlessResetting (match v.ingress.receiver with
    | .idle => s.takes (s.setLane lane v.startLineFrame)
    | .receiving _ => .next s)

/-- LOOP_HANDOVER_START (R111, R101). -/
def execLoopHandoverStart (lane : LaneId) (s : State) : Result :=
  s.unlessResetting (s.takes (s.setLane lane (s.lane lane).beginLoop))

/-- The receive completion of the line frame in reception (R112). -/
def Lane.completeLine (v : Lane) (envelopeType : BitVec 16) (store : Option StoreId) (f : Frame) : Lane :=
  (v.withIngress { v.ingress with receiver := .idle }).completeInbound envelopeType store .line f

/-- The receive completion of the loop frame in reception, which is the Egress Engine's transmission completion (R111). -/
def State.completeLoop (s : State) (l : LaneId) : Result :=
  match (s.lane l).egress.sendingStore with
  | some (k, f) => if f.destination = .loop then s.takes (s.completeTransmission l k f) else .next s
  | none => .next s

/-- INGRESS_RECEIVE_COMPLETION (R112 to R115). -/
def execIngressReceiveCompletion (lane : LaneId) (arrival : Arrival) (s : State) : Result :=
  let v := s.lane lane
  s.unlessResetting (match arrival, v.ingress.receiver with
    | .line octets, .receiving store => s.takes (s.setLane lane (v.completeLine s.port.envelopeType store octets))
    | .line _, .idle => .next s
    | .loop, _ => s.completeLoop lane)

/-! ### Answers and verification (sections 7.4 to 7.7) -/

/-- The lane counter of a lookup refusal (R118, R131). -/
def LookupRefusal.counter : LookupRefusal → InCounter
  | .unknownTag => .unknownTag
  | .notReady => .notReady
  | .wrongLane => .wrongLane
  | .badHeader => .badHeader
  | .noKey => .noKey
  | .late => .late
  | .replay => .replay

/-- The lane after a lookup answer taken at a store in LOOKUP: a refusal drops the frame; a grant begins its opening, or, under
a cancel mark, is followed by an abandon (R118, R130). -/
def Lane.takeLookupAnswer (v : Lane) (k : StoreId) (f : FrameStore) (octets : Frame) (h : EnvelopeFields)
    (a : LookupAnswer) : Lane :=
  (match a with
   | .refused why => v.dropInbound (some k) why.counter
   | .granted g =>
     if f.cancelled then v.dropInbound (some k) .aborted
     else v.withIngress (v.ingress.setStore k { f with status := .opening octets h g })).queueDelivery

/-- The abandon ABORT that a grant taken under a cancel mark is followed by (R130). -/
def LookupAnswer.abandons (a : LookupAnswer) (cancelled : Bool) : List AbandonMsg :=
  match a with
  | .granted g => if cancelled then [{ record := g.record, slot := g.slot, reason := .abort }] else []
  | .refused _ => []

/-- LOOKUP_ANSWER (R118, R130). -/
def execLookupAnswer (lane : LaneId) (store : StoreId) (s : State) : Result :=
  let v := s.lane lane
  s.unlessResetting (match v.ingress.store store with
    | some f =>
      (match f.status with
       | .lookup octets h (some a) =>
         s.takes ((s.setLane lane (v.takeLookupAnswer store f octets h a)).sendAbandons (a.abandons f.cancelled))
       | _ => .next s)
    | none => .next s)

/-- The lane after a verification completion: a pass keeps the plaintext and sends the commit, a fail drops the frame
(R121). -/
def Lane.takeVerification (v : Lane) (k : StoreId) (f : FrameStore) (octets : Frame) (h : EnvelopeFields)
    (g : IngressGrant) : Lane :=
  (match openFrame g.key g.salt h octets with
   | some plaintext => v.withIngress (v.ingress.setStore k { f with status := .committing octets h g plaintext none })
   | none => v.dropInbound (some k) .badTag).queueDelivery

/-- The abandon BAD_TAG that a failed verification sends (R121). -/
def verificationAbandons (octets : Frame) (h : EnvelopeFields) (g : IngressGrant) : List AbandonMsg :=
  match openFrame g.key g.salt h octets with
  | some _ => []
  | none => [{ record := g.record, slot := g.slot, reason := .badTag }]

/-- VERIFICATION_COMPLETION (R121). -/
def execVerificationCompletion (lane : LaneId) (store : StoreId) (s : State) : Result :=
  let v := s.lane lane
  s.unlessResetting (match v.ingress.store store with
    | some f =>
      (match f.status with
       | .opening octets h g =>
         s.takes ((s.setLane lane (v.takeVerification store f octets h g)).sendAbandons
           (verificationAbandons octets h g))
       | _ => .next s)
    | none => .next s)

/-- The drop reason of a commit answer; none for an accepted frame (R124, R131). -/
def CommitAnswer.dropCounter : CommitAnswer → Option InCounter
  | .accepted => none
  | .retired => some .retired
  | .noKey => some .noKey
  | .late => some .late
  | .replay => some .replay

/-- The lane after a commit answer: an accepted frame is stripped and READY, its store keeping the grant (R110), or, under a
cancel mark, discarded; any other is dropped (R124, R130). -/
def Lane.takeCommitAnswer (v : Lane) (k : StoreId) (f : FrameStore) (octets : Frame) (plaintext : List Byte)
    (g : IngressGrant) (a : CommitAnswer) : Lane :=
  (match a.dropCounter with
   | some why => v.dropInbound (some k) why
   | none =>
     if f.cancelled then v.dropInbound (some k) .aborted
     else v.withIngress (v.ingress.setStore k { f with status := .ready (stripFrame octets plaintext) (some g) })).queueDelivery

/-- COMMIT_ANSWER (R124, R125, R130). -/
def execCommitAnswer (lane : LaneId) (store : StoreId) (s : State) : Result :=
  let v := s.lane lane
  s.unlessResetting (match v.ingress.store store with
    | some f =>
      (match f.status with
       | .committing octets _ g plaintext (some a) =>
         s.takes (s.setLane lane (v.takeCommitAnswer store f octets plaintext g a))
       | _ => .next s)
    | none => .next s)

/-! ### Delivery (section 7.8) -/

/-- The Delivery Buffer without its head. -/
def IngressEngine.dropDelivery (g : IngressEngine) : IngressEngine := { g with delivery := g.delivery.tail }

/-- The engine takes the head of its Delivery Buffer, as the row of R126 that the head meets says; while no row's conditions
hold, the head waits. -/
def Lane.startDelivery (v : Lane) : Lane :=
  if v.control.mode = .off then (v.withIngress v.ingress.dropDelivery).countIn .laneOff
  else if v.control.systemUp = false then (v.withIngress v.ingress.dropDelivery).countIn .linkDown
  else if v.ingress.systemPause.isNone ∧ v.egress.waitingPause.isNone then
    v.withIngress { v.ingress with sending := true }
  else v

/-- DELIVERY_START (R126). -/
def execDeliveryStart (lane : LaneId) (s : State) : Result :=
  let v := s.lane lane
  s.unlessResetting (if v.ingress.sending = false ∧ v.ingress.delivery ≠ [] then
      s.takes (s.setLane lane v.startDelivery)
    else .next s)

/-- A delivered frame's last octet has been sent: its entry leaves the Delivery Buffer and frames passed gains 1 (R126). -/
def Lane.endDelivery (v : Lane) (f : Frame) (rest : List Frame) : Lane :=
  { (v.withIngress { v.ingress with delivery := rest, sending := false }).countIn .framesPassed with
    lastSystemFrame := some f }

/-- DELIVERY_COMPLETION (R126). -/
def execDeliveryCompletion (lane : LaneId) (s : State) : Result :=
  let v := s.lane lane
  s.unlessResetting (match v.ingress.sending, v.ingress.delivery with
    | true, f :: rest => s.takes (s.setLane lane (v.endDelivery f rest))
    | _, _ => .next s)

/-! ### Pause from the rack switch (R127) -/

/-- SYSTEM_PAUSE_INDICATION (R127). -/
def execSystemPauseIndication (lane : LaneId) (s : State) : Result :=
  let v := s.lane lane
  s.unlessResetting (match v.ingress.indications with
    | [] => .next s
    | q :: rest =>
      s.takes (s.setLane lane (v.withIngress { v.ingress with indications := rest, systemPause := pauseTimer q })))

/-- SYSTEM_PAUSE_EXPIRY (R127): a running timer with no quanta left becomes idle. -/
def execSystemPauseExpiry (lane : LaneId) (s : State) : Result :=
  let v := s.lane lane
  s.unlessResetting (if v.ingress.systemPause = some 0 then
      s.takes (s.setLane lane (v.withIngress { v.ingress with systemPause := none }))
    else .next s)

end Sys2Proof.Machine
end

