-- ==== Sys2Proof/Machine/Lanes.lean ====
section
/-!
DEFINITION. The lane commands and link events of chapter 8, as the Lane Controller and the lane's two engines take them.
-/

namespace Sys2Proof.Machine

/-- The lane a lane command names: word 0, bits 7:0; none above 3 (section 11.4). -/
def Command.lane (c : Command) : Option LaneId := laneOf (bits (c.word 0) 7 0)

/-- A lane with its part of the Lane Controller given. -/
def Lane.withControl (v : Lane) (k : LaneControl) : Lane := { v with control := k }

/-! ### Set Lane Mode (section 8.2) -/

/-- The mode changes that are allowed (R133). -/
def Mode.mayBecome : Mode → Mode → Bool
  | .off, .clear => true
  | .clear, .off | .clear, .protect | .clear, .looptest => true
  | .protect, .clear | .protect, .off => true
  | .looptest, .clear | .looptest, .off => true
  | _, _ => false

/-- The mode is one whose leaving flushes the Holding Buffer (R103). -/
def Mode.flushes : Mode → Bool
  | .protect | .looptest => true
  | .off | .clear => false

/-- The lane with its mode set (R134). -/
def Lane.withMode (v : Lane) (m : Mode) : Lane := v.withControl { v.control with mode := m }

/-- The pause generator at a change into OFF (R136). -/
def Lane.quietInOff (v : Lane) : Lane := if v.control.mode = .off then v.withEgress v.egress.quiet else v

/-- The lane after an accepted mode change: the mode set, the flush where PROTECT or LOOPTEST is left, and the pause
generator QUIET in OFF (R103, R134, R136). -/
def Lane.changeMode (v : Lane) (m : Mode) : Lane :=
  (if v.control.mode.flushes then (v.withMode m).flush else v.withMode m).quietInOff

/-- The records to which the flush of a mode change sends withdrawals (R103). -/
def Lane.flushRecords (v : Lane) : List Nat :=
  if v.control.mode.flushes then protectRecords v.egress.queuedEntries else []

/-- An accepted mode change (R134). -/
def State.changeMode (s : State) (l : LaneId) (m : Mode) : State :=
  (s.setLane l ((s.lane l).changeMode m)).sendWithdrawals l (s.lane l).flushRecords

/-- Set Lane Mode at the Lane Controller (R133, R134). -/
def setLaneModeOwner (c : Command) (s : State) : State × Reply :=
  match c.lane, Mode.ofCode (bits (c.word 0) 15 8) with
  | some l, some m =>
    let present := (s.lane l).control.mode
    if present = m then (s, status .ok)
    else if present.mayBecome m then (s.changeMode l m, status .ok)
    else (s, status .badModeChange)
  | _, _ => (s, status .badValue)

/-- SET_LANE_MODE (R133 to R136). -/
def execSetLaneMode (s : State) : Result := s.serve .setLaneMode setLaneModeOwner

/-! ### Configure Lane (section 8.4) -/

/-- A selected default action or clear policy names no value (R138 check 2). -/
def Command.laneChoiceBad (c : Command) : Bool :=
  (flag (c.word 0) 9 && (DefaultAction.ofCode (bits (c.word 0) 17 16)).isNone)
    || (flag (c.word 0) 10 && (ClearPolicy.ofCode (bits (c.word 0) 19 18)).isNone)

/-- S clamped to 64..9,216 (R138). -/
def Command.maxFrame (c : Command) : Nat := max Config.frameMin (min Config.frameMax (c.word 1).toNat)

/-- The settings that the lane would hold after the command (R138). -/
def Command.laneConfig (c : Command) (g : LaneConfig) : LaneConfig where
  maxFrame := if flag (c.word 0) 8 then c.maxFrame else g.maxFrame
  defaultAction :=
    if flag (c.word 0) 9 then (DefaultAction.ofCode (bits (c.word 0) 17 16)).getD g.defaultAction else g.defaultAction
  clearPolicy :=
    if flag (c.word 0) 10 then (ClearPolicy.ofCode (bits (c.word 0) 19 18)).getD g.clearPolicy else g.clearPolicy
  highMark := if flag (c.word 0) 11 then bits (c.word 2) 15 0 else g.highMark
  lowMark := if flag (c.word 0) 12 then bits (c.word 2) 31 16 else g.lowMark
  quanta := if flag (c.word 0) 13 then bits (c.word 3) 15 0 else g.quanta

/-- The marks and quanta satisfy L_m < H_m ≤ 2,048 and Q ≥ 1 (R132, R138 check 3). -/
def LaneConfig.marksOk (g : LaneConfig) : Bool :=
  decide (g.lowMark < g.highMark ∧ g.highMark ≤ Config.holdingCells ∧ 1 ≤ g.quanta)

/-- A selected S is clamped (R138). -/
def Command.laneClamped (c : Command) : Bool :=
  flag (c.word 0) 8 && decide ((c.word 1).toNat < Config.frameMin ∨ Config.frameMax < (c.word 1).toNat)

/-- Configure Lane at the Lane Controller (R138). R105 has a changed Q met at the next occupancy event or refresh expiry, and has it
set the value of the next PAUSE frame; that a frame already waiting keeps its value is the model's choice (DESIGN CHOICE, log entry
41). -/
def configureLaneOwner (c : Command) (s : State) : State × Reply :=
  match c.lane with
  | none => (s, status .badValue)
  | some l =>
    let v := s.lane l
    let g := c.laneConfig v.control.config
    if c.laneChoiceBad then (s, status .badValue)
    else if g.marksOk then
      (s.setLane l (v.withControl { v.control with config := g }), status (if c.laneClamped then .clamped else .ok))
    else (s, status .badValue)

/-- CONFIGURE_LANE (R138). -/
def execConfigureLane (s : State) : Result := s.serve .configureLane configureLaneOwner

/-! ### Sample Lane Counters (section 8.5) -/

/-- The body of a Sample Lane Counters response: the sample record, the mode and the link states (R141, section 11.4). -/
def LaneControl.sampleBody (k : LaneControl) : List Word :=
  [packWord [(0, 2, k.mode.code), (8, 1, bit k.systemUp), (9, 1, bit k.lineUp)], lowWord k.sampleTick,
    highWord k.sampleTick] ++ k.sampleCounters.outbound.toList.map wordOf ++ k.sampleCounters.inbound.toList.map wordOf

/-- The present counters and the tick count latched into the sample record (R141). -/
def LaneControl.latch (k : LaneControl) (tickCount : Nat) : LaneControl :=
  { k with sampleCounters := k.counters, sampleTick := tickCount }

/-- Sample Lane Counters at the Lane Controller (R141). -/
def sampleLaneCountersOwner (c : Command) (s : State) : State × Reply :=
  match c.lane with
  | none => (s, status .badValue)
  | some l =>
    let v := s.lane l
    (s.setLane l (v.withControl (v.control.latch s.timebase.tickCount)),
      { status := .ok, body := v.control.sampleBody })

/-- SAMPLE_LANE_COUNTERS (R141). -/
def execSampleLaneCounters (s : State) : Result := s.serve .sampleLaneCounters sampleLaneCountersOwner

/-! ### Restart Lane (section 8.6) -/

/-- The lane's counters at 0 and its sample record cleared (R142). -/
def LaneControl.zeroed (k : LaneControl) : LaneControl :=
  { k with counters := {}, sampleCounters := {}, sampleTick := 0 }

/-- The lane after Restart Lane: both engines have taken their parts, and no counter has been raised (R142, R104, R130). -/
def Lane.restart (v : Lane) : Lane :=
  ((v.withControl v.control.zeroed).withEgress v.egress.restart).withIngress v.ingress.restart

/-- An accepted Restart Lane, with the releases, withdrawals and abandons it sends (R142, R104, R130). -/
def State.restartLane (s : State) (l : LaneId) : State :=
  let v := s.lane l
  (((s.setLane l v.restart).sendReleases v.egress.restartReleases).sendWithdrawals l
    (protectRecords v.egress.queuedEntries)).sendAbandons v.ingress.restartAbandons

/-- Restart Lane at the Lane Controller (R142). -/
def restartLaneOwner (c : Command) (s : State) : State × Reply :=
  match c.lane with
  | none => (s, status .badValue)
  | some l => (s.restartLane l, status .ok)

/-- RESTART_LANE (R142, R104, R130). -/
def execRestartLane (s : State) : Result := s.serve .restartLane restartLaneOwner

/-! ### Link events (section 8.3) -/

/-- The held state of a link. -/
def LaneControl.link (k : LaneControl) : Side → Bool
  | .system => k.systemUp
  | .line => k.lineUp

/-- The lane with the held state of a link given. -/
def Lane.withLink (v : Lane) (side : Side) (up : Bool) : Lane :=
  match side with
  | .system => v.withControl { v.control with systemUp := up }
  | .line => v.withControl { v.control with lineUp := up }

/-- What the lane's engines do at a link change handed to them (R137). -/
def Lane.linkChanged (v : Lane) (side : Side) (up : Bool) (arrived : Nat) : Lane :=
  match side, up with
  | .line, false => v.egressLineDown.ingressLineDown arrived
  | .line, true => v
  | .system, false => v.egressSystemDown.ingressSystemDown
  | .system, true => v.egressSystemUp

/-- The releases ABORTED that a link change sends (R102, R36). -/
def Lane.linkReleases (v : Lane) (side : Side) (up : Bool) : List ReleaseMsg :=
  match side, up with
  | .line, false => v.egress.lineFrames.flatMap (fun f => f.release .aborted)
  | _, _ => []

/-- The sticky LANE service flag set (R137, R161). -/
def State.raiseLane (s : State) : State := { s with port := { s.port with laneFlag := true } }

/-- A link event that changes a held link state (R137). -/
def State.takeLink (s : State) (l : LaneId) (side : Side) (up : Bool) (arrived : Nat) : State :=
  let v := (s.lane l).withLink side up
  ((s.setLane l (v.linkChanged side up arrived)).sendReleases (v.linkReleases side up)).raiseLane

/-- LINK_EVENT (R137, R102, R93, R106, R128). A reported state that equals the state held changes nothing. -/
def execLinkEvent (lane : LaneId) (side : Side) (up : Bool) (arrived : Nat) (s : State) : Result :=
  s.unlessResetting (if (s.lane lane).control.link side = up then .next s
    else s.takes (s.takeLink lane side up arrived))

end Sys2Proof.Machine
end

