-- ==== Sys2Proof/Machine/Port.lean ====
section
/-!
DEFINITION. The Command Port (chapter 10): command assembly, the commands it answers itself or owns, the reads and writes of
the register window, and the resets.
-/

namespace Sys2Proof.Machine

/-! ### Configure Part and Read Part (section 10.4) -/

/-- An envelope type that Configure Part refuses (R159 check 2). -/
def envelopeTypeBad (t : Nat) : Bool := decide (t < 0x0600) || t == 0x8100 || t == 0x8808

/-- A threshold that Configure Part refuses (R159 check 3). -/
def thresholdBad (n : Nat) : Bool := n == 0 || decide (Config.fifoWords < n)

/-- A check of R159 fails. -/
def Command.partBad (c : Command) : Bool :=
  (flag (c.word 0) 0 && decide (7 < bits (c.word 0) 15 8))
    || (flag (c.word 0) 1 && envelopeTypeBad (bits (c.word 1) 15 0))
    || (flag (c.word 0) 2 && thresholdBad (bits (c.word 2) 15 0))
    || (flag (c.word 0) 3 && thresholdBad (bits (c.word 2) 31 16))

/-- The selected part-wide settings stored (R159, R43). -/
def State.configurePart (s : State) (c : Command) : State :=
  { s with
    timebase := { s.timebase with
      prescaler := if flag (c.word 0) 0 then bits (c.word 0) 15 8 else s.timebase.prescaler }
    port := { s.port with
      envelopeType := if flag (c.word 0) 1 then BitVec.ofNat 16 (bits (c.word 1) 15 0) else s.port.envelopeType
      responseThreshold := if flag (c.word 0) 2 then bits (c.word 2) 15 0 else s.port.responseThreshold
      spaceThreshold := if flag (c.word 0) 3 then bits (c.word 2) 31 16 else s.port.spaceThreshold } }

/-- Configure Part at the Command Port (R159). -/
def configurePartOwner (c : Command) (s : State) : State × Reply :=
  if c.partBad then (s, status .badValue) else (s.configurePart c, status .ok)

/-- CONFIGURE_PART (R159, R43). -/
def execConfigurePart (s : State) : Result := s.serve .configurePart configurePartOwner

/-- The body of a Read Part response (R160, section 11.4). -/
def State.partBody (s : State) : List Word :=
  [packWord [(0, 3, s.timebase.prescaler), (16, 16, s.port.envelopeType.toNat)],
    packWord [(0, 16, s.port.responseThreshold), (16, 16, s.port.spaceThreshold)], lowWord s.timebase.tickCount,
    highWord s.timebase.tickCount]

/-- Read Part at the Command Port (R160). -/
def readPartOwner (_c : Command) (s : State) : State × Reply := (s, { status := .ok, body := s.partBody })

/-- READ_PART (R160). -/
def execReadPart (s : State) : Result := s.serve .readPart readPartOwner

/-- COMMAND_ANSWERED_BY_PORT (R157): the oldest closed command, where the Command Processor answers it itself. -/
def execCommandAnsweredByPort (s : State) : Result :=
  match s.ready with
  | none => .next s
  | some c =>
    match c.portStatus with
    | some st => .next (s.taken.post (headerTag c.header) (status st))
    | none => .next s

/-! ### Command assembly (section 10.2) -/

/-- The newest command, when it is in assembly, with the body words it still expects. -/
def CommandPort.assembly (p : CommandPort) : Option (Command × Nat) :=
  match p.commands.getLast? with
  | none => none
  | some c =>
    match c.phase with
    | .assembling expected => some (c, expected)
    | .complete | .truncated => none

/-- The newest command replaced. -/
def CommandPort.setNewest (p : CommandPort) (c : Command) : CommandPort :=
  { p with commands := p.commands.dropLast ++ [c] }

/-- A command in assembly is closed as truncated (R153, R156). -/
def CommandPort.truncate (p : CommandPort) : CommandPort :=
  match p.assembly with
  | some (c, _) => p.setNewest { c with phase := .truncated }
  | none => p

/-- The sticky PORT_FAULT flag set (R153, R154, R161). -/
def CommandPort.fault (p : CommandPort) : CommandPort := { p with portFault := true }

/-- The phase of a command that still expects some number of body words (R153). -/
def phaseExpecting (expected : Nat) : Phase := if expected = 0 then .complete else .assembling expected

/-- The command that a header word starts (R153). -/
def commandOf (w : Word) : Command where
  header := w
  body := []
  overflow := false
  framing := false
  phase := phaseExpecting (headerLength w)

/-- A word written to HEADER (R153). -/
def CommandPort.writeHeader (p : CommandPort) (w : Word) : CommandPort :=
  if p.truncate.freeCommandWords = 0 then p.truncate.fault
  else { p.truncate with commands := p.truncate.commands ++ [commandOf w] }

/-- The body position at which the next word of a command in assembly falls (R153, R154). -/
def Command.position (c : Command) (expected : Nat) : Nat := headerLength c.header - expected

/-- A word of a place falls at a position where its command's layout has the other place (R155). -/
def misplaced (code position : Nat) (place : Place) : Bool := keyPosition code position != (place == .key)

/-- A command in assembly after one more of its body positions has been written (R153 to R155): stored, or, in a full FIFO,
dropped with the overflow mark set. -/
def Command.takeWord (c : Command) (expected : Nat) (place : Place) (w : Word) (full : Bool) : Command :=
  { c with
    body := if full then c.body else c.body ++ [(place, w)]
    overflow := c.overflow || full
    framing := c.framing || misplaced (headerCode c.header) (c.position expected) place
    phase := phaseExpecting (expected - 1) }

/-- A word written to BODY or KEY: a stray word, or the next body word of the command in assembly (R153, R154). -/
def CommandPort.writeBody (p : CommandPort) (place : Place) (w : Word) : CommandPort :=
  match p.assembly with
  | none => p.fault
  | some (c, expected) =>
    if p.freeCommandWords = 0 then (p.setNewest (c.takeWord expected place w true)).fault
    else p.setNewest (c.takeWord expected place w false)

/-- The state with its Command Port given. -/
def State.withPort (s : State) (p : CommandPort) : State := { s with port := p }

/-- HEADER_WRITE (R153). During a Part Reset the write is dropped (R163). -/
def execHeaderWrite (w : Word) (s : State) : Result :=
  s.unlessResetting (s.takes (s.withPort (s.port.writeHeader w)))

/-- BODY_WRITE (R153 to R155). -/
def execBodyWrite (w : Word) (s : State) : Result :=
  s.unlessResetting (s.takes (s.withPort (s.port.writeBody .body w)))

/-- KEY_WRITE (R153 to R155). -/
def execKeyWrite (w : Word) (s : State) : Result :=
  s.unlessResetting (s.takes (s.withPort (s.port.writeBody .key w)))

/-- ASSEMBLY_EXPIRY (R156): a command still in assembly is closed as truncated. Its moment, 10 ms after the header, is the
sender's (log entry 9). -/
def execAssemblyExpiry (s : State) : Result := s.unlessResetting (s.takes (s.withPort s.port.truncate))

/-! ### Reads and writes of the window (sections 10.1 and 10.5) -/

/-- The state with the word that a read of the window has returned. -/
def State.returns (s : State) (w : Word) : State := { s with pins := { s.pins with readData := w } }

/-- The oldest word of the Response FIFO popped, if there is one (R158). -/
def State.popResponse (s : State) : State := s.withPort { s.port with responses := s.port.responses.tail }

/-- RESPONSE_READ (R152, R158). During a Part Reset the read returns 0 (R163). -/
def execResponseRead (s : State) : Result :=
  if s.port.resetting then .next (s.returns 0)
  else s.takes (s.popResponse.returns (s.windowRead 0x0C))

/-- The sticky flags that a SERVICE STATUS write clears: those whose positions are written with 1 (R161). -/
def CommandPort.clearSticky (p : CommandPort) (w : Word) : CommandPort :=
  { p with laneFlag := p.laneFlag && !flag w 3, portFault := p.portFault && !flag w 4 }

/-- The outcome of a write to SERVICE STATUS, SERVICE ENABLE or CONTROL (R162). -/
def State.takesWrite (after : State) : Result := .next after.notifyWrite

/-- SERVICE_STATUS_WRITE (R161, R162). -/
def execServiceStatusWrite (w : Word) (s : State) : Result :=
  s.unlessResetting (s.withPort (s.port.clearSticky w)).takesWrite

/-- SERVICE_ENABLE_WRITE (R161, R162): all five enables are replaced. -/
def execServiceEnableWrite (w : Word) (s : State) : Result :=
  s.unlessResetting (s.withPort { s.port with enables := ServiceBits.ofWord w }).takesWrite

/-- HOLD_BIT_WRITE (R163, R162). -/
def execHoldBitWrite (hold : Bool) (s : State) : Result :=
  s.unlessResetting (s.withPort { s.port with hold := hold }).takesWrite

/-- IGNORED_WRITE (R152): a write to an offset of the window that takes none changes nothing and sets no flag. -/
def execIgnoredWrite (_offset : Nat) (_word : Word) (s : State) : Result := .next s

/-! ### Resets (R25, R163) -/

/-- PART_RESET (R163): a CONTROL write with the Part Reset request set. A hold bit in the same write is cleared by the reset.
During a Part Reset the write is dropped. -/
def execPartReset (_hold : Bool) (s : State) : Result := s.unlessResetting (.next s.beginReset)

/-- PART_RESET_END (R163). Its moment, at most 100 µs after the CONTROL write, is the sender's (log entry 9). -/
def execPartResetEnd (links : LinkStates) (s : State) : Result :=
  if s.port.resetting then .next (s.endReset links) else .next s

/-- POWER_ON_RESET (R25, R163), taken and ended. -/
def execPowerOnReset (links : LinkStates) (s : State) : Result := .next (s.fullReset links)

/-- PCIE_FUNDAMENTAL_RESET (R25, R163), taken and ended. -/
def execPcieFundamentalReset (links : LinkStates) (s : State) : Result := .next (s.fullReset links)

end Sys2Proof.Machine
end

