-- ==== Sys2Proof/Machine/Reading.lean ====
section
/-!
DEFINITION. The commands that read the Association Table (chapter 9): Read Association, Walk Table and Take Attention, as
the Association Manager takes them.
-/

namespace Sys2Proof.Machine

/-! ### Read Association (section 9.1) -/

/-- Words 15 to 17, or 18 to 20, of the body: one slot (section 11.4). -/
def Slot.readWords (sl : Slot) (kind : Kind) : List Word :=
  match kind with
  | .egress =>
    [packWord [(0, 3, sl.role.code), (4, 2, sl.keyNumber.toNat), (8, 5, sl.inFlight)], lowWord sl.nextSequence,
      packWord [(0, 17, sl.nextSequence / 2 ^ 32)]]
  | .ingress =>
    [packWord [(0, 3, sl.role.code), (4, 2, sl.keyNumber.toNat), (8, 5, sl.inFlight), (16, 9, sl.accepted.length)],
      lowWord sl.highest, packWord [(0, 16, sl.highest / 2 ^ 32)]]

/-- Word 0 of the body (section 11.4). -/
def Record.readFlags (r : Record) : Word :=
  packWord ([(0, 1, r.config.kind.code), (1, 3, r.state.code), (4, 2, r.haltReason.code), (6, 5, r.causes.code),
    (12, 3, r.stage.code), (16, 4, r.config.laneMask.toNat), (20, 1, bit r.config.confidential),
    (22, 1, r.config.lifetimeSource.code)] ++
    (match r.config.kind with
     | .egress => [(21, 1, r.config.switchMode.code), (24, 1, bit r.triggerLatch), (25, 1, bit r.pendingTrigger),
        (26, 1, bit r.evidence), (27, 1, bit r.config.companion.isSome)]
     | .ingress => [(24, 1, bit r.staleMark)]))

/-- Words 1 to 14 of the body of an EGRESS record (section 11.4). What the companion index holds when there is no companion the
manual does not say; that it is 0 is the model's choice (DESIGN CHOICE, log entry 33). -/
def Record.readEgress (r : Record) : List Word :=
  [packWord [(0, 24, r.config.tag.toNat)], packWord [(0, 16, r.config.companion.getD 0)], wordOf r.config.lead,
    wordOf r.config.grace, wordOf r.config.lifetimeValue, wordOf r.lifetimeCounter,
    packWord [(0, 16, r.octetRemainder), (16, 16, r.switchCount)], packWord [(0, 20, r.stageTimer)],
    packWord [(0, 20, r.graceTimer)], packWord [(0, 16, r.flowReferences), (16, 16, r.queuedFrames)],
    lowWord r.config.softThreshold, lowWord r.switchCapture,
    packWord [(0, 16, r.switchCapture / 2 ^ 32), (16, 16, r.config.softThreshold / 2 ^ 32)], wordOf r.switchTick]

/-- Words 1 to 14 of the body of an INGRESS record (section 11.4). -/
def Record.readIngress (r : Record) : List Word :=
  [packWord [(0, 24, r.config.tag.toNat)], packWord [(0, 16, r.companionCount), (16, 8, r.config.window)],
    wordOf r.config.overlap, wordOf r.counters.late, wordOf r.config.lifetimeValue, wordOf r.lifetimeCounter,
    packWord [(0, 16, r.octetRemainder), (16, 16, r.switchCount)], packWord [(0, 20, r.stageTimer)],
    wordOf r.counters.replay, wordOf r.counters.badTag, wordOf r.counters.noKey, lowWord r.switchCapture,
    packWord [(0, 16, r.switchCapture / 2 ^ 32)], wordOf r.switchTick]

/-- Words 21 to 25 of the body: the 64-bit record counters, low word first, and frames refused (section 11.4). -/
def Record.readCounters (r : Record) : List Word :=
  match r.config.kind with
  | .egress =>
    [lowWord r.counters.framesProtected, highWord r.counters.framesProtected, lowWord r.counters.octetsProtected,
      highWord r.counters.octetsProtected, wordOf r.counters.framesRefused]
  | .ingress =>
    [lowWord r.counters.framesAccepted, highWord r.counters.framesAccepted, lowWord r.counters.octetsAccepted,
      highWord r.counters.octetsAccepted, 0]

/-- The 26 words of a Read Association body (R143, section 11.4). -/
def Record.readBody (r : Record) : List Word :=
  r.readFlags :: ((match r.config.kind with | .egress => r.readEgress | .ingress => r.readIngress)
    ++ r.slot0.readWords r.config.kind ++ r.slot1.readWords r.config.kind ++ r.readCounters)

/-- Read Association at the Association Manager (R143). -/
def readAssociationOwner (c : Command) (s : State) : State × Reply :=
  let r := s.record c.index
  if Config.records ≤ c.index then (s, status .badIndex)
  else if r.state = .free then (s, status .notPresent)
  else (s, { status := .ok, body := r.readBody })

/-- READ_ASSOCIATION (R143, R144). -/
def execReadAssociation (s : State) : Result := s.serve .readAssociation readAssociationOwner

/-! ### Walk Table (section 9.2) -/

/-- The direction of an encoding; none where it names none (section 11.3). -/
def WalkDirection.ofCode : Nat → Option WalkDirection
  | 0 => some .up
  | 1 => some .down
  | _ => none

/-- The filter of an encoding; none where it names none (section 11.3). -/
def WalkFilter.ofCode : Nat → Option WalkFilter
  | 0 => some .all
  | 1 => some .inUse
  | 2 => some .attention
  | 3 => some .egress
  | 4 => some .ingress
  | _ => none

/-- A record passes a filter (R146). -/
def WalkFilter.passes (f : WalkFilter) (r : Record) : Bool :=
  match f with
  | .all => true
  | .inUse => r.state != .free
  | .attention => r.causes.any
  | .egress => r.state != .free && r.config.kind == .egress
  | .ingress => r.state != .free && r.config.kind == .ingress

/-- The index visited after an index; none where the walk passes the end of the table (R145, R147). -/
def WalkDirection.next (d : WalkDirection) (i : Nat) : Option Nat :=
  match d with
  | .up => if i + 1 < Config.records then some (i + 1) else none
  | .down => if i = 0 then none else some (i - 1)

/-- A gap word that stands for a run of indices (R147, section 11.4). -/
def gapWord (run : Nat) : Word := packWord [(30, 2, 2), (0, 7, run - 1)]

/-- A summary entry of a record, with the kind bit it shows (R146, section 11.4). -/
def Record.summary (r : Record) (i kindBit : Nat) : List Word :=
  [packWord [(30, 2, 1), (0, 16, i), (16, 1, kindBit), (17, 3, r.state.code)],
    packWord [(0, 24, r.config.tag.toNat), (24, 3, r.stage.code)], packWord [(0, 5, r.causes.code)]]

/-- An entry of n words fits: the body, with its resume word, stays within 63 words (R147). -/
def Walk.fits (w : Walk) (n : Nat) : Bool := decide (1 + w.entries.length + n ≤ Config.walkBody)

/-- The run being counted appended as a gap word. -/
def Walk.appendGap (w : Walk) : Walk := { w with entries := w.entries ++ [gapWord w.run], run := 0 }

/-- A summary appended. The kind bit of a FREE record is a free value (R146; log entry 5). -/
def Walk.appendSummary (w : Walk) (i : Nat) (r : Record) : Walk :=
  { w with
    entries := w.entries ++ r.summary i (if r.state = .free then bit (Config.freeKindBit w.draws) else r.config.kind.code)
    summaries := w.summaries + 1
    draws := if r.state = .free then w.draws + 1 else w.draws }

/-- A failing index counted into the run (R147). -/
def Walk.countFailing (w : Walk) (i : Nat) : Walk :=
  { w with run := w.run + 1, runStart := if w.run = 0 then i else w.runStart }

/-- The run, if any, ended by a gap word; none where the gap word does not fit (R147). -/
def Walk.endRun (w : Walk) : Option Walk :=
  if w.run = 0 then some w else if w.fits 1 then some w.appendGap else none

/-- How a run of visits ends (R147): the walk goes on at an index, none past the end of the table, or it has stopped with a
resume value, none for END. -/
inductive WalkEnd where
  | goesOn (next : Option Nat)
  | stops (resume : Option Nat)
deriving DecidableEq, Repr

/-- One visit of a walk at an index, with the record as it stands (R146, R147): what it has then built, and how the walk goes
on. -/
def Walk.visit (w : Walk) (d : WalkDirection) (f : WalkFilter) (count i : Nat) (r : Record) : Walk × WalkEnd :=
  if f.passes r then
    match w.endRun with
    | none => (w, .stops (some w.runStart))
    | some w' =>
      if w'.fits 3 then
        if (w'.appendSummary i r).summaries = count then (w'.appendSummary i r, .stops (d.next i))
        else (w'.appendSummary i r, .goesOn (d.next i))
      else (w', .stops (some i))
  else if (w.countFailing i).run = 128 then
    match (w.countFailing i).endRun with
    | none => (w.countFailing i, .stops (some (w.countFailing i).runStart))
    | some w' => (w', .goesOn (d.next i))
  else (w.countFailing i, .goesOn (d.next i))

/-- The end of the table: a run still being counted is appended first (R147). -/
def Walk.atEnd (w : Walk) : Walk × WalkEnd :=
  match w.endRun with
  | some w' => (w', .stops none)
  | none => (w, .stops (some w.runStart))

/-- At most some number of visits of a walk, from an index on, none past the end of the table (R146, R147). -/
def State.walkFrom (s : State) (d : WalkDirection) (f : WalkFilter) (count : Nat) :
    Nat → Option Nat → Walk → Walk × WalkEnd
  | _, none, w => w.atEnd
  | 0, some i, w => (w, .goesOn (some i))
  | visits + 1, some i, w =>
    match w.visit d f count i (s.record i) with
    | (w', .goesOn next) => s.walkFrom d f count visits next w'
    | (w', .stops resume) => (w', .stops resume)

/-- The resume word of a resume value: an index, or 0xFFFF for END (R165, section 11.4). -/
def resumeWord (resume : Option Nat) : Word := packWord [(0, 16, resume.getD 0xFFFF)]

/-- The first index that a start field names: CONTINUE, encoded 0xFFFF, names the Walk cursor's (R145, R164). -/
def State.walkStart (s : State) (start : Nat) : Option Nat := if start = 0xFFFF then s.manager.walkCursor else some start

/-- The checks of a Walk Table (R145): the status of the first that fails, or the walk that it begins. -/
def State.beginWalk (s : State) (c : Command) : Except Status WalkTurn :=
  let start := bits (c.word 0) 15 0
  let count := bits (c.word 0) 31 24
  if start ≠ 0xFFFF ∧ Config.records ≤ start then .error .badIndex
  else match WalkDirection.ofCode (bits (c.word 0) 17 16), WalkFilter.ofCode (bits (c.word 0) 22 20) with
    | some d, some f =>
      if count = 0 ∨ 20 < count then .error .badValue
      else .ok {
        tag := headerTag c.header, direction := d, filter := f, count := count, next := s.walkStart start
        built := { draws := s.freeDraws } }
    | _, _ => .error .badValue

/-- The Association Manager with a walk between two visits, or without one, and the free values drawn so far (R146; log
entry 5). -/
def State.holdWalk (s : State) (t : Option WalkTurn) (draws : Nat) : State :=
  { s with manager := { s.manager with walk := t }, freeDraws := draws }

/-- A walk that has stopped: the cursor takes its resume value (R148). -/
def State.endWalk (s : State) (resume : Option Nat) (draws : Nat) : State :=
  { s with manager := { s.manager with walk := none, walkCursor := resume }, freeDraws := draws }

/-- Visits of a walk, one by one (R146), as many as the pace lets it make before another event may be taken, and at least one (log
entry 36): the walk is then held where it goes on, and answered where it has stopped (R147, R148, R157). -/
def State.walkOn (s : State) (t : WalkTurn) : Result :=
  match s.walkFrom t.direction t.filter t.count (max 1 s.walkPace) t.next { t.built with draws := s.freeDraws } with
  | (w, .goesOn next) => s.takes (s.holdWalk (some { t with next := next, built := w }) w.draws)
  | (w, .stops resume) =>
    .next ((s.notify (s.endWalk resume w.draws)).post t.tag { status := .ok, body := resumeWord resume :: w.entries })

/-- WALK_TABLE (R145 to R148): the command taken and checked, or the walk it has begun taken further, and visits made. -/
def execWalkTable (s : State) : Result :=
  match s.manager.walk with
  | some t => s.unlessResetting (s.walkOn t)
  | none =>
    match s.ready with
    | none => .next s
    | some c =>
      if c.handedAs .walkTable then
        match s.taken.beginWalk c with
        | .error st => .next (s.taken.post (headerTag c.header) (status st))
        | .ok t => s.taken.walkOn t
      else .next s

/-! ### Take Attention (section 9.3) -/

/-- The word of a Take Attention body (section 11.4). -/
def Record.attentionWord (r : Record) (i : Nat) : Word :=
  packWord [(0, 16, i), (16, 5, r.causes.code), (21, 3, r.state.code), (24, 2, r.haltReason.code)]

/-- The lowest index in the Attention Set (R150). -/
def AssociationManager.lowestAttention (m : AssociationManager) : Option Nat := m.attentionSet.min?

/-- Take Attention at the Association Manager (R150). -/
def takeAttentionOwner (_c : Command) (s : State) : State × Reply :=
  match s.manager.lowestAttention with
  | none => (s, status .empty)
  | some i =>
    (s.setRecord i { s.record i with causes := {} }, { status := .ok, body := [(s.record i).attentionWord i] })

/-- TAKE_ATTENTION (R150, R151). -/
def execTakeAttention (s : State) : Result := s.serve .takeAttention takeAttentionOwner

end Sys2Proof.Machine
end

