-- ==== Sys2Proof/Machine/Requests.lean ====
section
/-!
DEFINITION. The requests and messages that engines and records send to association records, as the Association Manager
takes them: enqueues, withdrawals, allocation requests, releases, lookups, commits, abandons and evidence arrivals
(sections 1.7 to 1.12, 2.1, 2.2, 2.6, 4.5, 7.4 and 7.7).
-/

namespace Sys2Proof.Machine

/-! ### Enqueue and withdrawal (R19) -/

/-- The record with one more queued frame (R19). -/
def Record.gainQueued (r : Record) : Record := { r with queuedFrames := r.queuedFrames + 1 }

/-- The record with one queued frame fewer (R19, R16). -/
def Record.loseQueued (r : Record) : Record := { r with queuedFrames := r.queuedFrames - 1 }

/-- The flow command at the Flow Classifier with one enqueue fewer to wait for, if it waits for it (R84). -/
def FlowTurn.afterEnqueue (t : FlowTurn) (l : LaneId) (i : Nat) : FlowTurn :=
  match t with
  | .waiting c awaited => .waiting c (awaited.erase (l, i))
  | .releasing c record awaited => .releasing c record (awaited.erase (l, i))

/-- An enqueue taken at its record (R19), and no longer waited for (R84). Of enqueues that are alike, the oldest is the one
taken (log entry 12). -/
def State.takeEnqueue (s : State) (l : LaneId) (i : Nat) : State :=
  { s with
    transit := { s.transit with enqueues := s.transit.enqueues.erase (l, i) }
    flowTurn := s.flowTurn.map (FlowTurn.afterEnqueue · l i) }.setRecord i (s.record i).gainQueued

/-- ENQUEUE (R19, R95). At a record that counts 8,192 queued frames, the most of R2, the request or the withdrawal of one of them is
taken first (log entry 43). -/
def execEnqueue (lane : LaneId) (i : Nat) (s : State) : Result :=
  s.unlessResetting (if (lane, i) ∈ s.transit.enqueues ∧ (s.record i).queuedFrames < Config.queuedMax then
      s.takes (s.takeEnqueue lane i)
    else .next s)

/-- The QUEUED entries of a lane for a record (R91, R95). -/
def State.queuedEntries (s : State) (l : LaneId) (i : Nat) : Nat :=
  ((s.lane l).egress.buffer.filter (fun x => x.status == .queued && x.disposition == some (.protect i))).length

/-- A queued-frame withdrawal taken at its record (R19, R16). -/
def State.takeWithdrawal (s : State) (l : LaneId) (i : Nat) : State :=
  { s with transit := { s.transit with withdrawals := s.transit.withdrawals.erase (l, i) } }.setRecord i
    (s.record i).loseQueued.freeWhenDrained

/-- QUEUED_FRAME_WITHDRAWAL (R19, R16). A frame's own enqueue is taken at the record before its withdrawal: the enqueues in transit
are fewer than the lane's QUEUED and withdrawn frames for the record (log entry 12). -/
def execQueuedFrameWithdrawal (lane : LaneId) (i : Nat) (s : State) : Result :=
  s.unlessResetting (if (lane, i) ∈ s.transit.withdrawals ∧
      s.transit.enqueues.count (lane, i) < s.queuedEntries lane i + s.transit.withdrawals.count (lane, i) then
      s.takes (s.takeWithdrawal lane i)
    else .next s)

/-! ### Allocation (sections 2.1 and 2.2) -/

/-- The refusal that checks 1 to 4 of R27 give; none when all of them pass. -/
def Record.allocationCheck (r : Record) (l : LaneId) : Option AllocationRefusal :=
  if r.state = .retiring then some .retired
  else if r.state = .staged then some .notReady
  else if r.state = .halted then some .halted
  else if r.config.laneMask.getLsbD l.val = false then some .wrongLane
  else none

/-- What every refusal does at the record: queued frames lose 1 and frames refused gains 1 (R27, R23). -/
def Record.refuse (r : Record) : Record :=
  { r.loseQueued with
    counters := { r.counters with framesRefused := satAdd Config.max32 r.counters.framesRefused 1 } }

/-- The CURRENT slot of an egress record found damaged: DAMAGED, and the record HALTED with KEY_FAULT (R22). -/
def Record.currentFault (r : Record) : Record :=
  (r.setSlot r.currentSlot r.currentPosition.damage).halt .keyFault

/-- The grant that a request gets: the values of the record and its CURRENT slot as they stand (R28). -/
def Record.egressGrant (r : Record) (i : Nat) : EgressGrant where
  record := i
  slot := r.currentSlot
  keyNumber := r.currentPosition.keyNumber
  sequence := r.currentPosition.nextSequence
  tag := r.config.tag
  confidential := r.config.confidential
  key := r.currentPosition.key
  salt := r.currentPosition.salt

/-- Steps 2 to 6 of a grant at the record (R28). -/
def Record.grant (r : Record) (n tickCount : Nat) : Record :=
  ((r.assign n).thresholds r.currentPosition.nextSequence tickCount).exhaustion r.currentSlot
    r.currentPosition.nextSequence tickCount

/-- An allocation request judged at the record of an index: the record afterwards, and the answer (R27, R28). -/
def Record.allocate (r : Record) (i : Nat) (l : LaneId) (n tickCount : Nat) : Record × AllocationAnswer :=
  match r.allocationCheck l with
  | some why => (r.refuse.freeWhenDrained, .refused why)
  | none =>
    if r.currentPosition.keyPasses then (r.grant n tickCount, .granted (r.egressGrant i))
    else (r.refuse.currentFault, .refused .keyFault)

/-- The request that a lane's engine has sent and whose answer has not been given at the record (R98). -/
def EgressEngine.openRequest (e : EgressEngine) : Option AllocationRequest :=
  match e.answer with
  | none => e.request
  | some _ => none

/-- An allocation request taken at its record, with the answer on its way to the engine (R27, R28). -/
def State.takeAllocation (s : State) (l : LaneId) (q : AllocationRequest) : State :=
  let judged := (s.record q.record).allocate q.record l q.protectedOctets s.timebase.tickCount
  let v := s.lane l
  (s.setLane l (v.withEgress { v.egress with answer := some judged.2 })).setRecord q.record judged.1

/-- The record's answer to an allocation request, as the record stands, would be a grant under a slot with 8 frames in flight, the
most of R19. -/
def State.allocationOverfills (s : State) (l : LaneId) (q : AllocationRequest) : Bool :=
  match ((s.record q.record).allocate q.record l q.protectedOctets s.timebase.tickCount).2 with
  | .granted g => decide (Config.egressInFlight ≤ ((s.record g.record).slot g.slot).inFlight)
  | .refused _ => false

/-- An allocation request may be taken: its frame's own enqueue has been taken, so that the enqueues in transit are those of the
lane's QUEUED entries for the record (log entry 12); and where it is granted, the slot keeps the bound of R19, a release in transit
being taken first (log entry 43). -/
def State.allocationDue (s : State) (l : LaneId) (q : AllocationRequest) : Bool :=
  decide (s.transit.enqueues.count (l, q.record) ≤ s.queuedEntries l q.record) && !s.allocationOverfills l q

/-- ALLOCATION_REQUEST (R27 to R32, R19). -/
def execAllocationRequest (lane : LaneId) (s : State) : Result :=
  s.unlessResetting (match (s.lane lane).egress.openRequest with
    | some q => if s.allocationDue lane q then s.takes (s.takeAllocation lane q) else .next s
    | none => .next s)

/-! ### Release (section 2.6) -/

/-- The record counters after a release: COMPLETED counts the frame and its protected octets (R37, R23). -/
def RecordCounters.released (c : RecordCounters) (m : ReleaseMsg) : RecordCounters :=
  match m.outcome with
  | .completed =>
    { c with framesProtected := satAdd Config.max64 c.framesProtected 1
             octetsProtected := satAdd Config.max64 c.octetsProtected m.octets }
  | .aborted => c

/-- A release at the record (R37, R65). -/
def Record.release (r : Record) (m : ReleaseMsg) (tickCount : Nat) : Record :=
  (({ r with counters := r.counters.released m }).endGrant m.slot tickCount).freeWhenDrained

/-- A release taken at its record (R37). -/
def State.takeRelease (s : State) (m : ReleaseMsg) : State :=
  { s with transit := { s.transit with releases := s.transit.releases.erase m } }.setRecord m.record
    ((s.record m.record).release m s.timebase.tickCount)

/-- RELEASE (R37). -/
def execRelease (m : ReleaseMsg) (s : State) : Result :=
  s.unlessResetting (if m ∈ s.transit.releases then s.takes (s.takeRelease m) else .next s)

/-! ### Lookup (section 7.4) -/

/-- The refusal that checks 2 to 4 of R116 give; none when all of them pass. -/
def Record.lookupCheck (r : Record) (l : LaneId) (h : EnvelopeFields) : Option LookupRefusal :=
  if r.state = .staged then some .notReady
  else if r.config.laneMask.getLsbD l.val = false then some .wrongLane
  else if h.confidential ≠ r.config.confidential then some .badHeader
  else none

/-- The record with its NO_KEY counter raised (R23). -/
def Record.countNoKey (r : Record) : Record :=
  { r with counters := { r.counters with noKey := satAdd Config.max32 r.counters.noKey 1 } }

/-- The record with its LATE counter raised (R23). -/
def Record.countLate (r : Record) : Record :=
  { r with counters := { r.counters with late := satAdd Config.max32 r.counters.late 1 } }

/-- The record with its REPLAY counter raised (R23). -/
def Record.countReplay (r : Record) : Record :=
  { r with counters := { r.counters with replay := satAdd Config.max32 r.counters.replay 1 } }

/-- The record with one more frame granted under a slot (R116, R19). -/
def Record.gainInFlight (r : Record) (k : SlotNo) : Record :=
  r.setSlot k { r.slot k with inFlight := (r.slot k).inFlight + 1 }

/-- The grant of a lookup under a slot (R116, R20). -/
def Record.ingressGrant (r : Record) (i : Nat) (k : SlotNo) : IngressGrant where
  record := i
  slot := k
  key := (r.slot k).key
  salt := (r.slot k).salt

/-- Checks 6 and 7 of R116 at the slot that the key number selects, and the grant. -/
def Record.lookupSlot (r : Record) (i : Nat) (k : SlotNo) (s : Nat) : Record × LookupAnswer :=
  match judge (r.slot k).highest (r.slot k).accepted r.config.window s with
  | .late => (r.countLate, .refused .late)
  | .replay => (r.countReplay, .refused .replay)
  | .accept =>
    if (r.slot k).keyPasses then (r.gainInFlight k, .granted (r.ingressGrant i k))
    else (r.countNoKey.lookupFault k, .refused .noKey)

/-- A lookup request judged at the record of an index: the record afterwards, and the answer (R116, R117). -/
def Record.lookup (r : Record) (i : Nat) (l : LaneId) (h : EnvelopeFields) : Record × LookupAnswer :=
  match r.lookupCheck l h with
  | some why => (r, .refused why)
  | none =>
    match r.selectSlot h.keyNumber with
    | none => (r.countNoKey, .refused .noKey)
    | some k => r.lookupSlot i k h.sequence

/-- The answer to a lookup request, with the record that the Tag Index leads to as the lookup leaves it (R116). -/
def State.judgeLookup (s : State) (l : LaneId) (h : EnvelopeFields) : State × LookupAnswer :=
  match s.tagged h.tag with
  | none => (s, .refused .unknownTag)
  | some i => (s.setRecord i ((s.record i).lookup i l h).1, ((s.record i).lookup i l h).2)

/-- A store in LOOKUP given the answer to its request. -/
def State.giveLookup (s : State) (l : LaneId) (k : StoreId) (f : FrameStore) (octets : Frame) (h : EnvelopeFields)
    (a : LookupAnswer) : State :=
  let v := s.lane l
  s.setLane l (v.withIngress (v.ingress.setStore k { f with status := .lookup octets h (some a) }))

/-- A lookup request taken at the Association Manager, with the answer on its way to the store (R116). -/
def State.takeLookup (s : State) (l : LaneId) (k : StoreId) (f : FrameStore) (octets : Frame) (h : EnvelopeFields) :
    State :=
  (s.judgeLookup l h).1.giveLookup l k f octets h (s.judgeLookup l h).2

/-- The answer to a lookup request, as its record stands, would be a grant under a slot with 16 frames in flight, the most of
R19. -/
def State.lookupOverfills (s : State) (l : LaneId) (h : EnvelopeFields) : Bool :=
  match (s.judgeLookup l h).2 with
  | .granted g => decide (Config.ingressInFlight ≤ ((s.record g.record).slot g.slot).inFlight)
  | .refused _ => false

/-- LOOKUP (R116, R117). A lookup whose grant would pass the bound of R19 waits for an abandon in transit, which is taken first
(log entry 43). -/
def execLookup (lane : LaneId) (store : StoreId) (s : State) : Result :=
  s.unlessResetting (match (s.lane lane).ingress.store store with
    | some f =>
      (match f.status with
       | .lookup octets h none =>
         if s.lookupOverfills lane h then .next s else s.takes (s.takeLookup lane store f octets h)
       | _ => .next s)
    | none => .next s)

/-! ### Commit and abandon (section 7.7) -/

/-- The answer to a commit of a sequence number under a slot (R122). -/
def Record.judgeCommit (r : Record) (k : SlotNo) (s : Nat) : CommitAnswer :=
  if r.state = .retiring then .retired
  else if (r.slot k).role = .damaged then .noKey
  else match judge (r.slot k).highest (r.slot k).accepted r.config.window s with
    | .late => .late
    | .replay => .replay
    | .accept => .accepted

/-- An accepted commit under a slot makes the ingress switch: the slot is NEXT (R122, R70). -/
def Record.commitSwitches (r : Record) (k : SlotNo) : Bool := (r.slot k).role == .next

/-- Steps 3 and 4 of an accepted commit: the credit under the CURRENT slot of a LIVE record, and, where octets are credited,
the lifetime threshold (R122, R51, R53; log entry 13). -/
def Record.commitCredit (r : Record) (k : SlotNo) (n : Nat) : Record :=
  if r.state = .live ∧ (r.slot k).role = .current then
    (match r.config.lifetimeSource with
     | .octets => (r.credit n).staleCheck
     | .age => r)
  else r

/-- The record counters after an accepted frame (R122, R23). -/
def RecordCounters.acceptedFrame (c : RecordCounters) (n : Nat) : RecordCounters :=
  { c with framesAccepted := satAdd Config.max64 c.framesAccepted 1
           octetsAccepted := satAdd Config.max64 c.octetsAccepted n }

/-- Steps 1 to 5 of an accepted commit (R122). -/
def Record.acceptCommit (r : Record) (k : SlotNo) (s n tickCount : Nat) : Record :=
  let windowed := r.setSlot k ((r.slot k).accept r.config.window s)
  let switched := if r.commitSwitches k then windowed.ingressSwitch s tickCount else windowed
  let credited := switched.commitCredit k n
  { credited with counters := credited.counters.acceptedFrame n }

/-- What the answer to a commit does at the record, before the frame's grant ends (R122). -/
def Record.answerCommit (r : Record) (a : CommitAnswer) (k : SlotNo) (s n tickCount : Nat) : Record :=
  match a with
  | .accepted => r.acceptCommit k s n tickCount
  | .retired => r
  | .noKey => r.countNoKey
  | .late => r.countLate
  | .replay => r.countReplay

/-- A commit at the record: what its answer does, and the end of the frame's grant (R122). -/
def Record.commit (r : Record) (k : SlotNo) (s n tickCount : Nat) : Record :=
  ((r.answerCommit (r.judgeCommit k s) k s n tickCount).endGrant k tickCount).freeWhenDrained

/-- A store in COMMITTING given the answer to its commit. -/
def State.giveCommit (s : State) (l : LaneId) (k : StoreId) (f : FrameStore) (octets : Frame) (h : EnvelopeFields)
    (g : IngressGrant) (plaintext : List Byte) (a : CommitAnswer) : State :=
  let v := s.lane l
  s.setLane l (v.withIngress (v.ingress.setStore k { f with status := .committing octets h g plaintext (some a) }))

/-- The evidence that an accepted commit under NEXT sends (R122 step 2, R71). -/
def State.commitEvidence (s : State) (i : Nat) (switches : Bool) : State := if switches then s.sendEvidence i else s

/-- A commit taken at its record, with the answer on its way to the store (R122). -/
def State.takeCommit (s : State) (l : LaneId) (k : StoreId) (f : FrameStore) (octets : Frame) (h : EnvelopeFields)
    (g : IngressGrant) (plaintext : List Byte) : State :=
  let r := s.record g.record
  let a := r.judgeCommit g.slot h.sequence
  ((s.setRecord g.record (r.commit g.slot h.sequence (deliveredCount octets) s.timebase.tickCount)).commitEvidence g.record
    (a == .accepted && r.commitSwitches g.slot)).giveCommit l k f octets h g plaintext a

/-- COMMIT (R122). -/
def execCommit (lane : LaneId) (store : StoreId) (s : State) : Result :=
  s.unlessResetting (match (s.lane lane).ingress.store store with
    | some f =>
      (match f.status with
       | .committing octets h g plaintext none => s.takes (s.takeCommit lane store f octets h g plaintext)
       | _ => .next s)
    | none => .next s)

/-- The record counters after an abandon (R123, R23). -/
def RecordCounters.abandoned (c : RecordCounters) (why : AbandonReason) : RecordCounters :=
  match why with
  | .badTag => { c with badTag := satAdd Config.max32 c.badTag 1 }
  | .abort => c

/-- An abandon at the record (R123, R73). -/
def Record.abandon (r : Record) (m : AbandonMsg) (tickCount : Nat) : Record :=
  (({ r with counters := r.counters.abandoned m.reason }).endGrant m.slot tickCount).freeWhenDrained

/-- An abandon taken at its record (R123). -/
def State.takeAbandon (s : State) (m : AbandonMsg) : State :=
  { s with transit := { s.transit with abandons := s.transit.abandons.erase m } }.setRecord m.record
    ((s.record m.record).abandon m s.timebase.tickCount)

/-- ABANDON (R123). -/
def execAbandon (m : AbandonMsg) (s : State) : Result :=
  s.unlessResetting (if m ∈ s.transit.abandons then s.takes (s.takeAbandon m) else .next s)

/-! ### Evidence (section 4.5) -/

/-- The record takes evidence from a sender: it is an EGRESS record in STAGED, LIVE or HALTED that names the sender as
companion (R61). -/
def Record.takesEvidence (r : Record) (sender : Nat) : Bool :=
  r.config.kind == .egress && (r.state == .staged || r.state == .live || r.state == .halted)
    && r.config.companion == some sender

/-- An evidence arrival at the record: the flag is set, and in LIVE and AWAIT_EVIDENCE a switch is called for (R61, R63). -/
def Record.evidenceArrives (r : Record) (sender tickCount : Nat) : Record :=
  if r.takesEvidence sender then
    let flagged := { r with evidence := true }
    if r.state = .live ∧ r.stage = .awaitEvidence then flagged.egressSwitch tickCount else flagged
  else r

/-- An evidence arrival taken at its record (R61). -/
def State.takeEvidence (s : State) (sender receiver : Nat) : State :=
  { s with transit := { s.transit with evidence := s.transit.evidence.erase (sender, receiver) } }.setRecord receiver
    ((s.record receiver).evidenceArrives sender s.timebase.tickCount)

/-- EVIDENCE_ARRIVAL (R61). -/
def execEvidenceArrival (sender receiver : Nat) (s : State) : Result :=
  s.unlessResetting (if (sender, receiver) ∈ s.transit.evidence then s.takes (s.takeEvidence sender receiver)
    else .next s)

end Sys2Proof.Machine
end

