-- ==== Sys2Proof/Machine/Rollover.lean ====
section
/-!
DEFINITION. The rollover commands of chapter 4: Load Next Key, Roll Now and Force Switch, as the Association Manager takes
them.
-/

namespace Sys2Proof.Machine

/-! ### Load Next Key (sections 4.3 and 4.10) -/

/-- The slot that is not in the CURRENT position cannot take a key (R58 for EGRESS, R69 for INGRESS). -/
def Record.slotBusy (r : Record) : Bool :=
  let sl := r.otherPosition
  let damagedBusy := sl.role == .damaged && sl.inFlight != 0
  match r.config.kind, r.state with
  | .egress, _ => sl.role == .closing || sl.role == .next || damagedBusy
  | .ingress, .halted =>
    sl.role == .closing || sl.role == .next || damagedBusy || (sl.role == .old && sl.inFlight != 0)
  | .ingress, _ =>
    r.stage == .overlap || r.stage == .drainOld || (r.stage == .armed && (sl.role == .next || damagedBusy))

/-- The first check of R58 (R69) that fails, in its order. -/
def State.loadRefusal (s : State) (c : Command) : Option Status :=
  let r := s.record c.index
  if Config.records ≤ c.index then some .badIndex
  else if r.state = .free then some .notPresent
  else if r.state = .retiring then some .retiring
  else if r.state = .staged then some .badState
  else if r.slotBusy then some .slotBusy
  else if c.framing then some .badFraming
  else none

/-- The key written into the slot that is not in the CURRENT position, which becomes NEXT with the key number that follows
the one in the CURRENT position (R58, R69, R4). -/
def Record.withNext (r : Record) (key : BitVec 256) (salt : BitVec 48) : Record :=
  r.setSlot (!r.currentSlot) (Slot.written .next (r.currentPosition.keyNumber + 1) key salt)

/-- The effect of an accepted Load Next Key on an EGRESS record with its NEXT written: KEY_NEEDED is removed, and a LIVE
record's stage moves (R58, R59). -/
def Record.loadedEgress (r : Record) (tickCount : Nat) : Record :=
  let r := { r with causes := { r.causes with keyNeeded := false } }
  if r.state = .live then
    match r.stage with
    | .awaitKey => r.enterLead tickCount
    | .awaitEvidence => if r.evidence then r.egressSwitch tickCount else r
    | _ => r
  else r

/-- The record after an accepted Load Next Key (R58, R59, R69). -/
def Record.loadNext (r : Record) (key : BitVec 256) (salt : BitVec 48) (tickCount : Nat) : Record :=
  match r.config.kind with
  | .egress => (r.withNext key salt).loadedEgress tickCount
  | .ingress => (r.withNext key salt).enter .armed

/-- Load Next Key at the Association Manager (R58, R69). -/
def loadNextKeyOwner (c : Command) (s : State) : State × Reply :=
  match s.loadRefusal c with
  | some st => (s, status st)
  | none =>
    (s.setRecord c.index ((s.record c.index).loadNext (c.keyAt 1) (c.saltAt 9) s.timebase.tickCount), status .ok)

/-- LOAD_NEXT_KEY (R58, R59, R69). -/
def execLoadNextKey (s : State) : Result := s.serve .loadNextKey loadNextKeyOwner

/-! ### Roll Now (section 4.2) -/

/-- The first check of R57 that fails, in its order. -/
def State.rollRefusal (s : State) (c : Command) : Option Status :=
  let r := s.record c.index
  if Config.records ≤ c.index then some .badIndex
  else if r.state = .free then some .notPresent
  else if r.state = .retiring then some .retiring
  else if r.config.kind = .ingress then some .wrongKind
  else if r.state = .staged ∨ r.state = .halted then some .badState
  else if r.stage ≠ .steady then some .alreadyRolling
  else none

/-- Roll Now at the Association Manager (R57): a trigger in STEADY. -/
def rollNowOwner (c : Command) (s : State) : State × Reply :=
  match s.rollRefusal c with
  | some st => (s, status st)
  | none => (s.setRecord c.index ((s.record c.index).trigger s.timebase.tickCount), status .ok)

/-- ROLL_NOW (R57). -/
def execRollNow (s : State) : Result := s.serve .rollNow rollNowOwner

/-! ### Force Switch (sections 4.8 and 4.13) -/

/-- An INGRESS record may be switched by Force Switch: LIVE in ARMED, or HALTED, with a usable NEXT (R74). -/
def Record.ingressSwitchable (r : Record) : Bool :=
  r.usableNext && ((r.state == .live && r.stage == .armed) || r.state == .halted)

/-- The first check of R66 (R74) that fails, in its order. -/
def State.forceRefusal (s : State) (c : Command) : Option Status :=
  let r := s.record c.index
  if Config.records ≤ c.index then some .badIndex
  else if r.state = .free then some .notPresent
  else if r.state = .retiring then some .retiring
  else if r.state = .staged then some .badState
  else if (match r.config.kind with | .egress => r.usableNext | .ingress => r.ingressSwitchable) then none
  else some .noNextKey

/-- Force Switch at the Association Manager: the switch of R63 at an EGRESS record, answered NO_NEXT_KEY where its NEXT key
is found damaged (R64, R66); the switch of R70 at an INGRESS record, with capture 0 and evidence sent (R74). -/
def forceSwitchOwner (c : Command) (s : State) : State × Reply :=
  match s.forceRefusal c with
  | some st => (s, status st)
  | none =>
    let r := s.record c.index
    match r.config.kind with
    | .egress =>
      (s.setRecord c.index (r.egressSwitch s.timebase.tickCount),
        status (if r.otherPosition.keyPasses then .ok else .noNextKey))
    | .ingress =>
      ((s.setRecord c.index (r.ingressSwitch 0 s.timebase.tickCount)).sendEvidence c.index, status .ok)

/-- FORCE_SWITCH (R66, R74). -/
def execForceSwitch (s : State) : Result := s.serve .forceSwitch forceSwitchOwner

end Sys2Proof.Machine
end

