-- ==== Sys2Proof/Machine/Ticks.lean ====
section
/-!
DEFINITION. The ticks: one issued by the Timebase, and one taken at a record, with the four expiries and conditions that a
record's tick may bring (chapter 3, sections 4.4, 4.6 and 4.12).
-/

namespace Sys2Proof.Machine

/-! ### The Timebase (section 3.1) -/

/-- The end of a tick interval: the tick count gains 1 and wraps after 2^48−1, one tick is issued to the records, and the
next interval begins at the period of the present setting (R42, R43). -/
def Timebase.advance (t : Timebase) : Timebase :=
  { t with
    tickCount := (t.tickCount + 1) % 2 ^ 48
    intervalPrescaler := t.prescaler
    issued := t.issued + 1 }

/-- TICK (R42). -/
def execTick (s : State) : Result :=
  s.unlessResetting (s.takes { s with timebase := s.timebase.advance })

/-! ### Ticks at a record (section 3.2) -/

/-- How many of the issued ticks a record has taken (R45). -/
def AssociationManager.ticksTakenAt (m : AssociationManager) (i : Nat) : Nat := (m.ticksTaken.find i).getD 0

/-- A tick has been issued that a record of the table has not taken (R45: each tick reaches every record). -/
def State.tickDue (s : State) (i : Nat) : Bool :=
  decide (i < Config.records ∧ s.manager.ticksTakenAt i < s.timebase.issued)

/-- One more tick has been taken at a record (R45: a record takes each tick once). -/
def AssociationManager.countTick (m : AssociationManager) (i : Nat) : AssociationManager :=
  { m with ticksTaken := m.ticksTaken.insert i (m.ticksTakenAt i + 1) }

/-- A tick taken at a record (R45, R46). -/
def State.takeRecordTick (s : State) (i : Nat) : State :=
  { s with manager := s.manager.countTick i }.setRecord i ((s.record i).tick s.timebase.tickCount)

/-- A tick of a record that is due and that meets a condition on the record as it stands: it is taken as the record's tick is
(R46). Where it is not due, or does not meet the condition, the state stands (log entries 1 and 14). -/
def State.tickWhen (s : State) (i : Nat) (condition : Record → Bool) : Result :=
  s.unlessResetting (if s.tickDue i = true ∧ condition (s.record i) = true then s.takes (s.takeRecordTick i) else .next s)

/-- RECORD_TICK (R45, R46). -/
def execRecordTick (i : Nat) (s : State) : Result := s.tickWhen i (fun _ => true)

/-- The lifetime threshold acts at the record's next tick (R46 step 3, R52, R53). -/
def Record.thresholdAtTick (r : Record) : Bool := r.state == .live && r.advance.lifetimeActs

/-- LIFETIME_THRESHOLD (R52, R53): the tick at which the lifetime threshold acts (log entry 14). -/
def execLifetimeThreshold (i : Nat) (s : State) : Result := s.tickWhen i Record.thresholdAtTick

/-- The lead expires at the record's next tick (R46 step 4, R49, R60). -/
def Record.leadAtTick (r : Record) (tickCount : Nat) : Bool := r.state == .live && (r.tickThirdStep tickCount).leadMet

/-- LEAD_EXPIRY (R60): the tick at which the lead expires (log entry 14). -/
def execLeadExpiry (i : Nat) (s : State) : Result := s.tickWhen i (fun r => r.leadAtTick s.timebase.tickCount)

/-- The grace expires at the record's next tick: its comparison holds once a lead expiry at the same tick has been taken
(R46 step 4, R49, R60, R62). -/
def Record.graceAtTick (r : Record) (tickCount : Nat) : Bool :=
  r.state == .live && ((r.tickThirdStep tickCount).leadStep tickCount).graceMet

/-- GRACE_EXPIRY (R62): the tick at which the grace expires (log entry 14). -/
def execGraceExpiry (i : Nat) (s : State) : Result := s.tickWhen i (fun r => r.graceAtTick s.timebase.tickCount)

/-- The overlap expires at the record's next tick (R46 step 4, R49, R72). -/
def Record.overlapAtTick (r : Record) (tickCount : Nat) : Bool :=
  r.state == .live && (r.tickThirdStep tickCount).overlapMet

/-- OVERLAP_EXPIRY (R72): the tick at which the overlap expires (log entry 14). -/
def execOverlapExpiry (i : Nat) (s : State) : Result := s.tickWhen i (fun r => r.overlapAtTick s.timebase.tickCount)

end Sys2Proof.Machine
end

