-- ==== Sys2Proof/Machine/Dispatch.lean ====
section
/-!
DEFINITION. The dispatch: one arm for each command and event of spec/opcode_table.json, in the table's order.
-/

namespace Sys2Proof.Machine

def exec (i : Instr) (s : State) : Host.Outcome State Fault Refusal :=
  match i with
  | .installAssociation => Sys2Proof.Machine.execInstallAssociation s
  | .activateAssociation => Sys2Proof.Machine.execActivateAssociation s
  | .modifyAssociation => Sys2Proof.Machine.execModifyAssociation s
  | .retireAssociation => Sys2Proof.Machine.execRetireAssociation s
  | .readAssociation => Sys2Proof.Machine.execReadAssociation s
  | .clearCounters => Sys2Proof.Machine.execClearCounters s
  | .loadNextKey => Sys2Proof.Machine.execLoadNextKey s
  | .rollNow => Sys2Proof.Machine.execRollNow s
  | .forceSwitch => Sys2Proof.Machine.execForceSwitch s
  | .addFlow => Sys2Proof.Machine.execAddFlow s
  | .removeFlow => Sys2Proof.Machine.execRemoveFlow s
  | .readFlow => Sys2Proof.Machine.execReadFlow s
  | .setLaneMode => Sys2Proof.Machine.execSetLaneMode s
  | .configureLane => Sys2Proof.Machine.execConfigureLane s
  | .sampleLaneCounters => Sys2Proof.Machine.execSampleLaneCounters s
  | .restartLane => Sys2Proof.Machine.execRestartLane s
  | .walkTable => Sys2Proof.Machine.execWalkTable s
  | .takeAttention => Sys2Proof.Machine.execTakeAttention s
  | .configurePart => Sys2Proof.Machine.execConfigurePart s
  | .readPart => Sys2Proof.Machine.execReadPart s
  | .commandAnsweredByPort => Sys2Proof.Machine.execCommandAnsweredByPort s
  | .headerWrite word => Sys2Proof.Machine.execHeaderWrite word s
  | .bodyWrite word => Sys2Proof.Machine.execBodyWrite word s
  | .keyWrite word => Sys2Proof.Machine.execKeyWrite word s
  | .responseRead => Sys2Proof.Machine.execResponseRead s
  | .serviceStatusWrite word => Sys2Proof.Machine.execServiceStatusWrite word s
  | .serviceEnableWrite word => Sys2Proof.Machine.execServiceEnableWrite word s
  | .holdBitWrite hold => Sys2Proof.Machine.execHoldBitWrite hold s
  | .partReset hold => Sys2Proof.Machine.execPartReset hold s
  | .partResetEnd links => Sys2Proof.Machine.execPartResetEnd links s
  | .ignoredWrite offset word => Sys2Proof.Machine.execIgnoredWrite offset word s
  | .assemblyExpiry => Sys2Proof.Machine.execAssemblyExpiry s
  | .powerOnReset links => Sys2Proof.Machine.execPowerOnReset links s
  | .pcieFundamentalReset links => Sys2Proof.Machine.execPcieFundamentalReset links s
  | .tick => Sys2Proof.Machine.execTick s
  | .recordTick record => Sys2Proof.Machine.execRecordTick record s
  | .lifetimeThreshold record => Sys2Proof.Machine.execLifetimeThreshold record s
  | .leadExpiry record => Sys2Proof.Machine.execLeadExpiry record s
  | .graceExpiry record => Sys2Proof.Machine.execGraceExpiry record s
  | .overlapExpiry record => Sys2Proof.Machine.execOverlapExpiry record s
  | .evidenceArrival sender receiver => Sys2Proof.Machine.execEvidenceArrival sender receiver s
  | .allocationRequest lane => Sys2Proof.Machine.execAllocationRequest lane s
  | .release msg => Sys2Proof.Machine.execRelease msg s
  | .enqueue lane record => Sys2Proof.Machine.execEnqueue lane record s
  | .queuedFrameWithdrawal lane record => Sys2Proof.Machine.execQueuedFrameWithdrawal lane record s
  | .lookup lane store => Sys2Proof.Machine.execLookup lane store s
  | .commit lane store => Sys2Proof.Machine.execCommit lane store s
  | .abandon msg => Sys2Proof.Machine.execAbandon msg s
  | .cellClaim lane first octet => Sys2Proof.Machine.execCellClaim lane first octet s
  | .egressReceiveCompletion lane => Sys2Proof.Machine.execEgressReceiveCompletion lane s
  | .headTaken lane => Sys2Proof.Machine.execHeadTaken lane s
  | .allocationAnswer lane => Sys2Proof.Machine.execAllocationAnswer lane s
  | .transmissionBegin lane => Sys2Proof.Machine.execTransmissionBegin lane s
  | .transmissionCompletion lane => Sys2Proof.Machine.execTransmissionCompletion lane s
  | .linePauseIndication lane => Sys2Proof.Machine.execLinePauseIndication lane s
  | .linePauseExpiry lane => Sys2Proof.Machine.execLinePauseExpiry lane s
  | .refreshExpiry lane => Sys2Proof.Machine.execRefreshExpiry lane s
  | .pauseFrameSend lane => Sys2Proof.Machine.execPauseFrameSend lane s
  | .linkEvent lane side up arrived => Sys2Proof.Machine.execLinkEvent lane side up arrived s
  | .lineFrameStart lane => Sys2Proof.Machine.execLineFrameStart lane s
  | .loopHandoverStart lane => Sys2Proof.Machine.execLoopHandoverStart lane s
  | .ingressReceiveCompletion lane arrival => Sys2Proof.Machine.execIngressReceiveCompletion lane arrival s
  | .systemPauseIndication lane => Sys2Proof.Machine.execSystemPauseIndication lane s
  | .lookupAnswer lane store => Sys2Proof.Machine.execLookupAnswer lane store s
  | .verificationCompletion lane store => Sys2Proof.Machine.execVerificationCompletion lane store s
  | .commitAnswer lane store => Sys2Proof.Machine.execCommitAnswer lane store s
  | .deliveryStart lane => Sys2Proof.Machine.execDeliveryStart lane s
  | .deliveryCompletion lane => Sys2Proof.Machine.execDeliveryCompletion lane s
  | .systemPauseExpiry lane => Sys2Proof.Machine.execSystemPauseExpiry lane s

end Sys2Proof.Machine
end

