-- ==== Sys2Proof/Safety.lean ====
section
/-!
DEFINITION. What the statements about the part are said in: a command in its turn and its answer, and the invariants that every
step keeps.
-/

namespace Sys2Proof.Machine

/-! ### A command and its answer -/

/-- The Command Processor takes the command as its oldest closed one and hands it to the owner of a command name (R157). -/
abbrev State.offers (s : State) (c : Command) (name : CommandName) : Prop :=
  s.ready = some c ∧ c.handedAs name = true

/-- Two states are the same but for the number of service messages sent. -/
def State.sameButMessages (u t : State) : Prop := t = { u with pins := { u.pins with messagesSent := t.pins.messagesSent } }

/-- The turn of a command that makes the state `u` of `s` and replies `r` ends in `t`: the command's words have left the
Command FIFO, its response stands at the end of the Response FIFO, and everything else is as in `u` (R157). -/
def State.answered (s u : State) (c : Command) (r : Reply) (t : State) : Prop :=
  State.sameButMessages
    { u with port := { u.port with
        commands := s.port.commands.tail
        responses := s.port.responses ++ responseWords (headerTag c.header) r } } t

/-- A flow command of a name is at the Flow Map: it has just been taken and no enqueue is in transit, or its wait for the enqueues
sent before it arrived is over (R84). -/
def State.flowDue (s : State) (c : Command) (name : CommandName) : Prop :=
  (s.offers c name ∧ s.transit.enqueues = []) ∨
  (s.flowTurn = some (.waiting c []) ∧ c.handedAs name = true ∧ s.port.resetting = false)

/-- The turn of a flow command that makes the state `u` of `s` and replies `r` ends in `t`: the Flow Classifier holds it no more, its
words have left the Command FIFO, its response stands at the end of the Response FIFO, and everything else is as in `u` (R84,
R157). -/
def State.flowAnswered (s u : State) (c : Command) (r : Reply) (t : State) : Prop :=
  State.sameButMessages
    { u with
      flowTurn := none
      port := { u.port with
        commands := if s.flowTurn = none then s.port.commands.tail else s.port.commands
        responses := s.port.responses ++ responseWords (headerTag c.header) r } } t

/-- The record is STAGED, LIVE or HALTED. -/
def Record.inUse (r : Record) : Prop := r.state = .staged ∨ r.state = .live ∨ r.state = .halted

/-! ### The rollover rules at a LIVE EGRESS record -/

/-- A LIVE or HALTED EGRESS record after steps 2 to 6 of R63. -/
def Record.ruleSwitch (r : Record) (tickCount : Nat) : Record :=
  let k := r.currentSlot
  let old := r.slot k
  let new := r.slot (!k)
  { ((r.setSlot (!k) { new with role := .current, nextSequence := 1 }).setSlot k
      (if old.inFlight = 0 then Slot.erased else { old with role := .closing })) with
    currentSlot := !k, switchCapture := old.nextSequence - 1, switchTick := tickCount % 2 ^ 32, lifetimeCounter := 0
    octetRemainder := 0, stageTimer := 0, graceTimer := 0, triggerLatch := false, pendingTrigger := false, evidence := false
    switchCount := min 65535 (r.switchCount + 1), causes := { r.causes with switched := true }
    stage := if old.inFlight = 0 then .steady else .drainOld
    state := .live, haltReason := if r.state = .halted then .none else r.haltReason }

/-- A record at which a switch is called for: without a NEXT nothing happens; the NEXT's key is read, and either it passes and the
switch is made, or the slot is DAMAGED with cause KEY_FAULT (R63, R64). -/
def Record.ruleCall (r : Record) (tickCount : Nat) : Record :=
  let new := r.slot (!r.currentSlot)
  if new.role ≠ .next then r
  else if new.checkCode = Config.checkCode new.key new.salt then r.ruleSwitch tickCount
  else { (r.setSlot (!r.currentSlot) { new with role := .damaged }) with causes := { r.causes with keyFault := true } }

/-- A record in LEAD whose lead expires: a switch is called for in mode TIMED and where the evidence flag is set, and otherwise the
stage is AWAIT_EVIDENCE (R60). -/
def Record.ruleLead (r : Record) (tickCount : Nat) : Record :=
  if r.config.switchMode = .timed ∨ r.evidence = true then r.ruleCall tickCount
  else { r with stage := .awaitEvidence, stageTimer := 0 }

/-- A record at which a trigger arises, by its stage: in STEADY the latch is set and the stage is AWAIT_KEY with KEY_NEEDED without a
NEXT, and LEAD with one, where a lead of 0 expires at once; in DRAIN_OLD the trigger is pending; in any other nothing happens
(R55, R56, R59, R60). -/
def Record.ruleTrigger (r : Record) (tickCount : Nat) : Record :=
  match r.stage with
  | .steady =>
    let latched := { r with triggerLatch := true, graceTimer := 0, stageTimer := 0 }
    if (r.slot (!r.currentSlot)).role ≠ .next then
      { latched with stage := .awaitKey, causes := { r.causes with keyNeeded := true } }
    else if r.config.lead = 0 then { latched with stage := .lead }.ruleLead tickCount
    else { latched with stage := .lead }
  | .drainOld => { r with pendingTrigger := true }
  | _ => r

/-! ### The invariant of the stored forms and the capacities -/

/-- The Association Table, the Tag Index and the ticks taken are in their canonical form: keys strictly rising, no FREE
record listed and no index from 8,192 up (R2, R17, R45). -/
structure AssociationManager.Canonical (m : AssociationManager) : Prop where
  records : m.records.Sorted
  noFree : ∀ p ∈ m.records, p.2.state ≠ .free
  indices : ∀ p ∈ m.records, p.1 < Config.records
  tags : m.tagIndex.Sorted
  ticks : m.ticksTaken.Sorted

/-- The Flow Map holds at most 4,096 entries, and no two share a flow key (R80). -/
structure FlowMapOk (es : List FlowEntry) : Prop where
  keys : (es.map FlowEntry.key).Nodup
  size : es.length ≤ Config.flowEntries

/-- An Egress Engine's Holding Buffer holds at most one RECEIVING entry and at most 2,048 cells (R91). -/
structure EgressEngine.Ok (e : EgressEngine) : Prop where
  oneReceiving : (e.buffer.filter (fun x => x.status == .receiving)).length ≤ 1
  occupancy : e.occupancy ≤ Config.holdingCells

/-- A lane's settings: S in 64..9,216, L_m < H_m ≤ 2,048 and Q ≥ 1 (R132). -/
structure LaneConfig.Ok (g : LaneConfig) : Prop where
  minFrame : Config.frameMin ≤ g.maxFrame
  maxFrame : g.maxFrame ≤ Config.frameMax
  marks : g.lowMark < g.highMark
  high : g.highMark ≤ Config.holdingCells
  quanta : 1 ≤ g.quanta

/-- A lane: its settings, its two buffers within their capacities (R91, R110, R132). -/
structure Lane.Ok (v : Lane) : Prop where
  config : v.control.config.Ok
  egress : v.egress.Ok
  delivery : v.ingress.deliveryOccupancy ≤ Config.deliveryCells

/-- The Command Port: both FIFOs hold at most 256 words, and every command but the newest is closed (section 10.2, R157). -/
structure CommandPort.Ok (p : CommandPort) : Prop where
  commandWords : p.commandWords ≤ Config.fifoWords
  responseWords : p.responses.length ≤ Config.fifoWords
  olderClosed : ∀ c ∈ p.commands.dropLast, c.closed = true

/-- The Timebase: a 48-bit tick count, and prescalers in 0..7 (R42). -/
structure Timebase.Ok (t : Timebase) : Prop where
  tickCount : t.tickCount < 2 ^ 48
  prescaler : t.prescaler ≤ 7
  intervalPrescaler : t.intervalPrescaler ≤ 7

/-- At most one command is unanswered, at the Flow Classifier or as a Walk Table (R157); 64 words of the Response FIFO have stayed
free since it was taken (R157); and a walk's body, with its resume word, is within 63 words (R147). -/
structure State.TurnOk (s : State) : Prop where
  one : s.flowTurn = none ∨ s.manager.walk = none
  room : s.unanswered = true → s.port.responses.length + Config.responseRoom ≤ Config.fifoWords
  walk : ∀ x, s.manager.walk = some x → 1 + x.built.entries.length ≤ Config.walkBody

/-- The stored forms are canonical and every capacity of the part is kept. -/
structure State.Sound (s : State) : Prop where
  manager : s.manager.Canonical
  flows : FlowMapOk s.flowMap
  lanes : ∀ l, (s.lane l).Ok
  port : s.port.Ok
  turn : s.TurnOk
  timebase : s.timebase.Ok

/-! ### The invariant of the references -/

/-- The number of Flow Map entries whose action names a record. -/
def State.namingEntries (s : State) (i : Nat) : Nat := (s.flowMap.filter (fun e => e.action == .protect i)).length

/-- The number of EGRESS records in STAGED, LIVE or HALTED that name an index as companion. -/
def State.namingRecords (s : State) (i : Nat) : Nat :=
  (s.manager.records.filter (fun p => p.2.config.kind == .egress && p.2.config.companion == some i
    && (p.2.state == .staged || p.2.state == .live || p.2.state == .halted))).length

/-- The record whose reference release a flow command has still to send (R84, R87). -/
def State.releasingRecord (s : State) : Option Nat :=
  match s.flowTurn with
  | some (.releasing _ i _) => some i
  | _ => none

/-- The references of a record that are held outside it: the Flow Map entries that name it, and the one that a flow command has
still to release (R18, R84). -/
def State.heldReferences (s : State) (i : Nat) : Nat :=
  s.namingEntries i + (if s.releasingRecord = some i then 1 else 0)

/-- What names a record from outside it is what the record counts, and no reference dangles (R17, R18, R80, R84). -/
structure State.ReferencesExact (s : State) : Prop where
  /-- every record that the Flow Map names is an EGRESS record in STAGED, LIVE or HALTED -/
  named : ∀ e ∈ s.flowMap, ∀ i, e.action = .protect i → (s.record i).config.kind = .egress ∧ (s.record i).inUse
  /-- so is the record whose reference a flow command has still to release -/
  releasing : ∀ i, s.releasingRecord = some i → (s.record i).config.kind = .egress ∧ (s.record i).inUse
  /-- the flow references of every EGRESS record equal the number of entries that name it, and one more while a release is due -/
  flowCount : ∀ i, (s.record i).config.kind = .egress → (s.record i).flowReferences = s.heldReferences i
  /-- every companion named is an INGRESS record in STAGED, LIVE or HALTED -/
  companion : ∀ i j, (s.record i).config.companion = some j →
    (s.record i).config.kind = .egress ∧ (s.record i).inUse ∧ (s.record j).config.kind = .ingress ∧ (s.record j).inUse
  /-- the companion count of every INGRESS record equals the number of records that name it -/
  companionCount : ∀ i, (s.record i).config.kind = .ingress → (s.record i).companionCount = s.namingRecords i
  /-- a tag of the Tag Index leads to an INGRESS record in STAGED, LIVE or HALTED that carries it -/
  tagged : ∀ g i, s.manager.tagIndex.find g = some i →
    (s.record i).config.kind = .ingress ∧ (s.record i).inUse ∧ (s.record i).config.tag.toNat = g
  /-- every INGRESS record in STAGED, LIVE or HALTED is in the Tag Index -/
  indexed : ∀ i, (s.record i).config.kind = .ingress → (s.record i).inUse →
    s.manager.tagIndex.find (s.record i).config.tag.toNat = some i
  /-- the Tag Index holds at most 8,192 entries -/
  tagRoom : s.manager.tagIndex.length ≤ Config.records

/-! ### The invariant of the records: slots, stages and latches -/

/-- A key slot of a record of a kind: an ABSENT slot is erased, a CLOSING one holds frames in flight, a NEXT one has given and
accepted nothing, and at most 8 frames of an EGRESS slot and 16 of an INGRESS slot are in flight (R3, R4, R5, R19, R29, R58,
R122; log entry 43). -/
structure Slot.Ok (sl : Slot) (kind : Kind) : Prop where
  absent : sl.role = .absent → sl = Slot.erased
  closing : sl.role = .closing → 0 < sl.inFlight
  egress : kind = .egress → sl.role ≠ .old ∧ sl.highest = 0 ∧ sl.accepted = [] ∧
    1 ≤ sl.nextSequence ∧ sl.nextSequence ≤ 2 ^ 48 ∧ (sl.role = .next → sl.nextSequence = 1 ∧ sl.inFlight = 0) ∧
    sl.inFlight ≤ Config.egressInFlight
  ingress : kind = .ingress → sl.nextSequence = 1 ∧ (sl.role = .next → sl.highest = 0) ∧ sl.inFlight ≤ Config.ingressInFlight

/-- The stage, the trigger latch and the slot beside the CURRENT position of a LIVE or HALTED record stand together as the
tables of R54 and R68 give; in HALTED a key may have been loaded in AWAIT_KEY (R59). -/
def Record.stageOk (r : Record) : Prop :=
  let beside := r.otherPosition.role
  match r.config.kind, r.stage with
  | .egress, .steady => r.triggerLatch = false ∧ (beside = .absent ∨ beside = .next ∨ beside = .damaged)
  | .egress, .awaitKey =>
    r.triggerLatch = true ∧ (beside = .absent ∨ beside = .damaged ∨ (r.state = .halted ∧ beside = .next))
  | .egress, .lead | .egress, .awaitEvidence => r.triggerLatch = true ∧ (beside = .next ∨ beside = .damaged)
  | .egress, .drainOld => r.triggerLatch = false ∧ beside = .closing
  | .ingress, .steady => beside = .absent
  | .ingress, .armed => beside = .next ∨ beside = .damaged
  | .ingress, .overlap => beside = .old
  | .ingress, .drainOld => beside = .closing
  | _, _ => False

/-- The slots, the stage and the halt reason that a record has in its state (R2, R4, R6, R7, R29, R54, R56, R68). -/
def Record.stateOk (r : Record) : Prop :=
  match r.state with
  | .free => r = Record.free
  | .staged =>
    r.currentSlot = false ∧ r.slot0.role = .current ∧ r.slot0.nextSequence = 1 ∧ r.slot1.role = .absent ∧
      r.stage = .steady ∧ r.triggerLatch = false ∧ r.pendingTrigger = false ∧ r.haltReason = .none
  | .live =>
    r.currentPosition.role = .current ∧ r.haltReason = .none ∧ r.stageOk ∧
      (r.pendingTrigger = true → r.stage = .drainOld) ∧ r.currentPosition.nextSequence < 2 ^ 48
  | .halted =>
    r.stageOk ∧ ((r.haltReason = .keyFault ∧ r.currentPosition.role = .damaged) ∨
      (r.config.kind = .egress ∧ (r.haltReason = .graceExpired ∨ r.haltReason = .seqExhausted) ∧
        r.currentPosition.role = .current))
  | .retiring =>
    (r.slot0.role = .absent ∨ r.slot0.role = .closing) ∧ (r.slot1.role = .absent ∨ r.slot1.role = .closing) ∧
      r.stage = .steady ∧ r.triggerLatch = false ∧ r.pendingTrigger = false ∧ r.haltReason = .none

/-- A record's slots, stage, latch and halt reason stand together as the manual says, its keys carry the numbers that R4 gives,
and an INGRESS record has no trigger (R2, R55). -/
structure Record.Ok (r : Record) : Prop where
  slot0 : r.slot0.Ok r.config.kind
  slot1 : r.slot1.Ok r.config.kind
  state : r.stateOk
  /-- the trigger latch and the pending trigger are an EGRESS record's -/
  triggers : r.config.kind = .ingress → r.triggerLatch = false ∧ r.pendingTrigger = false
  /-- two slots that are not ABSENT carry different key numbers -/
  numbers : r.slot0.role ≠ .absent → r.slot1.role ≠ .absent → r.slot0.keyNumber ≠ r.slot1.keyNumber
  /-- a NEXT slot carries the number after that of the slot in the CURRENT position -/
  next : r.otherPosition.role = .next → r.otherPosition.keyNumber = r.currentPosition.keyNumber + 1

/-! ### The invariant of the frames that the engines hold for records -/

/-- The PROTECT frames of a lane that are classified to a record and whose end at it is still to come, and that are not yet
granted or refused: its QUEUED entries, its open allocation request and its withdrawals in transit (R19). -/
def State.queuedAt (s : State) (l : LaneId) (i : Nat) : Nat :=
  s.queuedEntries l i
    + (match (s.lane l).egress.answer, (s.lane l).egress.request with
       | none, some q => if q.record = i then 1 else 0
       | _, _ => 0)
    + s.transit.withdrawals.count (l, i)

/-- The egress grants of a slot that a lane's engine holds: its answer not yet taken, and its transmit stores (R19). -/
def EgressEngine.holds (e : EgressEngine) (i : Nat) (k : SlotNo) : Nat :=
  let one := fun (g : EgressGrant) => if g.record = i ∧ g.slot = k then 1 else 0
  let stored := fun (t : TransmitStore) => match t with
    | .held f | .sending f => (f.grant.map one).getD 0
    | .free | .reserved _ => 0
  (match e.answer with | some (.granted g) => one g | _ => 0) + stored e.store0 + stored e.store1

/-- The ingress grant that a frame store holds whose commit or abandon has not been sent and taken (R19, R129). -/
def FrameStore.openGrant (f : FrameStore) : Option IngressGrant :=
  match f.status with
  | .lookup _ _ (some (.granted g)) | .opening _ _ g | .committing _ _ g _ none => some g
  | _ => none

/-- The ingress grants of a slot that a lane's engine holds (R19). -/
def IngressEngine.holds (g : IngressEngine) (i : Nat) (k : SlotNo) : Nat :=
  (g.stores.toList.filter (fun x => match x.bind FrameStore.openGrant with
    | some h => h.record == i && h.slot == k
    | none => false)).length

/-- The egress frames that hold a grant under a slot, in all engines, and the releases in transit (R19). -/
def State.egressHeld (s : State) (i : Nat) (k : SlotNo) : Nat :=
  (s.lanes.toList.map (fun v => v.egress.holds i k)).sum
    + (s.transit.releases.filter (fun m => m.record == i && m.slot == k)).length

/-- The ingress frames that hold a grant under a slot, in all engines, and the abandons in transit (R19). -/
def State.ingressHeld (s : State) (i : Nat) (k : SlotNo) : Nat :=
  (s.lanes.toList.map (fun v => v.ingress.holds i k)).sum
    + (s.transit.abandons.filter (fun m => m.record == i && m.slot == k)).length

/-- An Egress Engine waits for the answer to a request exactly while one of its stores is RESERVED (R26, R97, R98). -/
def EgressEngine.requestOk (e : EgressEngine) : Prop :=
  (e.answer.isSome = true → e.request.isSome = true) ∧
  ((if e.store0.isReserved then 1 else 0) + (if e.store1.isReserved then 1 else 0) : Nat)
    = (if e.request.isSome then 1 else 0)

/-- What the records count is what the engines hold for them: queued frames, and each slot's frames in flight; and no frame is on
its way to a record that its classification no longer keeps in use (R19, R84, R129). -/
structure State.CountsExact (s : State) : Prop where
  requests : ∀ l, (s.lane l).egress.requestOk
  /-- the store of a line frame in reception is RECEIVING it -/
  receivers : ∀ l j, (s.lane l).ingress.receiver = .receiving (some j) → ∃ z,
    (s.lane l).ingress.store j = some ⟨.line, z, .receiving⟩
  /-- queued frames, with the enqueues still in transit, are the frames that wait -/
  queued : ∀ i, (s.record i).queuedFrames + ((List.finRange 4).map (fun l => s.transit.enqueues.count (l, i))).sum
    = ((List.finRange 4).map (fun l => s.queuedAt l i)).sum
  /-- an enqueue in transit is that of a frame that waits -/
  enqueues : ∀ l i, s.transit.enqueues.count (l, i) ≤ s.queuedAt l i
  /-- an enqueue in transit goes to a record that an entry names, or whose reference release waits for it -/
  kept : ∀ l i, (l, i) ∈ s.transit.enqueues → s.namingEntries i = 0 → ∃ c awaited,
    s.flowTurn = some (.releasing c i awaited) ∧ s.transit.enqueues.count (l, i) ≤ awaited.count (l, i)
  /-- a record counts at most 8,192 queued frames (R2; log entry 43) -/
  queuedRoom : ∀ i, (s.record i).queuedFrames ≤ Config.queuedMax
  /-- only EGRESS records have frames that wait -/
  waiting : ∀ i, (s.record i).config.kind = .ingress → (s.record i).queuedFrames = 0
  /-- an EGRESS record's slots count the egress grants -/
  egress : ∀ i k, (s.record i).config.kind = .egress →
    ((s.record i).slot k).inFlight = s.egressHeld i k ∧ s.ingressHeld i k = 0
  /-- an INGRESS record's slots count the ingress grants -/
  ingress : ∀ i k, (s.record i).config.kind = .ingress →
    ((s.record i).slot k).inFlight = s.ingressHeld i k ∧ s.egressHeld i k = 0

/-! ### Replay windows -/

/-- A slot's window under a window size W: H 0 with an empty accepted set, or an accepted set in rising order that lies within
max(1, H−W)..H and contains H (R119). -/
def Slot.windowOk (sl : Slot) (window : Nat) : Prop :=
  sl.accepted.Pairwise (· < ·) ∧
  (sl.highest = 0 → sl.accepted = []) ∧
  (0 < sl.highest → sl.highest ∈ sl.accepted ∧
    ∀ x ∈ sl.accepted, max 1 (sl.highest - window) ≤ x ∧ x ≤ sl.highest)

/-- The window of one of a record's slots is as R119 says, under the record's own window size. -/
def Record.windowOk (r : Record) (k : SlotNo) : Prop := (r.slot k).windowOk r.config.window

/-- Of sequence numbers that are judged under a slot one after another, those that are accepted, in order (R119, R122). -/
def Slot.acceptedOf (sl : Slot) (window : Nat) : List Nat → List Nat
  | [] => []
  | s :: rest =>
    match judge sl.highest sl.accepted window s with
    | .accept => s :: (sl.accept window s).acceptedOf window rest
    | .replay | .late => sl.acceptedOf window rest

/-! ### Walks -/

/-- Where a walk stands after a number of failing indices from an index on; none where one of them passes, or the table ends among
them (R147). -/
def walkSkip (next : Nat → Option Nat) (passes : Nat → Bool) : Nat → Option Nat → Option (Option Nat)
  | 0, at_ => some at_
  | _ + 1, none => none
  | n + 1, some i => if passes i then none else walkSkip next passes n (next i)

/-- Three words are the summary of a record at an index; the kind bit of a FREE record has no meaning (R146, section 11.4). -/
def isSummary (i : Nat) (r : Record) (first second third : Word) : Bool :=
  decide (bits first 31 30 = 1 ∧ bits first 29 20 = 0 ∧ bits first 15 0 = i ∧ bits first 19 17 = r.state.code ∧
    (r.state ≠ .free → bits first 16 16 = r.config.kind.code) ∧
    second.toNat = r.config.tag.toNat + 2 ^ 24 * r.stage.code ∧ third.toNat = r.causes.code)

/-- Where the entries of a walk lead from an index on, and how many summaries they hold. A gap word (bits 31:30 = 2, run length r in
6:0) stands for r + 1 failing indices, and for fewer than 128 only at the end of the table or before a passing index; a summary's
three words stand for one passing index with its record as it is; none where the entries are not of this form (R146, R147). -/
def walked (next : Nat → Option Nat) (passes : Nat → Bool) (record : Nat → Record) :
    Option Nat → List Word → Option (Option Nat × Nat)
  | at_, [] => some (at_, 0)
  | none, _ :: _ => none
  | some i, w :: rest =>
    if bits w 31 30 = 2 ∧ bits w 29 7 = 0 then
      match walkSkip next passes (bits w 6 0 + 1) (some i) with
      | none => none
      | some at_ =>
        if bits w 6 0 = 127 ∨ at_.all passes then walked next passes record at_ rest else none
    else if passes i then
      match rest with
      | second :: third :: rest' =>
        if isSummary i (record i) w second third then
          (walked next passes record (next i) rest').map (fun p => (p.1, p.2 + 1))
        else none
      | _ => none
    else none

end Sys2Proof.Machine
end

