-- ==== Sys2Proof/Certificates/Slice0/Obligations.lean ====
section
/-!
DEFINITION. The statements about the part, in the order of OBLIGATIONS.json. Each speaks of one step of the part: the command or
event, the conditions under which it acts, and the whole state it leaves. `State.answered` says that a command's words have
left the Command FIFO and its response has been posted, and that everything else is as in the state it names.
-/

open Sys2Proof Sys2Proof.Machine

/-! ### The queue and the part as a whole -/

/-- One step takes the command at the front of the queue, with the queue's rest. -/
def Obligations.StepTakesFront : Prop :=
  ∀ (s : State) (c : Instr) (rest : List Instr), s.pending = c :: rest → step s = exec c { s with pending := rest }

/-- No command or event stops the part: each answers a next state in every state. On an empty queue one pause quantum passes:
running pause timers count down, refresh timers count up to 65,535, and nothing else changes. The quantum on an empty queue is the
model's own choice (log entry 9). -/
def Obligations.NothingStopsAndIdleIsOneQuantum : Prop :=
  (∀ (c : Instr) (s : State), ∃ t, exec c s = .next t) ∧
  ∀ s : State, s.pending = [] → ∃ t, step s = .next t ∧ t = { s with lanes := t.lanes } ∧
    ∀ l, t.lane l = { s.lane l with
      egress := { (s.lane l).egress with
        linePause := (s.lane l).egress.linePause.map (fun q => q - 1)
        refresh := (s.lane l).egress.refresh.map (fun q => min 65535 (q + 1)) }
      ingress := { (s.lane l).ingress with systemPause := (s.lane l).ingress.systemPause.map (fun q => q - 1) } }

/-- The part right after reset: every record FREE with every field at its FREE value, both slots of it erased; every buffer, FIFO,
index and message list empty, no command in its turn, and every setting, counter, timer and mark of every lane at its reset value.
The values that a FREE record's and an erased slot's unused fields hold are the model's choice (log entry 18), and so are the link
states (log entry 6), the message-signalling input (log entry 7), the count of free values drawn (log entry 5), the form of the
ticks in transit (log entry 20), the record of the outputs, which are the messages sent, the word read and the last frames sent (log
entry 21), the queue of commands (log entry 22) and the pace of walks (log entry 36). -/
def Obligations.ResetState : Prop :=
  let s := State.reset
  let empty : Slot := {
    role := .absent, keyNumber := 0, key := 0, salt := 0, checkCode := 0, inFlight := 0, nextSequence := 1, highest := 0
    accepted := [] }
  let zeroes : LaneCounters := { outbound := Vector.replicate 16 0, inbound := Vector.replicate 20 0 }
  (∀ i, s.record i = {
    config := {
      kind := .egress, laneMask := 0, tag := 0, confidential := false, companion := none, window := 0, switchMode := .timed
      lead := 0, grace := 0, overlap := 0, lifetimeSource := .age, lifetimeValue := 0, softThreshold := 0 }
    state := .free, companionCount := 0, flowReferences := 0, queuedFrames := 0, lifetimeCounter := 0, octetRemainder := 0
    stage := .steady, stageTimer := 0, graceTimer := 0, triggerLatch := false, pendingTrigger := false, evidence := false
    switchCapture := 0, switchTick := 0, switchCount := 0, haltReason := .none, causes := ⟨false, false, false, false, false⟩
    staleMark := false, currentSlot := false, slot0 := empty, slot1 := empty, counters := ⟨0, 0, 0, 0, 0, 0, 0, 0, 0⟩ }) ∧
  s.manager.tagIndex = [] ∧ s.manager.attentionSet = [] ∧ s.manager.walkCursor = some 0 ∧ s.manager.walk = none ∧
  s.manager.ticksTaken = [] ∧ s.flowMap = [] ∧ s.flowTurn = none ∧
  (∀ l, s.lane l = {
    control := {
      mode := .off, systemUp := false, lineUp := false, config := ⟨1522, .discard, .dropClear, 1536, 1024, 65535⟩
      counters := zeroes, sampleCounters := zeroes, sampleTick := 0 }
    egress := {
      buffer := [], store0 := .free, store1 := .free, youngest := false, request := none, answer := none, linePause := none
      asserted := false, refresh := none, waitingPause := none, indications := [] }
    ingress := {
      stores := Vector.replicate 4 none, ages := [], receiver := .idle, delivery := [], sending := false, systemPause := none
      indications := [] }
    lastLineFrame := none, lastSystemFrame := none }) ∧
  s.timebase = ⟨0, 0, 0, 0⟩ ∧
  s.port = {
    commands := [], responses := [], laneFlag := false, portFault := false, enables := ⟨false, false, false, false, false⟩
    hold := false, envelopeType := 0x88B6, responseThreshold := 1, spaceThreshold := 64, resetting := false } ∧
  s.serviceFlags = ⟨false, true, false, false, false⟩ ∧ s.transit = ⟨[], [], [], [], []⟩ ∧
  s.pins = ⟨true, 0, 0⟩ ∧ s.freeDraws = 0 ∧ s.walkPace = 1 ∧ s.pending = []

/-- The state after reset meets the invariants of every step: the stored forms and capacities, the references, the records' slots
and stages, and the counts of the frames held. -/
def Obligations.ResetMeetsInvariant : Prop :=
  State.reset.Sound ∧ State.reset.ReferencesExact ∧ (∀ i, (State.reset.record i).Ok) ∧ State.reset.CountsExact ∧
    ∀ i k, (State.reset.record i).windowOk k

/-- Every step keeps the stored forms canonical and every capacity: sorted tables with no FREE record and no index from 8,192 up
listed, a Flow Map of at most 4,096 entries with distinct keys, Holding Buffers within 2,048 cells and Delivery Buffers within
512, both FIFOs within 256 words, at most one command unanswered with room for its response, a walk's body within 63 words, lane
settings in range, a 48-bit tick count and a prescaler in 0..7. The Tag Index's 8,192
entries are kept with the references, in StepKeepsReferences. -/
def Obligations.StepKeepsCapacities : Prop := ∀ s t : State, s.Sound → step s = .next t → t.Sound

/-- Every step keeps the references exact: what the Flow Map, the companions and the Tag Index name is present, of the right
kind, and counted, with the reference that a flow command has still to release; and the Tag Index holds at most 8,192
entries. -/
def Obligations.StepKeepsReferences : Prop :=
  ∀ s t : State, s.Sound → s.ReferencesExact → step s = .next t → t.ReferencesExact

/-- Every step keeps each slot's replay window: A is empty when H is 0, and otherwise lies within max(1, H−W)..H and contains
H. -/
def Obligations.StepKeepsReplayWindows : Prop :=
  ∀ s t : State, (∀ i k, (s.record i).windowOk k) → step s = .next t → ∀ i k, (t.record i).windowOk k

/-- Within a slot the next sequence number never falls: at each step it stands, or gains 1 under the CURRENT key, unless the slot is
erased, or a key is written into a slot that holds no usable key, which begins at 1 with no frame in flight. And every step keeps
each record's slot roles, stage, latch, halt reason and key numbers together, and each record's counts equal to the frames that the
engines hold for it, with at most 8 in flight under an egress slot, 16 under an ingress slot and 8,192 queued at a record; that
messages whose effect would pass a bound wait is deduced (log entry 43). That an erased slot holds the values written here is the
model's choice (log entry 18). -/
def Obligations.NextSequenceNeverFalls : Prop :=
  ∀ s t : State, s.Sound → s.ReferencesExact → (∀ i, (s.record i).Ok) → s.CountsExact → step s = .next t →
    (∀ i, (t.record i).Ok) ∧ t.CountsExact ∧
    ∀ (i : Nat) (k : SlotNo),
      let a := (s.record i).slot k
      let b := (t.record i).slot k
      (b.key = a.key ∧ b.salt = a.salt ∧
        (b.nextSequence = a.nextSequence ∨ (a.role = .current ∧ b.nextSequence = a.nextSequence + 1))) ∨
      b = { role := .absent, keyNumber := 0, key := 0, salt := 0, checkCode := 0, inFlight := 0, nextSequence := 1
            highest := 0, accepted := [] } ∨
      ((a.role = .absent ∨ a.role = .damaged ∨ a.role = .old) ∧ b.nextSequence = 1 ∧ b.inFlight = 0 ∧
        b.checkCode = Config.checkCode b.key b.salt)

/-- Whatever sequence numbers arrive under a slot, in whatever order, none is accepted twice. -/
def Obligations.NoNumberIsAcceptedTwice : Prop :=
  ∀ (window : Nat) (sl : Slot) (arriving : List Nat), sl.windowOk window → (sl.acceptedOf window arriving).Nodup

/-- A frame that is sealed under a grant and opened under the same key and salt is the frame it was: its envelope parses to the
grant's fields, its check tag verifies, and the stripped frame is the original. The cipher's structure is presumed (log entry
4). -/
def Obligations.SealedFrameOpens : Prop :=
  ∀ (envelopeType : BitVec 16) (g : EgressGrant) (f : Frame),
    64 ≤ f.length → fcsMatches f = true → 1 ≤ g.sequence → g.sequence < 2 ^ 48 → envelopeType ≠ 0x8100 →
    let out := sealFrame envelopeType g f
    out.length = f.length + 28 ∧ fcsMatches out = true ∧ enveloped envelopeType out = true ∧
    parseEnvelope out = .ok g.fields ∧ deliveredCount out = protectedCount f ∧
    ∃ plaintext, openFrame g.key g.salt g.fields out = some plaintext ∧ stripFrame out plaintext = f

/-! ### Resets -/

/-- Power-on reset and PCIe fundamental reset bring every block to its reset state, with the link states found at the reset's
end; what waits outside the part and the message-signalling input are kept. That the count of messages sent, the commands waiting
and the pace of walks are kept is the model's choice (log entries 21, 22 and 36). -/
def Obligations.FullResets : Prop :=
  ∀ (s : State) (links : LinkStates) (c : Instr), c = .powerOnReset links ∨ c = .pcieFundamentalReset links →
    ∃ t, exec c s = .next t ∧ t.manager = State.reset.manager ∧ t.flowMap = State.reset.flowMap ∧ t.flowTurn = none ∧
      t.timebase = State.reset.timebase ∧ t.port = State.reset.port ∧ t.transit = State.reset.transit ∧
      (∀ l, t.lane l = { State.reset.lane l with control := { (State.reset.lane l).control with
        systemUp := links.system.getLsbD l.val, lineUp := links.line.getLsbD l.val } }) ∧
      t.pins = { State.reset.pins with
        messageSignalling := s.pins.messageSignalling, messagesSent := s.pins.messagesSent } ∧
      t.pending = s.pending ∧ t.walkPace = s.walkPace

/-- A Part Reset: its CONTROL write clears every block and closes the window, whatever hold bit it carries; while it lasts, writes to
every place are dropped without setting any flag, and reads return 0; its end opens the window and takes up the link states, and
changes nothing else. The message-signalling input is kept. That the commands waiting outside the part, the count of messages sent and
the pace of walks are kept is the model's choice (log entries 22, 21 and 36). -/
def Obligations.PartReset : Prop :=
  ∀ (s : State) (hold : Bool) (links : LinkStates) (w : Word),
    (s.port.resetting = false → ∃ t, exec (.partReset hold) s = .next t ∧ t.manager = State.reset.manager ∧
      t.flowMap = State.reset.flowMap ∧ t.flowTurn = none ∧ t.timebase = State.reset.timebase ∧
      t.transit = State.reset.transit ∧ t.port = { State.reset.port with resetting := true } ∧
      (∀ l, (t.lane l).egress = (State.reset.lane l).egress ∧ (t.lane l).ingress = (State.reset.lane l).ingress ∧
        (t.lane l).control.mode = .off ∧ (t.lane l).control.config = (State.reset.lane l).control.config ∧
        (t.lane l).control.counters = (State.reset.lane l).control.counters ∧
        (t.lane l).control.sampleCounters = (State.reset.lane l).control.sampleCounters ∧
        (t.lane l).control.sampleTick = 0) ∧
      t.pins.messageSignalling = s.pins.messageSignalling ∧ t.pins.messagesSent = s.pins.messagesSent ∧
      t.pending = s.pending ∧ t.walkPace = s.walkPace) ∧
    (s.port.resetting = true →
      exec (.headerWrite w) s = .next s ∧ exec (.bodyWrite w) s = .next s ∧ exec (.keyWrite w) s = .next s ∧
      exec (.serviceStatusWrite w) s = .next s ∧ exec (.serviceEnableWrite w) s = .next s ∧
      exec (.holdBitWrite hold) s = .next s ∧ exec (.partReset hold) s = .next s ∧
      exec .responseRead s = .next { s with pins := { s.pins with readData := 0 } } ∧
      ∀ offset, s.windowRead offset = 0) ∧
    (s.port.resetting = true → ∃ t, exec (.partResetEnd links) s = .next t ∧
      t = { s with lanes := t.lanes, port := { s.port with resetting := false } } ∧
      ∀ l, t.lane l = { s.lane l with control := { (s.lane l).control with
        systemUp := links.system.getLsbD l.val, lineUp := links.line.getLsbD l.val } })

/-! ### Record commands (chapter 1) -/

/-- Install Association refused: the first failing check of section 1.4 gives the status, and nothing changes. That the companion
index of an EGRESS Install whose companion present bit is clear is not checked is the model's choice (log entry 35). -/
def Obligations.InstallRefusedInOrder : Prop :=
  ∀ (s : State) (c : Command) (st : Status), s.offers c .installAssociation →
    let ingress := flag (c.word 0) 16
    let named := flag (c.word 0) 26
    let companion := bits (c.word 2) 15 0
    (if 8192 ≤ bits (c.word 0) 15 0 then some .badIndex
     else if (s.record (bits (c.word 0) 15 0)).state ≠ .free then some .occupied
     else if bits (c.word 0) 23 20 = 0 ∨ (ingress = true ∧ named = true) ∨ (named = true ∧ 8192 ≤ companion)
         ∨ (ingress = false ∧ flag (c.word 0) 28 = false ∧ c.word 7 = 0 ∧ bits (c.word 8) 15 0 = 0) then some .badValue
     else if named = true ∧ (s.record companion).state ≠ .free ∧ (s.record companion).config.kind = .egress then
       some .wrongKind
     else if named = true ∧ ((s.record companion).state = .free ∨ (s.record companion).state = .retiring) then
       some .notPresent
     else if ingress = true ∧ (s.manager.tagIndex.find (bits (c.word 1) 23 0)).isSome = true then some .tagInUse
     else if c.framing = true then some .badFraming
     else none : Option Status) = some st →
    ∃ t, exec .installAssociation s = .next t ∧ s.answered s c { status := st } t

/-- Install Association of an EGRESS record: every field as the command gives it, clamped, every running field at its "At
Install" value, the first key in slot 0 with a fresh check code, and the companion's count raised. That the companion index is not
looked at where the companion present bit is clear is the model's choice (log entry 35). -/
def Obligations.InstallEgressRecord : Prop :=
  ∀ (s : State) (c : Command), s.offers c .installAssociation → flag (c.word 0) 16 = false →
    bits (c.word 0) 15 0 < 8192 → (s.record (bits (c.word 0) 15 0)).state = .free → c.framing = false →
    bits (c.word 0) 23 20 ≠ 0 →
    (flag (c.word 0) 28 = true ∨ c.word 7 ≠ 0 ∨ bits (c.word 8) 15 0 ≠ 0) →
    (flag (c.word 0) 26 = true → bits (c.word 2) 15 0 < 8192 ∧
      (s.record (bits (c.word 2) 15 0)).config.kind = .ingress ∧ (s.record (bits (c.word 2) 15 0)).inUse) →
    let i := bits (c.word 0) 15 0
    let companion := bits (c.word 2) 15 0
    let clamped : Bool := decide (1048575 < (c.word 3).toNat ∨ 1048575 < (c.word 4).toNat)
    let placed := s.setRecord i
      { config := {
          kind := .egress
          laneMask := BitVec.ofNat 4 (bits (c.word 0) 23 20)
          tag := BitVec.ofNat 24 (bits (c.word 1) 23 0)
          confidential := flag (c.word 0) 17
          companion := if flag (c.word 0) 26 then some companion else none
          switchMode := if flag (c.word 0) 18 then .evidence else .timed
          lead := min 1048575 (c.word 3).toNat
          grace := min 1048575 (c.word 4).toNat
          lifetimeSource := if flag (c.word 0) 19 then .octets else .age
          lifetimeValue := (c.word 6).toNat
          softThreshold := if flag (c.word 0) 28 then 2 ^ 47 else bits (c.word 8) 15 0 * 2 ^ 32 + (c.word 7).toNat }
        state := .staged
        stage := .steady
        currentSlot := false
        slot0 := {
          role := .current
          keyNumber := BitVec.ofNat 2 (bits (c.word 0) 25 24)
          key := c.keyAt 9
          salt := c.saltAt 17
          checkCode := Config.checkCode (c.keyAt 9) (c.saltAt 17)
          nextSequence := 1 } }
    ∃ t, exec .installAssociation s = .next t ∧
      s.answered
        (if flag (c.word 0) 26 then
          placed.setRecord companion
            { s.record companion with companionCount := (s.record companion).companionCount + 1 }
         else placed)
        c { status := if clamped then .clamped else .ok } t

/-- Install Association of an INGRESS record: every field as the command gives it, clamped, the first key in slot 0, and the tag
in the Tag Index. -/
def Obligations.InstallIngressRecord : Prop :=
  ∀ (s : State) (c : Command), s.offers c .installAssociation → flag (c.word 0) 16 = true →
    bits (c.word 0) 15 0 < 8192 → (s.record (bits (c.word 0) 15 0)).state = .free → c.framing = false →
    bits (c.word 0) 23 20 ≠ 0 → flag (c.word 0) 26 = false →
    s.manager.tagIndex.find (bits (c.word 1) 23 0) = none →
    let i := bits (c.word 0) 15 0
    let clamped : Bool := decide ((flag (c.word 0) 27 = false ∧ 255 < bits (c.word 2) 31 16)
      ∨ 1048575 < (c.word 5).toNat)
    let placed := s.setRecord i
      { config := {
          kind := .ingress
          laneMask := BitVec.ofNat 4 (bits (c.word 0) 23 20)
          tag := BitVec.ofNat 24 (bits (c.word 1) 23 0)
          confidential := flag (c.word 0) 17
          window := if flag (c.word 0) 27 then 63 else min 255 (bits (c.word 2) 31 16)
          overlap := min 1048575 (c.word 5).toNat
          lifetimeSource := if flag (c.word 0) 19 then .octets else .age
          lifetimeValue := (c.word 6).toNat }
        state := .staged
        stage := .steady
        currentSlot := false
        slot0 := {
          role := .current
          keyNumber := BitVec.ofNat 2 (bits (c.word 0) 25 24)
          key := c.keyAt 9
          salt := c.saltAt 17
          checkCode := Config.checkCode (c.keyAt 9) (c.saltAt 17)
          highest := 0
          accepted := [] } }
    ∃ t, exec .installAssociation s = .next t ∧
      s.answered
        { placed with manager := { placed.manager with
            tagIndex := placed.manager.tagIndex.insert (bits (c.word 1) 23 0) i } }
        c { status := if clamped then .clamped else .ok } t

/-- Activate Association and Clear Counters, whole: their checks in order, the move from STAGED to LIVE in STEADY with both
timers at 0, and the record counters at 0 with every other field as it was. -/
def Obligations.ActivateAndClearCounters : Prop :=
  ∀ (s : State) (c : Command),
    let i := bits (c.word 0) 15 0
    let r := s.record i
    (s.offers c .activateAssociation → ∃ t, exec .activateAssociation s = .next t ∧
      (if 8192 ≤ i then s.answered s c { status := .badIndex } t
       else if r.state = .free then s.answered s c { status := .notPresent } t
       else if r.state ≠ .staged then s.answered s c { status := .badState } t
       else s.answered (s.setRecord i { r with state := .live, stage := .steady, stageTimer := 0, graceTimer := 0 }) c
         { status := .ok } t)) ∧
    (s.offers c .clearCounters → ∃ t, exec .clearCounters s = .next t ∧
      (if 8192 ≤ i then s.answered s c { status := .badIndex } t
       else if r.state = .free then s.answered s c { status := .notPresent } t
       else s.answered (s.setRecord i { r with counters := ⟨0, 0, 0, 0, 0, 0, 0, 0, 0⟩ }) c { status := .ok } t))

/-- Modify Association at an EGRESS record, whole, but for the companion's count: the first check of R11 that fails gives the status
at any record, and nothing changes; otherwise each selected field takes its new value, clamped, a changed lifetime source zeroes
the counter and the remainder, a selected companion clears the evidence flag, and at a LIVE record whose latch is clear one trigger
fires where a selected lifetime value is at or below the counter, or a selected T is at or below the last number assigned. A
companion index is judged where companion present is set, and ignored otherwise, the model's choice (log entry 35), and so is that the
evidence flag is cleared before the trigger is taken (log entry 39). That T is ignored for an INGRESS record is deduced (log entry
10). -/
def Obligations.ModifyStoresEgressFields : Prop :=
  ∀ (s : State) (c : Command), s.offers c .modifyAssociation →
    let i := bits (c.word 0) 15 0
    let r := s.record i
    let g := r.config
    let picks := fun k => flag (c.word 0) k
    let named := picks 18 && flag (c.word 1) 7
    let new := bits (c.word 2) 15 0
    let threshold := if picks 28 then 2 ^ 47 else bits (c.word 8) 15 0 * 2 ^ 32 + (c.word 7).toNat
    let source : LifetimeSource := if picks 24 then (if flag (c.word 1) 6 then .octets else .age) else g.lifetimeSource
    let clamped : Bool := (picks 21 && decide (1048575 < (c.word 3).toNat))
      || (picks 22 && decide (1048575 < (c.word 4).toNat))
    let refusal : Option Status :=
      if 8192 ≤ i then some .badIndex
      else if r.state = .free then some .notPresent
      else if r.state = .retiring then some .retiring
      else if (picks 16 = true ∧ bits (c.word 1) 3 0 = 0) ∨ (picks 18 = true ∧ g.kind = .ingress)
          ∨ (named = true ∧ 8192 ≤ new) ∨ (picks 26 = true ∧ g.kind = .egress ∧ threshold = 0) then some .badValue
      else if named = true ∧ (s.record new).state ≠ .free ∧ (s.record new).config.kind = .egress then some .wrongKind
      else if named = true ∧ ((s.record new).state = .free ∨ (s.record new).state = .retiring) then some .notPresent
      else none
    let stored := { r with
      config := { g with
        laneMask := if picks 16 then BitVec.ofNat 4 (bits (c.word 1) 3 0) else g.laneMask
        confidential := if picks 17 then flag (c.word 1) 4 else g.confidential
        companion := if picks 18 then (if flag (c.word 1) 7 then some new else none) else g.companion
        switchMode := if picks 20 then (if flag (c.word 1) 5 then .evidence else .timed) else g.switchMode
        lead := if picks 21 then min 1048575 (c.word 3).toNat else g.lead
        grace := if picks 22 then min 1048575 (c.word 4).toNat else g.grace
        lifetimeSource := source
        lifetimeValue := if picks 25 then (c.word 6).toNat else g.lifetimeValue
        softThreshold := if picks 26 then threshold else g.softThreshold }
      lifetimeCounter := if source = g.lifetimeSource then r.lifetimeCounter else 0
      octetRemainder := if source = g.lifetimeSource then r.octetRemainder else 0
      evidence := if picks 18 then false else r.evidence }
    let fires : Prop := r.state = .live ∧ r.triggerLatch = false ∧
      ((picks 25 = true ∧ (c.word 6).toNat ≠ 0 ∧ (c.word 6).toNat ≤ stored.lifetimeCounter) ∨
       (picks 26 = true ∧ threshold ≤ (r.slot r.currentSlot).nextSequence - 1))
    (∀ st, refusal = some st → ∃ t, exec .modifyAssociation s = .next t ∧ s.answered s c { status := st } t) ∧
    (refusal = none → g.kind = .egress →
      ∃ t, exec .modifyAssociation s = .next t ∧
        (fires → t.record i = stored.ruleTrigger s.timebase.tickCount) ∧ (¬ fires → t.record i = stored) ∧
        (picks 18 = false → s.answered (s.setRecord i (t.record i)) c { status := if clamped then .clamped else .ok } t) ∧
        t.port.responses = s.port.responses ++ responseWords (headerTag c.header)
          { status := if clamped then .clamped else .ok })

/-- Modify Association that selects a companion for an EGRESS record, with or without other fields: the previous companion loses 1
from its count and the new one gains 1, the same record both ways staying as it was; no other record, tag, flow, lane, tick or
message changes, and the evidence flag is cleared. ModifyStoresEgressFields says what the modified record holds. That the companion
index is ignored where companion present is clear is the model's choice (log entry 35). -/
def Obligations.ModifyMovesCompanion : Prop :=
  ∀ (s : State) (c : Command), s.offers c .modifyAssociation →
    let i := bits (c.word 0) 15 0
    let r := s.record i
    let new := bits (c.word 2) 15 0
    let named := flag (c.word 1) 7
    i < 8192 → r.inUse → r.config.kind = .egress → flag (c.word 0) 18 = true →
    (flag (c.word 0) 16 = true → bits (c.word 1) 3 0 ≠ 0) →
    (flag (c.word 0) 26 = true → flag (c.word 0) 28 = true ∨ c.word 7 ≠ 0 ∨ bits (c.word 8) 15 0 ≠ 0) →
    (named = true → new < 8192 ∧ (s.record new).config.kind = .ingress ∧ (s.record new).inUse) →
    s.ReferencesExact →
    ∃ t, exec .modifyAssociation s = .next t ∧
      (t.record i).config.companion = (if named then some new else none) ∧ (t.record i).evidence = false ∧
      (bits (c.word 0) 26 16 = 4 → t.record i = { r with
        config := { r.config with companion := if named then some new else none }, evidence := false }) ∧
      (∀ j, j ≠ i → t.record j = { s.record j with companionCount := (s.record j).companionCount
        - (if r.config.companion = some j then 1 else 0) + (if named = true ∧ j = new then 1 else 0) }) ∧
      t.manager.tagIndex = s.manager.tagIndex ∧ t.manager.walkCursor = s.manager.walkCursor ∧
      t.manager.ticksTaken = s.manager.ticksTaken ∧ t.flowMap = s.flowMap ∧ t.lanes = s.lanes ∧ t.timebase = s.timebase ∧
      t.transit = s.transit ∧
      ∃ st, (st = .ok ∨ st = .clamped) ∧
        t.port.responses = s.port.responses ++ responseWords (headerTag c.header) { status := st }

/-- Modify Association at an INGRESS record, whole but for the refusals, which ModifyStoresEgressFields states: each selected field
takes its new value, clamped; a lowered W removes every number below H − W from the accepted sets, and a raised one removes none; a
changed lifetime source zeroes the counter and the remainder; and at a LIVE record whose stale mark is clear a selected lifetime
value at or below the counter raises STALE_KEY. A selected T is ignored (deduced, log entry 10), and so is a field of an EGRESS
record. -/
def Obligations.ModifyTrimsWindows : Prop :=
  ∀ (s : State) (c : Command), s.offers c .modifyAssociation →
    let i := bits (c.word 0) 15 0
    let r := s.record i
    let g := r.config
    let picks := fun k => flag (c.word 0) k
    let w := if picks 19 then (if picks 27 then 63 else min 255 (bits (c.word 2) 31 16)) else g.window
    let source : LifetimeSource := if picks 24 then (if flag (c.word 1) 6 then .octets else .age) else g.lifetimeSource
    let trimmed := fun (sl : Slot) =>
      if w < g.window then { sl with accepted := sl.accepted.filter (fun x => decide (sl.highest - w ≤ x)) } else sl
    let stored := { r with
      config := { g with
        laneMask := if picks 16 then BitVec.ofNat 4 (bits (c.word 1) 3 0) else g.laneMask
        confidential := if picks 17 then flag (c.word 1) 4 else g.confidential
        window := w
        overlap := if picks 23 then min 1048575 (c.word 5).toNat else g.overlap
        lifetimeSource := source
        lifetimeValue := if picks 25 then (c.word 6).toNat else g.lifetimeValue }
      lifetimeCounter := if source = g.lifetimeSource then r.lifetimeCounter else 0
      octetRemainder := if source = g.lifetimeSource then r.octetRemainder else 0
      slot0 := trimmed r.slot0
      slot1 := trimmed r.slot1 }
    let stale : Prop := r.state = .live ∧ r.staleMark = false ∧ picks 25 = true ∧ (c.word 6).toNat ≠ 0 ∧
      (c.word 6).toNat ≤ stored.lifetimeCounter
    i < 8192 → r.inUse → g.kind = .ingress → (picks 16 = true → bits (c.word 1) 3 0 ≠ 0) → picks 18 = false →
    ∃ t, exec .modifyAssociation s = .next t ∧
      s.answered (s.setRecord i
          (if stale then { stored with staleMark := true, causes := { r.causes with staleKey := true } } else stored))
        c { status := if (picks 19 = true ∧ picks 27 = false ∧ 255 < bits (c.word 2) 31 16)
            ∨ (picks 23 = true ∧ 1048575 < (c.word 5).toNat) then .clamped else .ok } t

/-- Retire Association, whole: its checks in order; then the Tag Index entry or the companion link goes, every slot is closed, the
rollover fields are cleared, and the record is FREE where no frame is queued or in flight, and RETIRING otherwise. -/
def Obligations.RetireAssociation : Prop :=
  ∀ (s : State) (c : Command), s.offers c .retireAssociation →
    let i := bits (c.word 0) 15 0
    let r := s.record i
    let closed := fun (sl : Slot) => if sl.role = .absent then sl
      else if sl.inFlight = 0 then Slot.erased else { sl with role := .closing }
    let unlinked := match r.config.kind with
      | .ingress => { s with manager := { s.manager with tagIndex := s.manager.tagIndex.erase r.config.tag.toNat } }
      | .egress => match r.config.companion with
        | some j => s.setRecord j { s.record j with companionCount := (s.record j).companionCount - 1 }
        | none => s
    let left := { r with
      config := { r.config with companion := none }
      state := .retiring, slot0 := closed r.slot0, slot1 := closed r.slot1, stage := .steady, stageTimer := 0
      graceTimer := 0, triggerLatch := false, pendingTrigger := false, evidence := false, haltReason := .none }
    ∃ t, exec .retireAssociation s = .next t ∧
      (if 8192 ≤ i then s.answered s c { status := .badIndex } t
       else if r.state = .free then s.answered s c { status := .notPresent } t
       else if r.state = .retiring then s.answered s c { status := .retiring } t
       else if (r.config.kind = .egress ∧ r.flowReferences ≠ 0) ∨ (r.config.kind = .ingress ∧ r.companionCount ≠ 0) then
         s.answered s c { status := .inUse } t
       else if r.queuedFrames = 0 ∧ (closed r.slot0).inFlight = 0 ∧ (closed r.slot1).inFlight = 0 then
         s.answered (unlinked.setRecord i Record.free) c { status := .ok } t
       else s.answered (unlinked.setRecord i left) c { status := .draining } t)

/-! ### Rollover commands (chapter 4) -/

/-- Load Next Key at an EGRESS record, whole: its checks in order; then the key stands as NEXT in the slot that is not in the
CURRENT position and KEY_NEEDED is removed; a LIVE record in AWAIT_KEY enters LEAD, whose lead of 0 expires within the command: a
switch in mode TIMED or with the evidence flag set, and AWAIT_EVIDENCE otherwise; and a LIVE record in AWAIT_EVIDENCE with the flag
set makes the switch. -/
def Obligations.LoadNextKeyEgress : Prop :=
  ∀ (s : State) (c : Command), s.offers c .loadNextKey →
    let i := bits (c.word 0) 15 0
    let r := s.record i
    let other := r.slot (!r.currentSlot)
    let next : Slot := {
      role := .next, keyNumber := (r.slot r.currentSlot).keyNumber + 1, key := c.keyAt 1, salt := c.saltAt 9
      checkCode := Config.checkCode (c.keyAt 1) (c.saltAt 9), inFlight := 0, nextSequence := 1 }
    let loaded := { (r.setSlot (!r.currentSlot) next) with causes := { r.causes with keyNeeded := false } }
    r.config.kind = .egress →
    ∃ t, exec .loadNextKey s = .next t ∧
      (if 8192 ≤ i then s.answered s c { status := .badIndex } t
       else if r.state = .free then s.answered s c { status := .notPresent } t
       else if r.state = .retiring then s.answered s c { status := .retiring } t
       else if r.state = .staged then s.answered s c { status := .badState } t
       else if other.role = .closing ∨ other.role = .next ∨ (other.role = .damaged ∧ other.inFlight ≠ 0) then
         s.answered s c { status := .slotBusy } t
       else if c.framing = true then s.answered s c { status := .badFraming } t
       else if r.state = .live ∧ r.stage = .awaitKey ∧ r.config.lead ≠ 0 then
         s.answered (s.setRecord i { loaded with stage := .lead, stageTimer := 0 }) c { status := .ok } t
       else if r.state = .live ∧ r.stage = .awaitKey ∧ r.config.switchMode = .evidence ∧ r.evidence = false then
         s.answered (s.setRecord i { loaded with stage := .awaitEvidence, stageTimer := 0 }) c { status := .ok } t
       else if r.state = .live ∧ (r.stage = .awaitKey ∨ (r.stage = .awaitEvidence ∧ r.evidence = true)) then
         s.answered (s.setRecord i (loaded.ruleSwitch s.timebase.tickCount)) c { status := .ok } t
       else s.answered (s.setRecord i loaded) c { status := .ok } t)

/-- Load Next Key at an INGRESS record, whole: its checks in order; then the key stands as NEXT in the slot that is not in the
CURRENT position, with an empty window, and the stage is ARMED. -/
def Obligations.LoadNextKeyIngress : Prop :=
  ∀ (s : State) (c : Command), s.offers c .loadNextKey →
    let i := bits (c.word 0) 15 0
    let r := s.record i
    let other := r.slot (!r.currentSlot)
    let next : Slot := {
      role := .next, keyNumber := (r.slot r.currentSlot).keyNumber + 1, key := c.keyAt 1, salt := c.saltAt 9
      checkCode := Config.checkCode (c.keyAt 1) (c.saltAt 9), inFlight := 0, highest := 0, accepted := [] }
    i < 8192 → r.config.kind = .ingress →
    ∃ t, exec .loadNextKey s = .next t ∧
      (if r.state = .retiring then s.answered s c { status := .retiring } t
       else if r.state = .staged then s.answered s c { status := .badState } t
       else if r.state = .live ∧ (r.stage = .overlap ∨ r.stage = .drainOld
           ∨ (r.stage = .armed ∧ (other.role = .next ∨ (other.role = .damaged ∧ other.inFlight ≠ 0)))) then
         s.answered s c { status := .slotBusy } t
       else if r.state = .halted ∧ (other.role = .closing ∨ other.role = .next
           ∨ ((other.role = .old ∨ other.role = .damaged) ∧ other.inFlight ≠ 0)) then
         s.answered s c { status := .slotBusy } t
       else if r.state = .free then s.answered s c { status := .notPresent } t
       else if c.framing = true then s.answered s c { status := .badFraming } t
       else s.answered (s.setRecord i { (r.setSlot (!r.currentSlot) next) with stage := .armed, stageTimer := 0 }) c
         { status := .ok } t)

/-- Roll Now, whole: its checks in order; then a trigger in STEADY, which enters LEAD with a usable NEXT and AWAIT_KEY with
KEY_NEEDED without one; a lead of 0 expires within the command, as a lead expiry. -/
def Obligations.RollNowTriggers : Prop :=
  ∀ (s : State) (c : Command), s.offers c .rollNow →
    let i := bits (c.word 0) 15 0
    let r := s.record i
    let latched := { r with triggerLatch := true, graceTimer := 0, stageTimer := 0 }
    ∃ t, exec .rollNow s = .next t ∧
      (if 8192 ≤ i then s.answered s c { status := .badIndex } t
       else if r.state = .free then s.answered s c { status := .notPresent } t
       else if r.state = .retiring then s.answered s c { status := .retiring } t
       else if r.config.kind = .ingress then s.answered s c { status := .wrongKind } t
       else if r.state ≠ .live then s.answered s c { status := .badState } t
       else if r.stage ≠ .steady then s.answered s c { status := .alreadyRolling } t
       else if (r.slot (!r.currentSlot)).role = .next ∧ r.config.lead ≠ 0 then
         s.answered (s.setRecord i { latched with stage := .lead }) c { status := .ok } t
       else if (r.slot (!r.currentSlot)).role = .next then
         s.answered (s.setRecord i ({ latched with stage := .lead }.ruleLead s.timebase.tickCount)) c { status := .ok } t
       else s.answered (s.setRecord i { latched with stage := .awaitKey, causes := { r.causes with keyNeeded := true } }) c
         { status := .ok } t)

/-- Force Switch at an EGRESS record, whole: its checks in order, and the egress switch of R63 and R64, which a Roll Now with a
lead of 0 in switch mode TIMED and a usable NEXT makes too. -/
def Obligations.EgressSwitch : Prop :=
  ∀ (s : State) (c : Command) (name : CommandName),
    let i := bits (c.word 0) 15 0
    let r := s.record i
    let k := r.currentSlot
    let old := r.slot k
    let new := r.slot (!k)
    let switched := { ((r.setSlot (!k) { new with role := .current, nextSequence := 1 }).setSlot k
        (if old.inFlight = 0 then Slot.erased else { old with role := .closing })) with
      currentSlot := !k, switchCapture := old.nextSequence - 1, switchTick := s.timebase.tickCount % 2 ^ 32
      lifetimeCounter := 0, octetRemainder := 0, stageTimer := 0, graceTimer := 0, triggerLatch := false
      pendingTrigger := false, evidence := false, switchCount := min 65535 (r.switchCount + 1)
      causes := { r.causes with switched := true }
      stage := if old.inFlight = 0 then .steady else .drainOld
      state := .live
      haltReason := if r.state = .halted then .none else r.haltReason }
    let faulted := { (r.setSlot (!k) { new with role := .damaged }) with causes := { r.causes with keyFault := true } }
    s.offers c name → r.config.kind = .egress →
    (name = .forceSwitch → ∃ t, exec .forceSwitch s = .next t ∧
      (if 8192 ≤ i then s.answered s c { status := .badIndex } t
       else if r.state = .free then s.answered s c { status := .notPresent } t
       else if r.state = .retiring then s.answered s c { status := .retiring } t
       else if r.state = .staged then s.answered s c { status := .badState } t
       else if new.role ≠ .next then s.answered s c { status := .noNextKey } t
       else if new.checkCode = Config.checkCode new.key new.salt then
         s.answered (s.setRecord i switched) c { status := .ok } t
       else s.answered (s.setRecord i faulted) c { status := .noNextKey } t)) ∧
    (name = .rollNow → i < 8192 → r.state = .live → r.stage = .steady → new.role = .next →
      r.config.lead = 0 → r.config.switchMode = .timed → new.checkCode = Config.checkCode new.key new.salt →
      ∃ t, exec .rollNow s = .next t ∧ s.answered (s.setRecord i switched) c { status := .ok } t)

/-- Force Switch at an INGRESS record, whole: its checks in order, and the ingress switch with capture 0, which keeps the new
CURRENT slot's window and sends evidence to every record that names this one. -/
def Obligations.ForceSwitchIngress : Prop :=
  ∀ (s : State) (c : Command), s.offers c .forceSwitch →
    let i := bits (c.word 0) 15 0
    let r := s.record i
    let k := r.currentSlot
    let old := r.slot k
    let new := r.slot (!k)
    let keeps : Bool := decide (old.role ≠ .damaged ∧ r.config.overlap ≠ 0)
    let switched := { ((r.setSlot (!k) { new with role := .current }).setSlot k
        (if keeps then { old with role := .old }
         else if old.inFlight = 0 then Slot.erased else { old with role := .closing })) with
      currentSlot := !k, switchCapture := 0, switchTick := s.timebase.tickCount % 2 ^ 32, lifetimeCounter := 0
      octetRemainder := 0, staleMark := false, stageTimer := 0, switchCount := min 65535 (r.switchCount + 1)
      causes := { r.causes with switched := true }
      stage := if keeps then .overlap else if old.inFlight = 0 then .steady else .drainOld
      state := .live
      haltReason := if r.state = .halted then .none else r.haltReason }
    let placed := s.setRecord i switched
    let named := (placed.manager.records.filter (fun p =>
      p.2.config.kind == .egress && p.2.config.companion == some i)).map Prod.fst
    i < 8192 → r.config.kind = .ingress →
    ∃ t, exec .forceSwitch s = .next t ∧
      (if r.state = .free then s.answered s c { status := .notPresent } t
       else if r.state = .retiring then s.answered s c { status := .retiring } t
       else if r.state = .staged then s.answered s c { status := .badState } t
       else if new.role = .next ∧ ((r.state = .live ∧ r.stage = .armed) ∨ r.state = .halted) then
         s.answered { placed with transit := { s.transit with
             evidence := s.transit.evidence ++ named.map (fun e => (i, e)) } } c { status := .ok } t
       else s.answered s c { status := .noNextKey } t)

/-! ### Flow commands (chapter 5) -/

/-- Add Flow, whole: it waits at the Flow Classifier, its words out of the Command FIFO, while an enqueue sent before it arrived is in
transit; then its checks in order, a failed check changing nothing; then the entry inserted with hit count 0, or its action replaced
with its hit count kept, and the flow references moved, the release waiting for the enqueues in transit at the map change. Which octet
of the MAC stands highest in words 1 and 2 is the model's choice (log entry 30). -/
def Obligations.AddFlow : Prop :=
  ∀ (s : State) (c : Command),
    let lane := bits (c.word 0) 7 0
    let untagged := flag (c.word 0) 12
    let vlan := bits (c.word 0) 31 16
    let action := bits (c.word 0) 9 8
    let i := bits (c.word 2) 15 0
    let key : FlowKey := {
      lane := Fin.ofNat 4 lane
      destination := BitVec.ofNat 48 ((c.word 1).toNat * 2 ^ 16 + bits (c.word 2) 31 16)
      vlan := if untagged then none else some (BitVec.ofNat 12 vlan) }
    let new : FlowAction := if action = 0 then .protect i else if action = 1 then .bypass else .discard
    let present := s.flowMap.find? (fun e => e.key == key)
    let old := present.map FlowEntry.action
    let claims : Bool := decide (action = 0 ∧ old ≠ some (.protect i))
    let claimed := if claims then
        s.setRecord i { s.record i with flowReferences := (s.record i).flowReferences + 1 } else s
    let changed := { claimed with flowMap := match present with
      | some _ => s.flowMap.map (fun e => if e.key = key then { e with action := new } else e)
      | none => s.flowMap ++ [{ key := key, action := new, hits := 0 }] }
    (s.offers c .addFlow → s.transit.enqueues ≠ [] → ∃ t, exec .addFlow s = .next t ∧ State.sameButMessages { s with
      flowTurn := some (.waiting c s.transit.enqueues), port := { s.port with commands := s.port.commands.tail } } t) ∧
    (s.flowDue c .addFlow → ∃ t, exec .addFlow s = .next t ∧
      (if 3 < lane ∨ (untagged = false ∧ 4095 < vlan) ∨ action = 3 then s.flowAnswered s c { status := .badValue } t
       else if action = 0 ∧ 8192 ≤ i then s.flowAnswered s c { status := .badIndex } t
       else if present.isSome = true ∧ flag (c.word 0) 13 = false then s.flowAnswered s c { status := .duplicate } t
       else if present.isNone = true ∧ 4096 ≤ s.flowMap.length then s.flowAnswered s c { status := .mapFull } t
       else if action = 0 ∧ (s.record i).state = .free then s.flowAnswered s c { status := .notPresent } t
       else if action = 0 ∧ (s.record i).state = .retiring then s.flowAnswered s c { status := .retiring } t
       else if action = 0 ∧ (s.record i).config.kind = .ingress then s.flowAnswered s c { status := .wrongKind } t
       else if action = 0 ∧ (s.record i).config.laneMask.getLsbD lane = false then
         s.flowAnswered s c { status := .badValue } t
       else match old with
         | some (.protect a) =>
           if new = .protect a then s.flowAnswered changed c { status := .ok } t
           else if s.transit.enqueues = [] then s.flowAnswered (changed.setRecord a { changed.record a with
             flowReferences := (changed.record a).flowReferences - 1 }) c { status := .ok } t
           else State.sameButMessages { changed with flowTurn := some (.releasing c a s.transit.enqueues) } t
         | _ => s.flowAnswered changed c { status := .ok } t)) ∧
    (∀ a, s.flowTurn = some (.releasing c a []) → c.handedAs .addFlow = true → s.port.resetting = false →
      ∃ t, exec .addFlow s = .next t ∧ s.flowAnswered (s.setRecord a { s.record a with
        flowReferences := (s.record a).flowReferences - 1 }) c { status := .ok } t)

/-- Remove Flow and Read Flow, whole: each waits at the Flow Classifier, its words out of the Command FIFO, while an enqueue sent
before it arrived is in transit; then its checks in order; then the entry deleted and its reference released, the release waiting for
the enqueues in transit at the map change, or its action, record index and hit count returned with nothing changed. Which octet of
the MAC stands highest in words 1 and 2, and the record index of 0 for BYPASS and DISCARD, are the model's choice (log entries 30
and 31). -/
def Obligations.RemoveAndReadFlow : Prop :=
  ∀ (s : State) (c : Command),
    let lane := bits (c.word 0) 7 0
    let untagged := flag (c.word 0) 12
    let vlan := bits (c.word 0) 31 16
    let key : FlowKey := {
      lane := Fin.ofNat 4 lane
      destination := BitVec.ofNat 48 ((c.word 1).toNat * 2 ^ 16 + bits (c.word 2) 31 16)
      vlan := if untagged then none else some (BitVec.ofNat 12 vlan) }
    let bad : Prop := 3 < lane ∨ (untagged = false ∧ 4095 < vlan)
    let present := s.flowMap.find? (fun e => e.key == key)
    let deleted := { s with flowMap := s.flowMap.filter (fun e => e.key ≠ key) }
    let waits := { s with
      flowTurn := some (.waiting c s.transit.enqueues), port := { s.port with commands := s.port.commands.tail } }
    (s.offers c .removeFlow → s.transit.enqueues ≠ [] →
      ∃ t, exec .removeFlow s = .next t ∧ State.sameButMessages waits t) ∧
    (s.offers c .readFlow → s.transit.enqueues ≠ [] → ∃ t, exec .readFlow s = .next t ∧ State.sameButMessages waits t) ∧
    (s.flowDue c .removeFlow → ∃ t, exec .removeFlow s = .next t ∧
      (bad → s.flowAnswered s c { status := .badValue } t) ∧
      (¬ bad → present = none → s.flowAnswered s c { status := .noFlow } t) ∧
      (¬ bad → ∀ e, present = some e → (∀ i, e.action ≠ .protect i) → s.flowAnswered deleted c { status := .ok } t) ∧
      (¬ bad → ∀ e i, present = some e → e.action = .protect i →
        (s.transit.enqueues = [] → s.flowAnswered
          (deleted.setRecord i { s.record i with flowReferences := (s.record i).flowReferences - 1 }) c { status := .ok } t) ∧
        (s.transit.enqueues ≠ [] → State.sameButMessages
          { deleted with flowTurn := some (.releasing c i s.transit.enqueues) } t))) ∧
    (∀ a, s.flowTurn = some (.releasing c a []) → c.handedAs .removeFlow = true → s.port.resetting = false →
      ∃ t, exec .removeFlow s = .next t ∧ s.flowAnswered (s.setRecord a { s.record a with
        flowReferences := (s.record a).flowReferences - 1 }) c { status := .ok } t) ∧
    (s.flowDue c .readFlow → ∃ t, exec .readFlow s = .next t ∧
      (bad → s.flowAnswered s c { status := .badValue } t) ∧
      (¬ bad → present = none → s.flowAnswered s c { status := .noFlow } t) ∧
      (¬ bad → ∀ e, present = some e → ∃ w, s.flowAnswered s c { status := .ok, body := [w, BitVec.ofNat 32 e.hits] } t ∧
        match e.action with
        | .protect i => bits w 1 0 = 0 ∧ (i < 8192 → bits w 31 16 = i)
        | .bypass => bits w 1 0 = 1 ∧ bits w 31 16 = 0
        | .discard => bits w 1 0 = 2 ∧ bits w 31 16 = 0))

/-! ### Lane commands and link events (chapter 8) -/

/-- Set Lane Mode: its checks in order; an allowed change sets the mode, and one that leaves PROTECT or LOOPTEST drops every
QUEUED entry FLUSHED with a withdrawal for each PROTECT entry; a change into OFF leaves the pause generator QUIET; and nothing else
of the lane changes, but that the flush is an occupancy event at the pause generator. -/
def Obligations.SetLaneMode : Prop :=
  ∀ (s : State) (c : Command), s.offers c .setLaneMode →
    let n := bits (c.word 0) 7 0
    let m := bits (c.word 0) 15 8
    let l : LaneId := Fin.ofNat 4 n
    let v := s.lane l
    let e := v.egress
    let present := match v.control.mode with | .off => 0 | .clear => 1 | .protect => 2 | .looptest => 3
    let new : Mode := if m = 0 then .off else if m = 1 then .clear else if m = 2 then .protect else .looptest
    let flushed := e.buffer.filter (fun x => x.status == .queued)
    let set := { v with control := { v.control with mode := new } }
    let left := if 2 ≤ present then
        (set.afterBuffer { e with buffer := e.buffer.filter (fun x => x.status != .queued) }).countOutBy .flushed flushed.length
      else set
    let w := if m = 0 then
        { left with egress := { left.egress with asserted := false, refresh := none, waitingPause := none } }
      else left
    ∃ t, exec .setLaneMode s = .next t ∧
      (if 3 < n ∨ 3 < m then s.answered s c { status := .badValue } t
       else if m = present then s.answered s c { status := .ok } t
       else if ¬ ((present, m) ∈ [(0, 1), (1, 0), (1, 2), (1, 3), (2, 1), (2, 0), (3, 1), (3, 0)]) then
         s.answered s c { status := .badModeChange } t
       else s.answered { s with
           lanes := s.lanes.set l w
           transit := { s.transit with withdrawals := s.transit.withdrawals ++
             (if 2 ≤ present then flushed.filterMap (fun x => match x.disposition with
               | some (.protect i) => some (l, i)
               | _ => none) else []) } } c { status := .ok } t ∧
         w.control.mode = new ∧ w.control.config = v.control.config ∧ w.control.systemUp = v.control.systemUp ∧
         w.control.lineUp = v.control.lineUp ∧ w.control.sampleCounters = v.control.sampleCounters ∧
         w.control.sampleTick = v.control.sampleTick ∧ w.ingress = v.ingress ∧ w.egress.store0 = e.store0 ∧
         w.egress.store1 = e.store1 ∧ w.egress.linePause = e.linePause ∧ w.egress.request = e.request ∧
         w.egress.answer = e.answer ∧ w.egress.indications = e.indications ∧ w.lastLineFrame = v.lastLineFrame ∧
         w.lastSystemFrame = v.lastSystemFrame ∧
         w.egress.buffer = (if 2 ≤ present then e.buffer.filter (fun x => x.status != .queued) else e.buffer) ∧
         (∀ k, w.inCount k = v.inCount k) ∧
         (∀ k, k ≠ .flushed → w.outCount k = v.outCount k) ∧
         w.outCount .flushed = (if 2 ≤ present then min 4294967295 (v.outCount .flushed + flushed.length)
           else v.outCount .flushed) ∧
         (m = 0 → w.egress.asserted = false ∧ w.egress.refresh = none ∧ w.egress.waitingPause = none))

/-- Configure Lane, whole: its checks in order; then every selected setting is stored, S clamped to 64..9,216, and nothing else
changes. -/
def Obligations.ConfigureLane : Prop :=
  ∀ (s : State) (c : Command), s.offers c .configureLane →
    let n := bits (c.word 0) 7 0
    let l : LaneId := Fin.ofNat 4 n
    let v := s.lane l
    let g := v.control.config
    let picks := fun k => flag (c.word 0) k
    let size := (c.word 1).toNat
    let action := bits (c.word 0) 17 16
    let policy := bits (c.word 0) 19 18
    let high := if picks 11 then bits (c.word 2) 15 0 else g.highMark
    let low := if picks 12 then bits (c.word 2) 31 16 else g.lowMark
    let quanta := if picks 13 then bits (c.word 3) 15 0 else g.quanta
    ∃ t, exec .configureLane s = .next t ∧
      (if 3 < n then s.answered s c { status := .badValue } t
       else if (picks 9 = true ∧ 1 < action) ∨ (picks 10 = true ∧ 1 < policy) then s.answered s c { status := .badValue } t
       else if ¬ (low < high ∧ high ≤ 2048 ∧ 1 ≤ quanta) then s.answered s c { status := .badValue } t
       else s.answered (s.setLane l { v with control := { v.control with config := {
             maxFrame := if picks 8 then max 64 (min 9216 size) else g.maxFrame
             defaultAction := if picks 9 then (if action = 0 then .bypass else .discard) else g.defaultAction
             clearPolicy := if picks 10 then (if policy = 0 then .dropClear else .acceptClear) else g.clearPolicy
             highMark := high, lowMark := low, quanta := quanta } } })
         c { status := if picks 8 = true ∧ (size < 64 ∨ 9216 < size) then .clamped else .ok } t)

/-- Sample Lane Counters, whole: the response reports the sample record as the previous sample left it, with the present mode and
link states, and the present counters and tick count take its place. -/
def Obligations.SampleLaneCounters : Prop :=
  ∀ (s : State) (c : Command), s.offers c .sampleLaneCounters →
    let n := bits (c.word 0) 7 0
    let l : LaneId := Fin.ofNat 4 n
    let v := s.lane l
    let k := v.control
    ∃ t, exec .sampleLaneCounters s = .next t ∧
      (if 3 < n then s.answered s c { status := .badValue } t
       else ∃ body : List Word,
         s.answered (s.setLane l { v with control := { k with
           sampleCounters := k.counters, sampleTick := s.timebase.tickCount } }) c { status := .ok, body := body } t ∧
         body.length = 39 ∧
         bits (body.getD 0 0) 1 0 = (match k.mode with | .off => 0 | .clear => 1 | .protect => 2 | .looptest => 3) ∧
         flag (body.getD 0 0) 8 = k.systemUp ∧ flag (body.getD 0 0) 9 = k.lineUp ∧
         (k.sampleTick < 2 ^ 48 → (body.getD 2 0).toNat * 2 ^ 32 + (body.getD 1 0).toNat = k.sampleTick) ∧
         (∀ j : Fin 16, body.getD (3 + j.val) 0 = BitVec.ofNat 32 k.sampleCounters.outbound[j]) ∧
         (∀ j : Fin 20, body.getD (19 + j.val) 0 = BitVec.ofNat 32 k.sampleCounters.inbound[j]))

/-- Restart Lane, whole: counters and sample record at 0; the buffers emptied; the frames in stores ended with one release ABORTED
for each grant and one abandon ABORT for each store in OPENING; a RESERVED store and its request kept; lookups and commits in progress
kept and marked for cancelling; pauses ended; a line frame that held a store heard no more; mode, links and settings kept. That a
pause indication on its way stays so is the model's choice (log entry 37). -/
def Obligations.RestartLane : Prop :=
  ∀ (s : State) (c : Command), s.offers c .restartLane →
    let n := bits (c.word 0) 7 0
    let l : LaneId := Fin.ofNat 4 n
    let v := s.lane l
    let e := v.egress
    let i := v.ingress
    let zeroes : LaneCounters := { outbound := Vector.replicate 16 0, inbound := Vector.replicate 20 0 }
    let ended := fun (t : TransmitStore) => match t with
      | .held f | .sending f => f.grant.toList.map (fun g => (⟨g.record, g.slot, .aborted, f.protectedOctets⟩ : ReleaseMsg))
      | .free | .reserved _ => []
    let kept := fun (t : TransmitStore) => match t with
      | .reserved d => .reserved d
      | .free | .held _ | .sending _ => TransmitStore.free
    let cancelled : Option FrameStore → Option FrameStore := fun x => match x with
      | some ⟨src, _, .lookup f h a⟩ => some ⟨src, true, .lookup f h a⟩
      | some ⟨src, _, .committing f h g p a⟩ => some ⟨src, true, .committing f h g p a⟩
      | _ => none
    let abandoned : Option FrameStore → List AbandonMsg := fun x => match x with
      | some ⟨_, _, .opening _ _ g⟩ => [⟨g.record, g.slot, .abort⟩]
      | _ => []
    let w : Lane := { v with
      control := { v.control with counters := zeroes, sampleCounters := zeroes, sampleTick := 0 }
      egress := { e with
        buffer := [], store0 := kept e.store0, store1 := kept e.store1, linePause := none, asserted := false
        refresh := none, waitingPause := none }
      ingress := { i with
        stores := i.stores.map cancelled
        ages := i.ages.filter (fun k => (cancelled (i.store k)).isSome)
        receiver := match i.receiver with
          | .receiving none => LineReceiver.receiving none
          | .receiving (some _) | .idle => LineReceiver.idle
        delivery := [], sending := false, systemPause := none } }
    ∃ t, exec .restartLane s = .next t ∧
      (if 3 < n then s.answered s c { status := .badValue } t
       else s.answered { s with
           lanes := s.lanes.set l w
           transit := { s.transit with
             releases := s.transit.releases ++ (ended e.store0 ++ ended e.store1)
             withdrawals := s.transit.withdrawals ++ (e.buffer.filter (fun x => x.status == .queued)).filterMap
               (fun x => match x.disposition with | some (.protect i) => some (l, i) | _ => none)
             abandons := s.transit.abandons ++ i.stores.toList.flatMap abandoned } } c { status := .ok } t)

/-- A link event: a reported state that equals the state held changes nothing; one that differs is held, sets LANE, and is taken by
both engines. A lost line link ends the frames in stores bound for the line, with their releases ABORTED, the line-side pause, and the
line frame in reception, RUNT below 64 octets and BAD_FCS otherwise, with its store FREE; a lost system link ends the outbound frame
in reception the same way, the waiting pause frame, the delivery in progress and the system-side pause. Settings, mode, sample record
and what the stores hold besides are kept. The number of octets of a cut line frame is the row's operand (log entry 23), the cut of an
outbound frame comes before the end of the waiting pause frame (deduced, log entry 24), and a pause indication on its way stays so
(log entry 37). -/
def Obligations.LinkEvent : Prop :=
  ∀ (s : State) (l : LaneId) (up : Bool) (arrived : Nat), s.port.resetting = false →
    let v := s.lane l
    let e := v.egress
    let i := v.ingress
    let bound : TransmitStore → List StoredFrame := fun t => match t with
      | .held f | .sending f => if f.destination = Destination.line then [f] else []
      | .free | .reserved _ => []
    let cut := bound e.store0 ++ bound e.store1
    let freed := fun (t : TransmitStore) => if (bound t).isEmpty then t else .free
    let heldDown := Lane.countOutBy { v with
      control := { v.control with lineUp := false }
      egress := { e with store0 := freed e.store0, store1 := freed e.store1, linePause := none } } .aborted cut.length
    let why : InCounter := if arrived < 64 then .runt else .badFcs
    let lineDown := match i.receiver with
      | .idle => heldDown
      | .receiving none => (Lane.countIn { heldDown with ingress := { i with receiver := .idle } } why).queueDelivery
      | .receiving (some j) => (Lane.countIn { heldDown with ingress := { i with
          receiver := .idle, stores := i.stores.set j none, ages := i.ages.filter (fun n => n ≠ j) } } why).queueDelivery
    let unlinked := { v with control := { v.control with systemUp := false } }
    let stopped := match e.buffer.find? (fun x => x.status == .receiving) with
      | none => unlinked
      | some x => (unlinked.afterBuffer { e with buffer := e.buffer.filter (fun x => x.status != EntryStatus.receiving) }).countOut
          (if x.octets.length < 64 then .runt else .badFcs)
    let quiet := { stopped with
      egress := { stopped.egress with waitingPause := none, refresh := none }
      ingress := { i with systemPause := none } }
    let systemDown := if i.sending then
        Lane.countIn { quiet with ingress := { quiet.ingress with delivery := i.delivery.tail, sending := false } } .aborted
      else quiet
    (v.control.lineUp = up → exec (.linkEvent l .line up arrived) s = .next s) ∧
    (v.control.systemUp = up → exec (.linkEvent l .system up arrived) s = .next s) ∧
    (v.control.lineUp = false → up = true → exec (.linkEvent l .line up arrived) s = .next (s.notify
      { s with
        lanes := s.lanes.set l { v with control := { v.control with lineUp := true } }
        port := { s.port with laneFlag := true } })) ∧
    (v.control.lineUp = true → up = false → exec (.linkEvent l .line up arrived) s = .next (s.notify
      { s with
        lanes := s.lanes.set l lineDown
        port := { s.port with laneFlag := true }
        transit := { s.transit with releases := s.transit.releases ++ cut.flatMap (fun f => f.grant.toList.map
          (fun g => (⟨g.record, g.slot, .aborted, f.protectedOctets⟩ : ReleaseMsg))) } })) ∧
    (v.control.lineUp = true → up = false →
      lineDown.control.mode = v.control.mode ∧ lineDown.control.config = v.control.config ∧
      lineDown.control.lineUp = false ∧ lineDown.control.systemUp = v.control.systemUp ∧
      lineDown.egress.linePause = none ∧ lineDown.egress.buffer = e.buffer ∧ lineDown.ingress.receiver = .idle ∧
      (∀ k, lineDown.egress.store k = (if (bound (e.store k)).isEmpty then e.store k else .free)) ∧
      lineDown.outCount .aborted = min 4294967295 (v.outCount .aborted + cut.length) ∧
      (∀ k, k ≠ .aborted → lineDown.outCount k = v.outCount k)) ∧
    (v.control.systemUp = true → up = false → exec (.linkEvent l .system up arrived) s = .next (s.notify
      { s with lanes := s.lanes.set l systemDown, port := { s.port with laneFlag := true } })) ∧
    (v.control.systemUp = true → up = false →
      systemDown.control.mode = v.control.mode ∧ systemDown.control.config = v.control.config ∧
      systemDown.control.systemUp = false ∧ systemDown.control.lineUp = v.control.lineUp ∧
      systemDown.egress.waitingPause = none ∧ systemDown.egress.refresh = none ∧ systemDown.egress.store0 = e.store0 ∧
      systemDown.egress.store1 = e.store1 ∧ systemDown.ingress.systemPause = none ∧ systemDown.ingress.sending = false ∧
      systemDown.egress.buffer = e.buffer.filter (fun x => x.status != .receiving) ∧
      systemDown.ingress.stores = i.stores ∧
      systemDown.ingress.delivery = (if i.sending then i.delivery.tail else i.delivery) ∧
      systemDown.inCount .aborted = (if i.sending then min 4294967295 (v.inCount .aborted + 1) else v.inCount .aborted)) ∧
    (v.control.systemUp = false → up = true → exec (.linkEvent l .system up arrived) s = .next (s.notify
      { s with
        lanes := s.lanes.set l { v with
          control := { v.control with systemUp := true }
          egress := { e with waitingPause := if e.asserted then some v.control.config.quanta else e.waitingPause } }
        port := { s.port with laneFlag := true } }))

/-! ### Reading the table (chapter 9) -/

/-- Read Association, whole: its checks in order; then 26 words that carry the record's fields at the places of section 11.4, every
other position 0, and nothing changes. The key, the salt and the check code of a slot leave no trace in the body. A companion index
of 0 where an EGRESS record has no companion is the model's choice (log entry 33). -/
def Obligations.ReadAssociation : Prop :=
  ∀ (s : State) (c : Command), s.offers c .readAssociation →
    let i := bits (c.word 0) 15 0
    let r := s.record i
    let g := r.config
    let k := r.counters
    let other : Record := { r with
      slot0 := { r.slot0 with key := 0, salt := 0, checkCode := 0 }
      slot1 := { r.slot1 with key := 0, salt := 0, checkCode := 0 } }
    let shared := g.kind.code + 2 * r.state.code + 2 ^ 4 * r.haltReason.code + 2 ^ 6 * r.causes.code + 2 ^ 12 * r.stage.code
      + 2 ^ 16 * g.laneMask.toNat + 2 ^ 20 * bit g.confidential + 2 ^ 22 * g.lifetimeSource.code
    ∃ t, exec .readAssociation s = .next t ∧
      (if 8192 ≤ i then s.answered s c { status := .badIndex } t
       else if r.state = .free then s.answered s c { status := .notPresent } t
       else ∃ body : List Word, s.answered s c { status := .ok, body := body } t ∧ body = other.readBody ∧
         body.length = 26 ∧
         let word := fun n => (body.getD n 0).toNat
         let long := fun n v => word n = v % 2 ^ 32 ∧ word (n + 1) = v / 2 ^ 32 % 2 ^ 32
         word 1 = g.tag.toNat ∧ word 5 = g.lifetimeValue % 2 ^ 32 ∧ word 6 = r.lifetimeCounter % 2 ^ 32 ∧
         word 7 = r.octetRemainder % 2 ^ 16 + 2 ^ 16 * (r.switchCount % 2 ^ 16) ∧ word 8 = r.stageTimer % 2 ^ 20 ∧
         word 12 = r.switchCapture % 2 ^ 32 ∧ word 14 = r.switchTick % 2 ^ 32 ∧
         (g.kind = .egress →
           word 0 = shared + 2 ^ 21 * g.switchMode.code + 2 ^ 24 * bit r.triggerLatch + 2 ^ 25 * bit r.pendingTrigger
             + 2 ^ 26 * bit r.evidence + 2 ^ 27 * bit g.companion.isSome ∧
           word 2 = g.companion.getD 0 % 2 ^ 16 ∧ word 3 = g.lead % 2 ^ 32 ∧ word 4 = g.grace % 2 ^ 32 ∧
           word 9 = r.graceTimer % 2 ^ 20 ∧ word 10 = r.flowReferences % 2 ^ 16 + 2 ^ 16 * (r.queuedFrames % 2 ^ 16) ∧
           word 11 = g.softThreshold % 2 ^ 32 ∧
           word 13 = r.switchCapture / 2 ^ 32 % 2 ^ 16 + 2 ^ 16 * (g.softThreshold / 2 ^ 32 % 2 ^ 16) ∧
           (∀ n : SlotNo, let sl := r.slot n
             let first := if n then 18 else 15
             word first = sl.role.code + 2 ^ 4 * sl.keyNumber.toNat + 2 ^ 8 * (sl.inFlight % 2 ^ 5) ∧
             word (first + 1) = sl.nextSequence % 2 ^ 32 ∧ word (first + 2) = sl.nextSequence / 2 ^ 32 % 2 ^ 17) ∧
           long 21 k.framesProtected ∧ long 23 k.octetsProtected ∧ word 25 = k.framesRefused % 2 ^ 32) ∧
         (g.kind = .ingress →
           word 0 = shared + 2 ^ 24 * bit r.staleMark ∧
           word 2 = r.companionCount % 2 ^ 16 + 2 ^ 16 * (g.window % 2 ^ 8) ∧ word 3 = g.overlap % 2 ^ 32 ∧
           word 4 = k.late % 2 ^ 32 ∧ word 9 = k.replay % 2 ^ 32 ∧ word 10 = k.badTag % 2 ^ 32 ∧
           word 11 = k.noKey % 2 ^ 32 ∧ word 13 = r.switchCapture / 2 ^ 32 % 2 ^ 16 ∧
           (∀ n : SlotNo, let sl := r.slot n
             let first := if n then 18 else 15
             word first = sl.role.code + 2 ^ 4 * sl.keyNumber.toNat + 2 ^ 8 * (sl.inFlight % 2 ^ 5)
               + 2 ^ 16 * (sl.accepted.length % 2 ^ 9) ∧
             word (first + 1) = sl.highest % 2 ^ 32 ∧ word (first + 2) = sl.highest / 2 ^ 32 % 2 ^ 16) ∧
           long 21 k.framesAccepted ∧ long 23 k.octetsAccepted ∧ word 25 = 0))

/-- Walk Table: its checks in order; CONTINUE at the end answers END alone; an accepted command begins a walk with nothing built; and
a walk that no other event interrupts, UP or DOWN, from an index or the cursor's, answers a body of at most 63 words whose gap words and summaries describe, by the filter and the
records, every index from the first up to the resume word, stops at the summary count or where the next entry does not fit, and
sets the cursor. A walk between two visits visits one record as it then stands: a failing index joins the run, which is ended as a
gap word at 128; a passing one ends the run and gives its summary; the walk is then held, or answered at the summary count, at the
end of the table, or before an entry that does not fit. How many visits a walk makes before another event is the model's pace (log
entry 36: one after reset, which no row changes; the whole walk is said at a pace of 8,192), the kind bit of a FREE record a free
value (log entry 5). -/
def Obligations.WalkTableDescribesEveryIndex : Prop :=
  ∀ (s : State),
    let passes := fun (filter i : Nat) =>
      let r := s.record i
      match filter with
      | 0 => true
      | 1 => r.state != .free
      | 2 => r.causes != ⟨false, false, false, false, false⟩
      | 3 => r.state != .free && r.config.kind == .egress
      | _ => r.state != .free && r.config.kind == .ingress
    let next := fun (direction i : Nat) =>
      if direction = 0 then (if i < 8191 then some (i + 1) else none) else if i = 0 then none else some (i - 1)
    (∀ c, s.offers c .walkTable →
      let start := bits (c.word 0) 15 0
      let direction := bits (c.word 0) 17 16
      let filter := bits (c.word 0) 22 20
      let count := bits (c.word 0) 31 24
      ∃ t, exec .walkTable s = .next t ∧
        (8192 ≤ start → start ≠ 0xFFFF → s.answered s c { status := .badIndex } t) ∧
        ((start < 8192 ∨ start = 0xFFFF) → (1 < direction ∨ 4 < filter ∨ count = 0 ∨ 20 < count) →
          s.answered s c { status := .badValue } t) ∧
        (direction ≤ 1 → filter ≤ 4 → 1 ≤ count → count ≤ 20 → start = 0xFFFF → s.manager.walkCursor = none →
          s.answered s c { status := .ok, body := [0xFFFF#32] } t) ∧
        (direction ≤ 1 → filter ≤ 4 → 1 ≤ count → count ≤ 20 → ∀ first : Option Nat,
          ((start < 8192 ∧ first = some start) ∨ (start = 0xFFFF ∧ first = s.manager.walkCursor)) →
          ∃ u, State.sameButMessages { s with port := { s.port with commands := s.port.commands.tail } } u ∧
            exec .walkTable s = exec .walkTable { u with manager := { u.manager with walk := some {
              tag := bits c.header 31 16
              direction := if direction = 0 then .up else .down
              filter := match filter with | 0 => .all | 1 => .inUse | 2 => .attention | 3 => .egress | _ => .ingress
              count := count
              next := first
              built := { draws := s.freeDraws } } } }) ∧
        (direction ≤ 1 → filter ≤ 4 → 1 ≤ count → count ≤ 20 → 8192 ≤ s.walkPace → ∀ first, first < 8192 →
          (start = first ∨ (start = 0xFFFF ∧ s.manager.walkCursor = some first)) →
          ∃ (entries : List Word) (resume : Option Nat) (summaries draws : Nat),
            s.answered { s with manager := { s.manager with walkCursor := resume }, freeDraws := draws } c
              { status := .ok, body := BitVec.ofNat 32 (resume.getD 0xFFFF) :: entries } t ∧
            entries.length ≤ 62 ∧ summaries ≤ count ∧
            walked (next direction) (passes filter) s.record (some first) entries = some (resume, summaries) ∧
            (summaries = count → bits (entries.getLastD 0) 31 30 = 0) ∧
            (∀ i, resume = some i → i < 8192 ∧
              (summaries < count → 62 < entries.length + (if passes filter i then 3 else 1))))) ∧
    (∀ x : WalkTurn, s.manager.walk = some x → s.port.resetting = false →
      let direction := match x.direction with | .up => 0 | .down => 1
      let filter := match x.filter with | .all => 0 | .inUse => 1 | .attention => 2 | .egress => 3 | .ingress => 4
      let b := x.built
      let gap := fun (n : Nat) => [BitVec.ofNat 32 (2 ^ 31 + (n - 1) % 2 ^ 7)]
      let ends := fun (entries : List Word) (resume : Option Nat) (draws : Nat) =>
        let reply : Reply := { status := .ok, body := BitVec.ofNat 32 (resume.getD 0xFFFF) :: entries }
        ∃ t, exec .walkTable s = .next t ∧ State.sameButMessages
          { s with
            manager := { s.manager with walk := none, walkCursor := resume }
            port := { s.port with responses := s.port.responses ++ responseWords x.tag reply }
            freeDraws := draws } t
      let tableEnds := fun (w : Walk) =>
        (w.run = 0 → ends w.entries none w.draws) ∧
        (w.run ≠ 0 → w.entries.length + 1 ≤ 62 → ends (w.entries ++ gap w.run) none w.draws) ∧
        (w.run ≠ 0 → 62 < w.entries.length + 1 → ends w.entries (some w.runStart) w.draws)
      (x.next = none → tableEnds { b with draws := s.freeDraws }) ∧
      (∀ i, x.next = some i → i < 8192 → s.walkPace ≤ 1 →
        let r := s.record i
        let next_ := next direction i
        let goesOn := fun (w : Walk) =>
          (next_ ≠ none → exec .walkTable s = .next (s.notify { s with
            manager := { s.manager with walk := some { x with next := next_, built := w } }, freeDraws := w.draws })) ∧
          (next_ = none → tableEnds w)
        let start := if b.run = 0 then i else b.runStart
        (passes filter i = false → b.run < 127 →
          goesOn { b with run := b.run + 1, runStart := start, draws := s.freeDraws }) ∧
        (passes filter i = false → b.run = 127 →
          (b.entries.length + 1 ≤ 62 →
            goesOn { b with entries := b.entries ++ gap 128, run := 0, runStart := start, draws := s.freeDraws }) ∧
          (62 < b.entries.length + 1 → ends b.entries (some start) s.freeDraws)) ∧
        (passes filter i = true →
          let entries := b.entries ++ (if b.run = 0 then [] else gap b.run)
          let draws := if r.state = .free then s.freeDraws + 1 else s.freeDraws
          (b.run ≠ 0 → 62 < b.entries.length + 1 → ends b.entries (some b.runStart) s.freeDraws) ∧
          (b.run = 0 ∨ b.entries.length + 1 ≤ 62 →
            (62 < entries.length + 3 → ends entries (some i) s.freeDraws) ∧
            (entries.length + 3 ≤ 62 → ∃ first second third : Word, isSummary i r first second third = true ∧
              (b.summaries + 1 = x.count → ends (entries ++ [first, second, third]) next_ draws) ∧
              (b.summaries + 1 ≠ x.count → goesOn { b with
                entries := entries ++ [first, second, third], run := 0, summaries := b.summaries + 1, draws := draws }))))))

/-- Take Attention, whole: EMPTY with nothing changed where no record holds a cause; otherwise the lowest index whose record holds
one is reported with its causes, state and halt reason, and its causes are emptied. -/
def Obligations.TakeAttention : Prop :=
  ∀ (s : State) (c : Command), s.offers c .takeAttention → s.manager.Canonical →
    let holds := fun i => (s.record i).causes ≠ ⟨false, false, false, false, false⟩
    ∃ t, exec .takeAttention s = .next t ∧
      ((∀ i, ¬ holds i) → s.answered s c { status := .empty } t) ∧
      (∀ i, i < 8192 → holds i → (∀ j, j < i → ¬ holds j) → ∃ w : Word,
        s.answered (s.setRecord i { s.record i with causes := ⟨false, false, false, false, false⟩ }) c
          { status := .ok, body := [w] } t ∧
        bits w 15 0 = i ∧ bits w 20 16 = (s.record i).causes.code ∧ bits w 23 21 = (s.record i).state.code ∧
        bits w 25 24 = (s.record i).haltReason.code)

/-! ### The Command Port (chapter 10) -/

/-- Configure Part and Read Part, whole: the checks; every selected setting stored, and nothing else changed; and the settings and
the tick count reported with nothing changed. -/
def Obligations.ConfigureAndReadPart : Prop :=
  ∀ (s : State) (c : Command),
    let picks := fun k => flag (c.word 0) k
    let p := bits (c.word 0) 15 8
    let e := bits (c.word 1) 15 0
    let response := bits (c.word 2) 15 0
    let space := bits (c.word 2) 31 16
    (s.offers c .configurePart → ∃ t, exec .configurePart s = .next t ∧
      (if (picks 0 = true ∧ 7 < p) ∨ (picks 1 = true ∧ (e < 0x600 ∨ e = 0x8100 ∨ e = 0x8808))
          ∨ (picks 2 = true ∧ (response = 0 ∨ 256 < response)) ∨ (picks 3 = true ∧ (space = 0 ∨ 256 < space)) then
        s.answered s c { status := .badValue } t
       else s.answered { s with
           timebase := { s.timebase with prescaler := if picks 0 then p else s.timebase.prescaler }
           port := { s.port with
             envelopeType := if picks 1 then BitVec.ofNat 16 e else s.port.envelopeType
             responseThreshold := if picks 2 then response else s.port.responseThreshold
             spaceThreshold := if picks 3 then space else s.port.spaceThreshold } } c { status := .ok } t)) ∧
    (s.offers c .readPart → ∃ (t : State) (body : List Word), exec .readPart s = .next t ∧
      s.answered s c { status := .ok, body := body } t ∧ body.length = 4 ∧
      (s.timebase.prescaler ≤ 7 → bits (body.getD 0 0) 2 0 = s.timebase.prescaler) ∧
      bits (body.getD 0 0) 31 16 = s.port.envelopeType.toNat ∧
      (s.port.responseThreshold ≤ 256 → bits (body.getD 1 0) 15 0 = s.port.responseThreshold) ∧
      (s.port.spaceThreshold ≤ 256 → bits (body.getD 1 0) 31 16 = s.port.spaceThreshold) ∧
      (s.timebase.tickCount < 2 ^ 48 →
        (body.getD 3 0).toNat * 2 ^ 32 + (body.getD 2 0).toNat = s.timebase.tickCount))

/-- The twenty commands have the codes and the body lengths of section 11.4, and no other code names one. The Command Processor
answers the oldest closed command itself, by the first of the four conditions of R157 that holds, and hands any other command, and
none but those, to its owner: this row then leaves the state as it is, the owner's row being that command's turn (the model's
choice, log entry 1). -/
def Obligations.CommandAnsweredByPort : Prop :=
  ∀ (s : State) (c : Command) (rest : List Command), s.port.commands = c :: rest →
    (c.phase = .complete ∨ c.phase = .truncated) → s.port.responses.length ≤ 192 → s.port.resetting = false →
    s.flowTurn = none → s.manager.walk = none →
    let table : List (Nat × CommandName × Nat) := [
      (0x01, .installAssociation, 19), (0x02, .activateAssociation, 1), (0x03, .modifyAssociation, 9),
      (0x04, .retireAssociation, 1), (0x05, .readAssociation, 1), (0x06, .clearCounters, 1), (0x08, .loadNextKey, 11),
      (0x09, .rollNow, 1), (0x0A, .forceSwitch, 1), (0x10, .addFlow, 3), (0x11, .removeFlow, 3), (0x12, .readFlow, 3),
      (0x18, .setLaneMode, 1), (0x19, .configureLane, 4), (0x1A, .sampleLaneCounters, 1), (0x1B, .restartLane, 1),
      (0x20, .walkTable, 1), (0x21, .takeAttention, 0), (0x28, .configurePart, 3), (0x29, .readPart, 0)]
    let code := bits c.header 15 8
    let length := bits c.header 5 0
    let keyed := fun (n : CommandName) => n = .installAssociation ∨ n = .loadNextKey
    let answers := fun st => ∃ t, exec .commandAnsweredByPort s = .next t ∧ s.answered s c { status := st } t
    (c.phase = .truncated → answers .truncated) ∧
    (c.phase = .complete → c.overflow = true → answers .overflow) ∧
    (c.phase = .complete → c.overflow = false → code ∉ table.map Prod.fst → answers .badCommand) ∧
    (c.phase = .complete → c.overflow = false → ∀ p ∈ table, p.1 = code →
      (length ≠ p.2.2 ∨ (c.framing = true ∧ ¬ keyed p.2.1)) → answers .badFraming) ∧
    (c.phase = .complete → c.overflow = false → ∀ p ∈ table, p.1 = code → length = p.2.2 →
      (c.framing = true → keyed p.2.1) → s.offers c p.2.1 ∧ exec .commandAnsweredByPort s = .next s) ∧
    (∀ n, s.offers c n → c.phase = .complete ∧ c.overflow = false ∧ (code, n, length) ∈ table ∧
      (c.framing = true → keyed n))

/-- A HEADER write closes a command in assembly as truncated, and starts a command where the Command FIFO has a free word, one of
body length 0 complete at once; in a full FIFO the word is dropped and PORT_FAULT set. An assembly expiry closes a command in
assembly as truncated, and does nothing else. -/
def Obligations.HeaderWriteAndExpiry : Prop :=
  ∀ (s : State) (w : Word), s.port.resetting = false →
    let held := (s.port.commands.map (fun c => 1 + c.body.length)).sum
    let closed := match s.port.commands.getLast? with
      | some c => (match c.phase with
        | .assembling _ => s.port.commands.dropLast ++ [{ c with phase := .truncated }]
        | .complete | .truncated => s.port.commands)
      | none => s.port.commands
    let length := bits w 5 0
    let started : Command := { header := w, body := [], overflow := false, framing := false
                               phase := if length = 0 then .complete else .assembling length }
    (held < 256 → exec (.headerWrite w) s = .next (s.notify
      { s with port := { s.port with commands := closed ++ [started] } })) ∧
    (256 ≤ held → exec (.headerWrite w) s = .next (s.notify
      { s with port := { s.port with commands := closed, portFault := true } })) ∧
    exec .assemblyExpiry s = .next (s.notify { s with port := { s.port with commands := closed } })

/-- A BODY or KEY write: a stray word sets PORT_FAULT alone; a word taken for the command in assembly is stored with its place, sets
the framing mark in a position of the other kind, and completes the command when no more are expected; in a full FIFO it is
dropped with the overflow mark and PORT_FAULT set, and still counts. That a dropped word sets the framing mark too is deduced (log
entry 29). -/
def Obligations.BodyAndKeyWrite : Prop :=
  ∀ (s : State) (w : Word) (place : Place), s.port.resetting = false →
    let event : Instr := match place with | .body => .bodyWrite w | .key => .keyWrite w
    let full : Bool := decide (256 ≤ (s.port.commands.map (fun c => 1 + c.body.length)).sum)
    ((∀ c, s.port.commands.getLast? = some c → c.phase = .complete ∨ c.phase = .truncated) →
      exec event s = .next (s.notify { s with port := { s.port with portFault := true } })) ∧
    (∀ (older : List Command) (c : Command) (k : Nat), s.port.commands = older ++ [c] → c.phase = .assembling k →
      let position := bits c.header 5 0 - k
      let code := bits c.header 15 8
      let keyed : Bool := decide ((code = 0x01 ∧ 9 ≤ position ∧ position ≤ 18)
        ∨ (code = 0x08 ∧ 1 ≤ position ∧ position ≤ 10))
      exec event s = .next (s.notify { s with port := { s.port with
        commands := older ++ [{ c with
          body := if full then c.body else c.body ++ [(place, w)]
          overflow := c.overflow || full
          framing := c.framing || (keyed != (place == .key))
          phase := if k ≤ 1 then .complete else .assembling (k - 1) }]
        portFault := s.port.portFault || full } }))

/-- The window: a read of RESPONSE pops the oldest word and returns it, or 0; reads of LEVELS, SERVICE STATUS, SERVICE ENABLE and
CONTROL return what stands; writes to SERVICE STATUS, SERVICE ENABLE and the hold bit clear the sticky flags written with 1, replace
all five enables, and set the bit, and send a message when the request is asserted after them; any other event sends one when it
asserts the request; none is sent while signalling is not enabled. A write to RESPONSE, to LEVELS or at an offset that belongs to no
place is ignored. That an offset that is not a multiple of 4 belongs to no place, for reads and writes, and that the bits section
11.2 does not list read as 0, is the model's choice (log entries 34 and 42). -/
def Obligations.WindowReadsAndWrites : Prop :=
  ∀ (s : State) (w : Word) (hold : Bool) (offset : Nat),
    let words := (s.port.commands.map (fun c => 1 + c.body.length)).sum
    let flags := fun (u : State) =>
      [decide (u.port.responseThreshold ≤ u.port.responses.length),
        decide (u.port.spaceThreshold ≤ 256 - (u.port.commands.map (fun c => 1 + c.body.length)).sum),
        u.manager.records.any (fun p => decide (p.2.causes ≠ ⟨false, false, false, false, false⟩)),
        u.port.laneFlag, u.port.portFault]
    let enables := fun (u : State) =>
      [u.port.enables.response, u.port.enables.space, u.port.enables.attention, u.port.enables.lane, u.port.enables.portFault]
    let asserted := fun (u : State) => ((flags u).zip (enables u)).any (fun p => p.1 && p.2) && !u.port.hold
    let sends := fun (u : State) (due : Bool) => { u with pins := { u.pins with messagesSent :=
      if due && u.pins.messageSignalling then u.pins.messagesSent + 1 else u.pins.messagesSent } }
    let word := fun (bs : List Bool) => bs.foldr (fun b n => bit b + 2 * n) 0
    let expected := match s.port.commands.getLast? with
      | some c => (match c.phase with | .assembling n => some n | .complete | .truncated => none)
      | none => none
    let cleared := { s with port := { s.port with
      laneFlag := if flag w 3 then false else s.port.laneFlag
      portFault := if flag w 4 then false else s.port.portFault } }
    let enabled := { s with port := { s.port with enables := ⟨flag w 0, flag w 1, flag w 2, flag w 3, flag w 4⟩ } }
    let held := { s with port := { s.port with hold := hold } }
    (∀ u : State, s.notify u = sends u (!asserted s && asserted u)) ∧
    (s.port.resetting = false →
      exec (.serviceStatusWrite w) s = .next (sends cleared (asserted cleared)) ∧
      exec (.serviceEnableWrite w) s = .next (sends enabled (asserted enabled)) ∧
      exec (.holdBitWrite hold) s = .next (sends held (asserted held)) ∧
      (∀ x rest, s.port.responses = x :: rest → exec .responseRead s = .next (s.notify
        { s with port := { s.port with responses := rest }, pins := { s.pins with readData := x } })) ∧
      (s.port.responses = [] → exec .responseRead s = .next { s with pins := { s.pins with readData := 0 } }) ∧
      s.windowRead 0x0C = s.port.responses.headD 0 ∧
      (s.windowRead 0x10).toNat = (256 - words) + 2 ^ 9 * (s.port.responses.length % 2 ^ 9)
        + 2 ^ 24 * bit expected.isSome + 2 ^ 25 * (expected.getD 0 % 2 ^ 6) ∧
      (s.windowRead 0x14).toNat = word (flags s) ∧ (s.windowRead 0x18).toNat = word (enables s) ∧
      (s.windowRead 0x1C).toNat = bit s.port.hold ∧
      (offset ∉ [0x0C, 0x10, 0x14, 0x18, 0x1C] → s.windowRead offset = 0)) ∧
    (s.port.resetting = true → s.windowRead offset = 0) ∧
    (offset ∉ [0x00, 0x04, 0x08, 0x14, 0x18, 0x1C] → exec (.ignoredWrite offset w) s = .next s)

/-! ### Ticks (chapter 3) -/

/-- A tick: the tick count gains 1 and wraps after 2^48−1, a tick is issued to the records, the next interval takes the present
prescaler, and nothing else changes. A record takes each issued tick once: one that is not LIVE is left as it is; a LIVE one that
meets no comparison advances its stage timer, under a set trigger latch its grace timer, and under source AGE its lifetime. That
RECORD_TICK leaves the state as it is where no tick is due, or at an index from 8,192 up, is the model's choice (log entries 1
and 20). -/
def Obligations.TickAndRecordTick : Prop :=
  ∀ (s : State) (i : Nat), s.port.resetting = false →
    let r := s.record i
    let taken := (s.manager.ticksTaken.find i).getD 0
    let counted := { s with manager := { s.manager with ticksTaken := s.manager.ticksTaken.insert i (taken + 1) } }
    let stageTimer := min 1048575 (r.stageTimer + 1)
    let graceTimer := if r.config.kind = .egress ∧ r.triggerLatch = true then min 1048575 (r.graceTimer + 1)
      else r.graceTimer
    let counter := if r.config.lifetimeSource = .age then min 4294967295 (r.lifetimeCounter + 1) else r.lifetimeCounter
    exec .tick s = .next { s with timebase := { s.timebase with
      tickCount := (s.timebase.tickCount + 1) % 2 ^ 48
      intervalPrescaler := s.timebase.prescaler
      issued := s.timebase.issued + 1 } } ∧
    (s.timebase.issued ≤ taken ∨ 8192 ≤ i → exec (.recordTick i) s = .next s) ∧
    (i < 8192 → taken < s.timebase.issued → s.manager.Canonical → r.state ≠ .live →
      exec (.recordTick i) s = .next counted) ∧
    (i < 8192 → taken < s.timebase.issued → r.state = .live →
      (r.config.lifetimeValue = 0 ∨ counter < r.config.lifetimeValue
        ∨ (r.config.kind = .egress ∧ r.triggerLatch = true) ∨ (r.config.kind = .ingress ∧ r.staleMark = true)) →
      (r.config.kind = .egress → r.stage = .lead → stageTimer < r.config.lead) →
      (r.config.kind = .egress → r.stage = .awaitKey ∨ r.stage = .lead ∨ r.stage = .awaitEvidence →
        r.config.grace = 0 ∨ graceTimer < r.config.grace) →
      (r.config.kind = .ingress → r.stage = .overlap → stageTimer < r.config.overlap) →
      exec (.recordTick i) s = .next (s.notify (counted.setRecord i { r with
        stageTimer := stageTimer, graceTimer := graceTimer, lifetimeCounter := counter })))

/-- What a due tick brings at a LIVE record that meets a comparison: the lifetime threshold, as a trigger in STEADY and DRAIN_OLD, and
as STALE_KEY; the lead expiry, as a switch, a key fault or AWAIT_EVIDENCE, with the grace expiry of the same tick after it; the grace
expiry, which halts, in AWAIT_KEY, LEAD and AWAIT_EVIDENCE; and the overlap expiry, which closes the OLD slot. -/
def Obligations.TickExpiries : Prop :=
  ∀ (s : State) (i : Nat), s.port.resetting = false → i < 8192 →
    let r := s.record i
    let g := r.config
    let k := r.currentSlot
    let new := r.slot (!k)
    let tick := s.timebase.tickCount
    let taken := (s.manager.ticksTaken.find i).getD 0
    let counted := { s with manager := { s.manager with ticksTaken := s.manager.ticksTaken.insert i (taken + 1) } }
    let gives := fun (c : Instr) (r' : Record) => exec c s = .next (s.notify (counted.setRecord i r'))
    let stageTimer := min 1048575 (r.stageTimer + 1)
    let graceTimer := min 1048575 (r.graceTimer + 1)
    let counter := if g.lifetimeSource = .age then min 4294967295 (r.lifetimeCounter + 1) else r.lifetimeCounter
    let advanced := { r with lifetimeCounter := counter, stageTimer := stageTimer }
    let latched := { advanced with graceTimer := graceTimer }
    let reached : Bool := decide (g.lifetimeValue ≠ 0 ∧ g.lifetimeValue ≤ counter)
    let graced : Bool := decide (g.grace ≠ 0 ∧ g.grace ≤ graceTimer)
    let halted := fun (q : Record) =>
      { q with state := .halted, haltReason := .graceExpired, causes := { q.causes with halted := true } }
    let stale := fun (q : Record) =>
      if reached ∧ r.staleMark = false then { q with staleMark := true, causes := { q.causes with staleKey := true } } else q
    let ended := stale { (r.setSlot (!k) (if new.inFlight = 0 then Slot.erased else { new with role := .closing })) with
      lifetimeCounter := counter, stage := if new.inFlight = 0 then .steady else .drainOld, stageTimer := 0 }
    taken < s.timebase.issued → r.state = .live →
    (g.kind = .egress → r.stage = .steady ∨ r.stage = .drainOld → r.triggerLatch = false → reached →
      gives (.lifetimeThreshold i) (advanced.ruleTrigger tick) ∧ gives (.recordTick i) (advanced.ruleTrigger tick)) ∧
    (g.kind = .ingress → r.staleMark = false → reached → r.stage ≠ .overlap ∨ stageTimer < g.overlap →
      gives (.lifetimeThreshold i) (stale advanced) ∧ gives (.recordTick i) (stale advanced)) ∧
    (g.kind = .egress → r.stage = .lead → r.triggerLatch = true → g.lead ≤ stageTimer →
      let led := latched.ruleLead tick
      let late : Bool := graced && (led.stage == .lead || led.stage == .awaitEvidence)
      let after := if late then halted led else led
      gives (.leadExpiry i) after ∧ gives (.recordTick i) after ∧ (late = true → gives (.graceExpiry i) after)) ∧
    (g.kind = .egress → r.stage = .awaitKey ∨ r.stage = .awaitEvidence ∨ (r.stage = .lead ∧ stageTimer < g.lead) →
      r.triggerLatch = true → graced → gives (.graceExpiry i) (halted latched) ∧ gives (.recordTick i) (halted latched)) ∧
    (g.kind = .ingress → r.stage = .overlap → g.overlap ≤ stageTimer →
      gives (.overlapExpiry i) ended ∧ gives (.recordTick i) ended ∧
      (reached → r.staleMark = false → gives (.lifetimeThreshold i) ended))

/-! ### Requests and messages at the records (chapters 1, 2, 4 and 7) -/

/-- An enqueue and a queued-frame withdrawal taken at their record: the queued frames gain or lose 1, a RETIRING record that is
drained becomes FREE, a flow command that waits for an enqueue waits for one fewer, and nothing else changes. A frame's own enqueue
is taken before its withdrawal, and of equal enqueues the oldest is taken (log entry 12): a withdrawal waits while the enqueues in
transit are all of the lane's QUEUED and withdrawn frames for the record. An enqueue waits at a record with 8,192 queued frames (log
entry 43). -/
def Obligations.EnqueueAndWithdrawal : Prop :=
  ∀ (s : State) (l : LaneId) (i : Nat), s.port.resetting = false →
    let r := s.record i
    let less := { r with queuedFrames := r.queuedFrames - 1 }
    let sent := s.transit.enqueues.count (l, i)
    let others := ((s.lane l).egress.buffer.filter
        (fun x => x.status == .queued && x.disposition == some (.protect i))).length + s.transit.withdrawals.count (l, i)
    ((l, i) ∈ s.transit.enqueues → r.queuedFrames < 8192 → exec (.enqueue l i) s = .next (s.notify ({ s with
      transit := { s.transit with enqueues := s.transit.enqueues.erase (l, i) }
      flowTurn := match s.flowTurn with
        | none => none
        | some (.waiting c awaited) => some (.waiting c (awaited.erase (l, i)))
        | some (.releasing c record awaited) => some (.releasing c record (awaited.erase (l, i))) }.setRecord i
        { r with queuedFrames := r.queuedFrames + 1 }))) ∧
    (8192 ≤ r.queuedFrames → exec (.enqueue l i) s = .next s) ∧
    ((l, i) ∈ s.transit.withdrawals → sent < others → exec (.queuedFrameWithdrawal l i) s = .next (s.notify
      ({ s with transit := { s.transit with withdrawals := s.transit.withdrawals.erase (l, i) } }.setRecord i
        (if r.state = RecordState.retiring ∧ r.queuedFrames - 1 = 0 ∧ r.slot0.inFlight = 0 ∧ r.slot1.inFlight = 0 then Record.free
         else less)))) ∧
    (others ≤ sent → exec (.queuedFrameWithdrawal l i) s = .next s)

/-- An allocation request refused: the first failing check of R27 gives the reason, the queued frames lose 1, frames refused gains
1, and a damaged CURRENT key is found before any number is assigned, which halts the record. The frame's own enqueue is taken first:
a request waits while the enqueues in transit are more than the lane's QUEUED entries for the record (log entry 12). -/
def Obligations.AllocationRefused : Prop :=
  ∀ (s : State) (l : LaneId) (i n : Nat), s.port.resetting = false →
    let v := s.lane l
    let r := s.record i
    let sl := r.slot r.currentSlot
    let refused := { r with
      queuedFrames := r.queuedFrames - 1
      counters := { r.counters with framesRefused := min 4294967295 (r.counters.framesRefused + 1) } }
    let gives := fun (why : AllocationRefusal) (r' : Record) => exec (.allocationRequest l) s = .next (s.notify
      ({ s with lanes := s.lanes.set l { v with egress := { v.egress with answer := some (.refused why) } } }.setRecord
        i r'))
    v.egress.request = some ⟨i, n⟩ → v.egress.answer = none →
    (s.queuedEntries l i < s.transit.enqueues.count (l, i) → exec (.allocationRequest l) s = .next s) ∧
    (s.transit.enqueues.count (l, i) ≤ s.queuedEntries l i →
    (r.state = .retiring → gives .retired
      (if refused.queuedFrames = 0 ∧ r.slot0.inFlight = 0 ∧ r.slot1.inFlight = 0 then Record.free else refused)) ∧
    (r.state = .staged → gives .notReady refused) ∧
    (r.state = .halted → gives .halted refused) ∧
    (r.state = .live → r.config.laneMask.getLsbD l.val = false → gives .wrongLane refused) ∧
    (r.state = .live → r.config.laneMask.getLsbD l.val = true → sl.checkCode ≠ Config.checkCode sl.key sl.salt →
      gives .keyFault { (refused.setSlot r.currentSlot { sl with role := .damaged }) with
        state := .halted, haltReason := .keyFault, causes := { r.causes with halted := true } }))

/-- An allocation request granted at a LIVE record: the CURRENT slot's next sequence number goes with its key, and rises by 1, its
in-flight gains 1, the queued frame leaves the queue, and n is credited; a threshold that is met while the latch is clear brings a
trigger in the record's stage; and after the last number, 2^48−1, a slot still CURRENT is exhausted: the record switches to a NEXT
whose key passes, and otherwise halts. With 8 frames in flight under the slot the request waits (log entry 43), and then a release
under that slot is in transit. -/
def Obligations.AllocationGranted : Prop :=
  ∀ (s : State) (l : LaneId) (i n : Nat), s.port.resetting = false →
    let v := s.lane l
    let r := s.record i
    let g := r.config
    let k := r.currentSlot
    let sl := r.slot k
    let tick := s.timebase.tickCount
    let number := sl.nextSequence
    let filled := r.octetRemainder + n
    let counter := if g.lifetimeSource = .octets ∧ 65536 ≤ filled then min 4294967295 (r.lifetimeCounter + 1)
      else r.lifetimeCounter
    let assigned := { (r.setSlot k { sl with nextSequence := number + 1, inFlight := sl.inFlight + 1 }) with
      queuedFrames := r.queuedFrames - 1
      lifetimeCounter := counter
      octetRemainder := match g.lifetimeSource with
        | .octets => if 65536 ≤ filled then filled - 65536 else filled
        | .age => r.octetRemainder }
    let met : Bool := decide (g.softThreshold ≤ number ∨ (g.lifetimeValue ≠ 0 ∧ g.lifetimeValue ≤ counter))
    let triggered := if met ∧ r.triggerLatch = false then assigned.ruleTrigger tick else assigned
    let halted := fun (q : Record) =>
      { q with state := .halted, haltReason := .seqExhausted, causes := { q.causes with halted := true } }
    let exhausted := fun (q : Record) =>
      let new := q.slot (!k)
      if new.role ≠ .next then halted q
      else if new.checkCode = Config.checkCode new.key new.salt then q.ruleSwitch tick
      else halted { (q.setSlot (!k) { new with role := .damaged }) with causes := { q.causes with keyFault := true } }
    let gives := fun (r' : Record) => exec (.allocationRequest l) s = .next (s.notify
      ({ s with lanes := s.lanes.set l { v with egress := { v.egress with
          answer := some (.granted ⟨i, k, sl.keyNumber, number, g.tag, g.confidential, sl.key, sl.salt⟩) } } }.setRecord
        i r'))
    v.egress.request = some ⟨i, n⟩ → v.egress.answer = none → s.transit.enqueues.count (l, i) ≤ s.queuedEntries l i →
    r.state = .live → g.laneMask.getLsbD l.val = true → sl.checkCode = Config.checkCode sl.key sl.salt →
    (sl.inFlight < 8 → number ≠ 2 ^ 48 - 1 → gives triggered) ∧
    (sl.inFlight < 8 → number = 2 ^ 48 - 1 → sl.role = .current →
      gives (if triggered.currentSlot = k then exhausted triggered else triggered)) ∧
    (8 ≤ sl.inFlight → exec (.allocationRequest l) s = .next s ∧
      (s.CountsExact → g.kind = .egress → ∃ m ∈ s.transit.releases, m.record = i ∧ m.slot = k))

/-- A release and an abandon taken at their record, in every state and stage: the counter of the outcome, the end of the frame's
grant under its slot, which erases a CLOSING slot that it empties and ends DRAIN_OLD, a pending trigger taken then, and a drained
RETIRING record FREE. -/
def Obligations.ReleaseAndAbandon : Prop :=
  ∀ (s : State) (k : SlotNo) (i n : Nat) (outcome : ReleaseOutcome) (why : AbandonReason), s.port.resetting = false →
    let r := s.record i
    let left := (r.slot k).inFlight - 1
    let ended := fun (q : Record) =>
      let emptied := q.setSlot k Slot.erased
      let steady := { emptied with stage := .steady, stageTimer := 0 }
      if (r.slot k).role = .closing ∧ left = 0 then
        if r.stage ≠ .drainOld then emptied
        else if r.config.kind = .egress ∧ r.state = .live ∧ r.pendingTrigger = true then
          { steady with pendingTrigger := false }.ruleTrigger s.timebase.tickCount
        else steady
      else q.setSlot k { r.slot k with inFlight := left }
    let drained := fun (q : Record) =>
      if q.state = .retiring ∧ q.queuedFrames = 0 ∧ q.slot0.inFlight = 0 ∧ q.slot1.inFlight = 0 then Record.free else q
    ((⟨i, k, outcome, n⟩ : ReleaseMsg) ∈ s.transit.releases → exec (.release ⟨i, k, outcome, n⟩) s = .next (s.notify
      ({ s with transit := { s.transit with releases := s.transit.releases.erase ⟨i, k, outcome, n⟩ } }.setRecord i
        (drained (ended { r with counters := match outcome with
          | .completed => { r.counters with
              framesProtected := min 18446744073709551615 (r.counters.framesProtected + 1)
              octetsProtected := min 18446744073709551615 (r.counters.octetsProtected + n) }
          | .aborted => r.counters }))))) ∧
    ((⟨i, k, why⟩ : AbandonMsg) ∈ s.transit.abandons → exec (.abandon ⟨i, k, why⟩) s = .next (s.notify
      ({ s with transit := { s.transit with abandons := s.transit.abandons.erase ⟨i, k, why⟩ } }.setRecord i
        (drained (ended { r with counters := match why with
          | .badTag => { r.counters with badTag := min 4294967295 (r.counters.badTag + 1) }
          | .abort => r.counters })))))

/-- A lookup refused, by the first of the checks of R116 that fails: an absent tag, a STAGED record, a lane outside the mask, a C
that differs, no eligible slot under the key number, and the window's LATE and REPLAY, with the counters that R23 names. -/
def Obligations.LookupRefused : Prop :=
  ∀ (s : State) (l : LaneId) (j : StoreId) (f : FrameStore) (octets : Frame) (h : EnvelopeFields) (i : Nat),
    s.port.resetting = false → s.manager.Canonical → (s.lane l).ingress.store j = some f →
    f.status = .lookup octets h none →
    let v := s.lane l
    let r := s.record i
    let g := r.config
    let found := s.manager.tagIndex.find h.tag.toNat
    let gives := fun (why : LookupRefusal) (u : State) => exec (.lookup l j) s = .next (s.notify { u with
      lanes := s.lanes.set l { v with ingress := { v.ingress with
        stores := v.ingress.stores.set j (some { f with status := .lookup octets h (some (.refused why)) }) } } })
    let eligible := fun (k : SlotNo) => (r.slot k).keyNumber = h.keyNumber ∧
      ((r.state = .live ∧ ((r.slot k).role = .current ∨ (r.stage = .armed ∧ (r.slot k).role = .next)
          ∨ (r.stage = .overlap ∧ (r.slot k).role = .old))) ∨ (r.state = .halted ∧ (r.slot k).role = .next))
    (found = none → gives .unknownTag s) ∧
    (found = some i → r.state = .staged → gives .notReady s) ∧
    (found = some i → r.state = .live ∨ r.state = .halted →
      (g.laneMask.getLsbD l.val = false → gives .wrongLane s) ∧
      (g.laneMask.getLsbD l.val = true → h.confidential ≠ g.confidential → gives .badHeader s) ∧
      (g.laneMask.getLsbD l.val = true → h.confidential = g.confidential → (∀ k, ¬ eligible k) → gives .noKey
        (s.setRecord i { r with counters := { r.counters with noKey := min 4294967295 (r.counters.noKey + 1) } })) ∧
      (g.laneMask.getLsbD l.val = true → h.confidential = g.confidential → ∀ k, eligible k → ¬ eligible (!k) →
        (h.sequence ≤ (r.slot k).highest → h.sequence < max 1 ((r.slot k).highest - g.window) → gives .late
          (s.setRecord i { r with counters := { r.counters with late := min 4294967295 (r.counters.late + 1) } })) ∧
        (h.sequence ≤ (r.slot k).highest → max 1 ((r.slot k).highest - g.window) ≤ h.sequence →
          h.sequence ∈ (r.slot k).accepted → gives .replay
          (s.setRecord i { r with counters := { r.counters with replay := min 4294967295 (r.counters.replay + 1) } }))))

/-- A lookup that passes the checks and the window under the one eligible slot of its key number: the slot's key and salt are
granted and its in-flight gains 1; or its key is found damaged, by the slot's role, and the lookup refused NO_KEY. With 16 frames in
flight under the slot a lookup that would be granted waits (log entry 43), and then an abandon under that slot is in transit. -/
def Obligations.LookupGranted : Prop :=
  ∀ (s : State) (l : LaneId) (j : StoreId) (f : FrameStore) (octets : Frame) (h : EnvelopeFields) (i : Nat) (k : SlotNo),
    s.port.resetting = false → (s.lane l).ingress.store j = some f → f.status = .lookup octets h none →
    s.manager.tagIndex.find h.tag.toNat = some i →
    let v := s.lane l
    let r := s.record i
    let sl := r.slot k
    let gives := fun (a : LookupAnswer) (r' : Record) => exec (.lookup l j) s = .next (s.notify ({ s with
      lanes := s.lanes.set l { v with ingress := { v.ingress with
        stores := v.ingress.stores.set j (some { f with status := .lookup octets h (some a) }) } } }.setRecord i r'))
    let counted := { r with counters := { r.counters with noKey := min 4294967295 (r.counters.noKey + 1) } }
    let eligible := fun (k : SlotNo) => (r.slot k).keyNumber = h.keyNumber ∧
      ((r.state = .live ∧ ((r.slot k).role = .current ∨ (r.stage = .armed ∧ (r.slot k).role = .next)
          ∨ (r.stage = .overlap ∧ (r.slot k).role = .old))) ∨ (r.state = .halted ∧ (r.slot k).role = .next))
    r.config.laneMask.getLsbD l.val = true → h.confidential = r.config.confidential → eligible k → ¬ eligible (!k) →
    (sl.highest < h.sequence ∨ (max 1 (sl.highest - r.config.window) ≤ h.sequence ∧ h.sequence ∉ sl.accepted)) →
    (sl.checkCode = Config.checkCode sl.key sl.salt → sl.inFlight < 16 → gives (.granted ⟨i, k, sl.key, sl.salt⟩)
      (r.setSlot k { sl with inFlight := sl.inFlight + 1 })) ∧
    (sl.checkCode = Config.checkCode sl.key sl.salt → 16 ≤ sl.inFlight → exec (.lookup l j) s = .next s ∧
      (s.CountsExact → r.config.kind = .ingress → ∃ m ∈ s.transit.abandons, m.record = i ∧ m.slot = k)) ∧
    (sl.checkCode ≠ Config.checkCode sl.key sl.salt → sl.role = .current → gives (.refused .noKey)
      { (counted.setSlot k { sl with role := .damaged }) with
        state := .halted, haltReason := .keyFault, causes := { r.causes with halted := true } }) ∧
    (sl.checkCode ≠ Config.checkCode sl.key sl.salt → sl.role = .next → gives (.refused .noKey)
      { (counted.setSlot k { sl with role := .damaged }) with causes := { r.causes with keyFault := true } }) ∧
    (sl.checkCode ≠ Config.checkCode sl.key sl.salt → sl.role = .old → gives (.refused .noKey)
      { (counted.setSlot k (if sl.inFlight = 0 then Slot.erased else { sl with role := .closing })) with
        stage := if sl.inFlight = 0 then .steady else .drainOld, stageTimer := 0
        causes := { r.causes with keyFault := true } })

/-- A commit refused, under a slot of any role: RETIRED at a RETIRING record, NO_KEY under a DAMAGED slot, LATE and REPLAY by the
window, each with its counter; the window stays as it was, and the frame's grant ends, which erases a CLOSING slot that it empties
and ends DRAIN_OLD. -/
def Obligations.CommitRefused : Prop :=
  ∀ (s : State) (l : LaneId) (j : StoreId) (f : FrameStore) (octets : Frame) (h : EnvelopeFields) (grant : IngressGrant)
    (plaintext : List Byte), s.port.resetting = false → (s.lane l).ingress.store j = some f →
    f.status = .committing octets h grant plaintext none →
    let v := s.lane l
    let k := grant.slot
    let r := s.record grant.record
    let sl := r.slot k
    let ended :=
      if sl.role = .closing ∧ sl.inFlight - 1 = 0 then
        if r.stage = .drainOld then { (r.setSlot k Slot.erased) with stage := .steady, stageTimer := 0 }
        else r.setSlot k Slot.erased
      else r.setSlot k { sl with inFlight := sl.inFlight - 1 }
    let gives := fun (a : CommitAnswer) (r' : Record) => exec (.commit l j) s = .next (s.notify ({ s with
      lanes := s.lanes.set l { v with ingress := { v.ingress with
        stores := v.ingress.stores.set j (some { f with
          status := .committing octets h grant plaintext (some a) }) } } }.setRecord grant.record r'))
    let above := sl.highest < h.sequence
    let inWindow := max 1 (sl.highest - r.config.window) ≤ h.sequence
    (r.state = .retiring → gives .retired
      (if ended.queuedFrames = 0 ∧ ended.slot0.inFlight = 0 ∧ ended.slot1.inFlight = 0 then Record.free else ended)) ∧
    (r.state ≠ .retiring → sl.role = .damaged → gives .noKey
      { ended with counters := { r.counters with noKey := min 4294967295 (r.counters.noKey + 1) } }) ∧
    (r.state ≠ .retiring → sl.role ≠ .damaged → (sl.role = .closing → r.config.kind = .ingress) → ¬ above → ¬ inWindow →
      gives .late { ended with counters := { r.counters with late := min 4294967295 (r.counters.late + 1) } }) ∧
    (r.state ≠ .retiring → sl.role ≠ .damaged → (sl.role = .closing → r.config.kind = .ingress) → ¬ above → inWindow →
      h.sequence ∈ sl.accepted →
      gives .replay { ended with counters := { r.counters with replay := min 4294967295 (r.counters.replay + 1) } })

/-- A commit accepted: the number enters the slot's window as R119 says, the record counts the frame, and its grant ends. Under the
CURRENT slot of a LIVE record the octets are credited, with STALE_KEY where the credit meets the lifetime; under OLD and CLOSING
nothing is; and under NEXT the record first makes the ingress switch with the frame's number as capture, with evidence to every
record that names it. That under source AGE, which credits nothing, no STALE_KEY is evaluated here is deduced (log entry 13). -/
def Obligations.CommitAccepted : Prop :=
  ∀ (s : State) (l : LaneId) (j : StoreId) (f : FrameStore) (octets : Frame) (h : EnvelopeFields) (grant : IngressGrant)
    (plaintext : List Byte), s.port.resetting = false → (s.lane l).ingress.store j = some f →
    f.status = .committing octets h grant plaintext none →
    let v := s.lane l
    let i := grant.record
    let k := grant.slot
    let r := s.record i
    let sl := r.slot k
    let old := r.slot (!k)
    let n := deliveredCount octets
    let counted := { r.counters with
      framesAccepted := min 18446744073709551615 (r.counters.framesAccepted + 1)
      octetsAccepted := min 18446744073709551615 (r.counters.octetsAccepted + n) }
    let windowed := fun (t : Slot) =>
      t.highest = max sl.highest h.sequence ∧
      (∀ x, x ∈ t.accepted ↔ (x = h.sequence ∨ x ∈ sl.accepted) ∧
        (sl.highest < h.sequence → h.sequence - r.config.window ≤ x)) ∧
      t = { sl with highest := t.highest, accepted := t.accepted, inFlight := sl.inFlight - 1 }
    let credited := fun (q : Record) => match q.config.lifetimeSource with
      | .age => q
      | .octets =>
        let filled := q.octetRemainder + n
        let counter := if 65536 ≤ filled then min 4294967295 (q.lifetimeCounter + 1) else q.lifetimeCounter
        let credit := { q with
          lifetimeCounter := counter, octetRemainder := if 65536 ≤ filled then filled - 65536 else filled }
        if q.config.lifetimeValue ≠ 0 ∧ q.config.lifetimeValue ≤ counter ∧ q.staleMark = false then
          { credit with staleMark := true, causes := { q.causes with staleKey := true } }
        else credit
    let keeps : Bool := decide (old.role ≠ .damaged ∧ r.config.overlap ≠ 0)
    let named := (s.manager.records.filter (fun p =>
      p.2.config.kind == .egress && p.2.config.companion == some i)).map Prod.fst
    let gives := fun (r' : Record) (evidence : List (Nat × Nat)) => exec (.commit l j) s = .next (s.notify ({ s with
      transit := { s.transit with evidence := s.transit.evidence ++ evidence }
      lanes := s.lanes.set l { v with ingress := { v.ingress with
        stores := v.ingress.stores.set j (some { f with
          status := .committing octets h grant plaintext (some .accepted) }) } } }.setRecord i r'))
    (sl.highest < h.sequence ∨ (max 1 (sl.highest - r.config.window) ≤ h.sequence ∧ h.sequence ∉ sl.accepted)) →
    (r.state = .live → sl.role = .current → ∃ t, windowed t ∧
      gives { credited (r.setSlot k t) with counters := counted } []) ∧
    (r.state ≠ .retiring → sl.role = .old → ∃ t, windowed t ∧ gives { (r.setSlot k t) with counters := counted } []) ∧
    (r.state ≠ .retiring → r.config.kind = .ingress → sl.role = .closing → ∃ t, windowed t ∧ gives
      { (if 1 < sl.inFlight then r.setSlot k t
         else if r.stage = .drainOld then { (r.setSlot k Slot.erased) with stage := .steady, stageTimer := 0 }
         else r.setSlot k Slot.erased) with counters := counted } []) ∧
    (r.state = .live ∨ r.state = .halted → r.config.kind = .ingress → sl.role = .next → r.currentSlot = !k →
      ∃ t, windowed t ∧
      gives { credited { ((r.setSlot k { t with role := .current }).setSlot (!k)
          (if keeps then { old with role := .old }
           else if old.inFlight = 0 then Slot.erased else { old with role := .closing })) with
        currentSlot := k, switchCapture := h.sequence, switchTick := s.timebase.tickCount % 2 ^ 32
        lifetimeCounter := 0, octetRemainder := 0, staleMark := false, stageTimer := 0
        switchCount := min 65535 (r.switchCount + 1), causes := { r.causes with switched := true }
        stage := if keeps then .overlap else if old.inFlight = 0 then .steady else .drainOld
        state := .live, haltReason := if r.state = .halted then .none else r.haltReason } with counters := counted }
        (named.map (fun e => (i, e))))

/-- An evidence arrival: at an EGRESS record in STAGED, LIVE or HALTED that names the sender it sets the flag, and in LIVE and
AWAIT_EVIDENCE with a NEXT whose key passes it makes the switch; there a DAMAGED NEXT makes none, and one whose key fails is
DAMAGED with KEY_FAULT, the flag staying set; at any other record it is taken with no effect. -/
def Obligations.EvidenceArrival : Prop :=
  ∀ (s : State) (sender i : Nat), s.port.resetting = false → (sender, i) ∈ s.transit.evidence →
    let r := s.record i
    let k := r.currentSlot
    let old := r.slot k
    let new := r.slot (!k)
    let taken := { s with transit := { s.transit with evidence := s.transit.evidence.erase (sender, i) } }
    let gives := fun (u : State) => exec (.evidenceArrival sender i) s = .next (s.notify u)
    let takes := r.config.kind = .egress ∧ r.inUse ∧ r.config.companion = some sender
    (s.manager.Canonical → ¬ takes → gives taken) ∧
    (takes → ¬ (r.state = .live ∧ r.stage = .awaitEvidence) → gives (taken.setRecord i { r with evidence := true })) ∧
    (takes → r.state = .live → r.stage = .awaitEvidence → new.role ≠ .next →
      gives (taken.setRecord i { r with evidence := true })) ∧
    (takes → r.state = .live → r.stage = .awaitEvidence → new.role = .next →
      new.checkCode ≠ Config.checkCode new.key new.salt →
      gives (taken.setRecord i { (r.setSlot (!k) { new with role := .damaged }) with
        evidence := true, causes := { r.causes with keyFault := true } })) ∧
    (takes → r.state = .live → r.stage = .awaitEvidence → new.role = .next →
      new.checkCode = Config.checkCode new.key new.salt →
      gives (taken.setRecord i { ((r.setSlot (!k) { new with role := .current, nextSequence := 1 }).setSlot k
          (if old.inFlight = 0 then Slot.erased else { old with role := .closing })) with
        currentSlot := !k, switchCapture := old.nextSequence - 1, switchTick := s.timebase.tickCount % 2 ^ 32
        lifetimeCounter := 0, octetRemainder := 0, stageTimer := 0, graceTimer := 0, triggerLatch := false
        pendingTrigger := false, evidence := false, switchCount := min 65535 (r.switchCount + 1)
        causes := { r.causes with switched := true }
        stage := if old.inFlight = 0 then .steady else .drainOld }))

/-! ### The Egress Engine (chapter 6) -/

/-- An octet of an outbound frame: the first opens a RECEIVING entry, the first of each cell claims the cell, and with no cell free
the frame is dropped BUFFER_FULL and its cells returned. A change of the occupancy is an event at the pause generator, which
asserts at H_m and clears below L_m. That a first octet while a frame is in reception leaves the state as it is, and that the state
of the system link is not read, is the model's choice (log entries 1 and 38); that the octets past the 72nd cell are kept is deduced (log entry 28). -/
def Obligations.CellClaim : Prop :=
  ∀ (s : State) (l : LaneId) (b : Byte), s.port.resetting = false →
    let v := s.lane l
    let e := v.egress
    let g := v.control.config
    let cells := fun (x : Entry) => min 72 ((x.octets.length + 127) / 128)
    let occupancy := fun (q : List Entry) => (q.map cells).sum
    let holding := fun (q : List Entry) =>
      let e' := { e with buffer := q }
      if occupancy q = occupancy e.buffer then e'
      else if v.control.mode = .off then { e' with asserted := false, refresh := none, waitingPause := none }
      else if e.asserted = false ∧ g.highMark ≤ occupancy q then
        { e' with asserted := true, waitingPause := some g.quanta }
      else if e.asserted = true ∧ occupancy q < g.lowMark then
        { e' with asserted := false, waitingPause := some 0, refresh := none }
      else e'
    let gives := fun (first : Bool) (w : Lane) =>
      exec (.cellClaim l first b) s = .next { s with lanes := s.lanes.set l w }
    let full := fun (q : List Entry) => Lane.countOut { v with egress := holding q } .bufferFull
    ((∀ x ∈ e.buffer, x.status ≠ .receiving) →
      (occupancy e.buffer < 2048 → gives true { v with egress := holding (e.buffer ++ [⟨.receiving, [b], none⟩]) }) ∧
      (2048 ≤ occupancy e.buffer → gives true (full e.buffer)) ∧
      exec (.cellClaim l false b) s = .next s) ∧
    (∀ (older : List Entry) (x : Entry), e.buffer = older ++ [x] → (∀ y ∈ older, y.status ≠ .receiving) →
      x.status = .receiving →
      let claims : Prop := x.octets.length % 128 = 0 ∧ cells x < 72
      exec (.cellClaim l true b) s = .next s ∧
      (claims → 2048 ≤ occupancy e.buffer → gives false (full older)) ∧
      (¬ (claims ∧ 2048 ≤ occupancy e.buffer) →
        gives false { v with egress := holding (older ++ [{ x with octets := x.octets ++ [b] }]) }))

/-- The receive completion of an outbound frame: the checks of R93 in order, a MAC control frame consumed, and any other disposed of
by the lane mode: OFF drops it, CLEAR bypasses it, PROTECT and LOOPTEST classify it by its flow key, counting the hit and sending
a PROTECT frame's enqueue. -/
def Obligations.EgressReceiveCompletion : Prop :=
  ∀ (s : State) (l : LaneId) (older : List Entry) (x : Entry), s.port.resetting = false →
    (s.lane l).egress.buffer = older ++ [x] → (∀ y ∈ older, y.status ≠ .receiving) → x.status = .receiving →
    let v := s.lane l
    let e := v.egress
    let f := x.octets
    let gives := fun (u : State) => exec (.egressReceiveCompletion l) s = .next u
    let left := v.afterBuffer { e with buffer := older }
    let drop := fun why => s.lanes.set l (left.countOut why)
    let queue := fun d => s.lanes.set l { v with egress := { e with
      buffer := older ++ [{ x with status := .queued, disposition := some d }] } }
    let passes := 64 ≤ f.length ∧ fcsMatches f = true ∧ f.length ≤ v.control.config.maxFrame
    (f.length < 64 → gives { s with lanes := drop .runt }) ∧
    (64 ≤ f.length → fcsMatches f = false → gives { s with lanes := drop .badFcs }) ∧
    (64 ≤ f.length → fcsMatches f = true → v.control.config.maxFrame < f.length →
      gives { s with lanes := drop .tooLong }) ∧
    (passes → fieldAt f 12 2 = 0x8808 → gives { s with lanes := s.lanes.set l { left with ingress := { v.ingress with
      indications := v.ingress.indications ++ (if fieldAt f 14 2 = 1 then [fieldAt f 16 2] else []) } } }) ∧
    (passes → fieldAt f 12 2 ≠ 0x8808 → v.control.mode = .off → gives { s with lanes := drop .laneOff }) ∧
    (passes → fieldAt f 12 2 ≠ 0x8808 → v.control.mode = .clear → gives { s with lanes := queue .bypass }) ∧
    (passes → fieldAt f 12 2 ≠ 0x8808 → v.control.mode = .protect ∨ v.control.mode = .looptest →
      let key : FlowKey := {
        lane := l
        destination := BitVec.ofNat 48 (fieldAt f 0 6)
        vlan := if fieldAt f 12 2 = 0x8100 then some (BitVec.ofNat 12 (fieldAt f 14 2)) else none }
      let hit := s.flowMap.map (fun n => if n.key = key then { n with hits := min 4294967295 (n.hits + 1) } else n)
      let found := s.flowMap.find? (fun n => n.key == key)
      (found = none → v.control.config.defaultAction = .bypass → gives { s with lanes := queue .bypass }) ∧
      (found = none → v.control.config.defaultAction = .discard → gives { s with lanes := drop .discard }) ∧
      (∀ n, found = some n → n.action = .bypass → gives { s with flowMap := hit, lanes := queue .bypass }) ∧
      (∀ n, found = some n → n.action = .discard → gives { s with flowMap := hit, lanes := drop .discard }) ∧
      (∀ n i, found = some n → n.action = .protect i → gives { s with
        flowMap := hit, lanes := queue (.protect i)
        transit := { s.transit with enqueues := s.transit.enqueues ++ [(l, i)] } }))

/-- The QUEUED head taken: LANE_OFF in OFF and LINK_DOWN with the line down drop it, a PROTECT head with a withdrawal; a running
line-side pause, no FREE store and an outstanding request make it wait; else a BYPASS head is HELD as it was received, and a
PROTECT head becomes REQUESTED with its store RESERVED and its request sent. That of two FREE stores the lower-numbered is taken, and
that the row comes when the queue has it and reads what then stands, is the model's choice (log entries 11 and 40). -/
def Obligations.HeadTaken : Prop :=
  ∀ (s : State) (l : LaneId) (x : Entry) (rest : List Entry), s.port.resetting = false →
    (s.lane l).egress.buffer = x :: rest → x.status = .queued →
    let v := s.lane l
    let e := v.egress
    let m := v.control.mode
    let gives := fun (u : State) => exec (.headTaken l) s = .next u
    let dropped := fun why => { s with
      lanes := s.lanes.set l ((v.afterBuffer { e with buffer := rest }).countOut why)
      transit := { s.transit with withdrawals := s.transit.withdrawals ++
        (match x.disposition with | some (.protect i) => [(l, i)] | _ => []) } }
    let toLine := m = .clear ∨ m = .protect
    let starts := m = .looptest ∨ (toLine ∧ v.control.lineUp = true ∧ e.linePause = none)
    let destination : Destination := if m = .looptest then .loop else .line
    (m = .off → gives (dropped .laneOff)) ∧
    (toLine → v.control.lineUp = false → gives (dropped .linkDown)) ∧
    (toLine → v.control.lineUp = true → e.linePause ≠ none → gives s) ∧
    (starts → e.store0 ≠ .free → e.store1 ≠ .free → gives s) ∧
    (starts → ∀ i k d, x.disposition = some (.protect i) → e.store k = .reserved d → gives s) ∧
    (starts → ∀ k : SlotNo, e.store k = .free → (k = true → e.store0 ≠ .free) →
      (x.disposition = some .bypass → gives { s with lanes := s.lanes.set l (v.afterBuffer
        ({ e with buffer := rest, youngest := k }.setStore k (.held ⟨x.octets, destination, none, 0⟩))) }) ∧
      (∀ i, x.disposition = some (.protect i) → (∀ k' d, e.store k' ≠ .reserved d) →
        let octets := x.octets.length - 12 - (if fieldAt x.octets 12 2 = 0x8100 then 4 else 0) - 4
        let asking := { e with
          buffer := { x with status := .requested } :: rest, youngest := k, request := some ⟨i, octets⟩ }
        gives { s with lanes := s.lanes.set l { v with egress := asking.setStore k (.reserved destination) } }))

/-- The answer to an allocation request at the engine: a refusal drops the REQUESTED frame and counts its reason; a grant makes the
store HELD with the frame sealed under it; a grant whose frame a restart has removed, or whose line is down, is ABORTED at once
with its release. In every case the request is settled. -/
def Obligations.AllocationAnswerTaken : Prop :=
  ∀ (s : State) (l : LaneId) (a : AllocationAnswer) (q : AllocationRequest) (k : SlotNo) (d : Destination),
    s.port.resetting = false → (s.lane l).egress.answer = some a → (s.lane l).egress.request = some q →
    (s.lane l).egress.store k = .reserved d → (k = true → ∀ d', (s.lane l).egress.store0 ≠ .reserved d') →
    let v := s.lane l
    let e := v.egress
    let gives := fun (w : Lane) (sent : List ReleaseMsg) => exec (.allocationAnswer l) s = .next { s with
      lanes := s.lanes.set l w
      transit := { s.transit with releases := s.transit.releases ++ sent } }
    let settled := fun (b : List Entry) (t : TransmitStore) =>
      v.afterBuffer ({ e with buffer := b, request := none, answer := none }.setStore k t)
    let counter : AllocationRefusal → OutCounter := fun why => match why with
      | .retired => .retired
      | .notReady => .notReady
      | .halted => .halted
      | .wrongLane => .wrongLane
      | .keyFault => .keyFault
    (∀ x rest, e.buffer = x :: rest → x.status = .requested →
      (∀ why, a = .refused why → gives ((settled rest .free).countOut (counter why)) []) ∧
      (∀ g, a = .granted g → (d = .loop ∨ v.control.lineUp = true) → gives (settled rest
        (.held ⟨sealFrame s.port.envelopeType g x.octets, d, some g, q.protectedOctets⟩)) []) ∧
      (∀ g, a = .granted g → d = .line → v.control.lineUp = false →
        gives ((settled rest .free).countOut .aborted) [⟨g.record, g.slot, .aborted, q.protectedOctets⟩])) ∧
    ((∀ x rest, e.buffer = x :: rest → x.status ≠ .requested) →
      (∀ why, a = .refused why → gives ((settled e.buffer .free).countOut (counter why)) []) ∧
      (∀ g, a = .granted g →
        gives ((settled e.buffer .free).countOut .aborted) [⟨g.record, g.slot, .aborted, q.protectedOctets⟩]))

/-- Transmission: with no frame SENDING, the older HELD frame begins, to the line while the line-side pause is idle, and to the loop
into the lowest FREE ingress store, which the loop handover start is; its completion counts the frame, frees the store, and
sends a granted frame's release COMPLETED; a loop frame's is its receive completion at the Ingress Engine too. The lowest of the
FREE ingress stores (log entry 11), and one event for the beginnings and the ends of a loop frame at the two engines (log entry
15), are the model's choice. -/
def Obligations.TransmissionBeginsAndCompletes : Prop :=
  ∀ (s : State) (l : LaneId) (k : SlotNo) (f : StoredFrame), s.port.resetting = false →
    let v := s.lane l
    let e := v.egress
    let gives := fun (c : Instr) (w : Lane) => exec c s = .next { s with lanes := s.lanes.set l w }
    let sent := f.grant.toList.map (fun g => (⟨g.record, g.slot, .completed, f.protectedOctets⟩ : ReleaseMsg))
    let finished := Lane.countOut { v with egress := e.setStore k .free } .framesPassed
    (e.store k = .held f → (∀ f', e.store (!k) ≠ .sending f') → (∀ f', e.store (!k) = .held f' → e.youngest = !k) →
      (f.destination = .line → e.linePause = none →
        gives (.transmissionBegin l) { v with egress := e.setStore k (.sending f) }) ∧
      (f.destination = .line → e.linePause ≠ none → exec (.transmissionBegin l) s = .next s) ∧
      (f.destination = .loop → ∀ j : StoreId, v.ingress.store j = none → (∀ m, m < j → v.ingress.store m ≠ none) →
        (∀ m z, v.ingress.store m ≠ some ⟨.loop, z, .receiving⟩) →
        let w := { v with
          egress := e.setStore k (.sending f)
          ingress := { v.ingress with
            stores := v.ingress.stores.set j (some ⟨.loop, false, .receiving⟩), ages := v.ingress.ages ++ [j] } }
        gives (.transmissionBegin l) w ∧ gives (.loopHandoverStart l) w)) ∧
    (e.store k = .sending f → (k = true → ∀ f', e.store0 ≠ .sending f') →
      exec (.transmissionBegin l) s = .next s ∧
      (f.destination = .line → exec (.transmissionCompletion l) s = .next { s with
        lanes := s.lanes.set l { finished with lastLineFrame := some f.octets }
        transit := { s.transit with releases := s.transit.releases ++ sent } }) ∧
      (f.destination = .loop → ∀ j : StoreId, (∃ z, v.ingress.store j = some ⟨.loop, z, .receiving⟩) →
        (∀ m z, m < j → v.ingress.store m ≠ some ⟨.loop, z, .receiving⟩) →
        let t := { s with
          lanes := s.lanes.set l (finished.completeInbound s.port.envelopeType (some j) .loop f.octets)
          transit := { s.transit with releases := s.transit.releases ++ sent } }
        exec (.transmissionCompletion l) s = .next t ∧ exec (.ingressReceiveCompletion l .loop) s = .next t))

/-- Pause: an indication loads its timer, ignored on the line side in LOOPTEST, and the expiry of a timer run down idles it; a refresh
expiry sets a waiting pause frame of Q, or, below L_m, QUIET with one of 0, and in OFF QUIET with none; and the waiting frame is
sent as the 64-octet PAUSE frame of R106 while no frame is being delivered and the system link is up. The model's choice are: that a
running timer counts its quanta on the empty queue and waits at 0 for its expiry (log entry 9); that a refresh timer which stands
past an interval lowered under it expires as one that stands at it does (log entry 32); that the frame carries the value set when it
began to wait, whatever Q has become since (log entry 41); and the record of the last frame sent (log entry 21). -/
def Obligations.PauseEvents : Prop :=
  ∀ (s : State) (l : LaneId), s.port.resetting = false →
    let v := s.lane l
    let e := v.egress
    let i := v.ingress
    let g := v.control.config
    let timer := fun (q : Nat) => if q = 0 then none else some q
    let gives := fun (c : Instr) (w : Lane) => exec c s = .next { s with lanes := s.lanes.set l w }
    let occupancy := (e.buffer.map (fun x => min 72 ((x.octets.length + 127) / 128))).sum
    (∀ q rest, e.indications = q :: rest → gives (.linePauseIndication l) { v with egress := { e with
      indications := rest, linePause := if v.control.mode = .looptest then e.linePause else timer q } }) ∧
    (∀ q rest, i.indications = q :: rest → gives (.systemPauseIndication l) { v with ingress := { i with
      indications := rest, systemPause := timer q } }) ∧
    (e.linePause = some 0 → gives (.linePauseExpiry l) { v with egress := { e with linePause := none } }) ∧
    (i.systemPause = some 0 → gives (.systemPauseExpiry l) { v with ingress := { i with systemPause := none } }) ∧
    (∀ n, e.asserted = true → e.refresh = some n → max 1 (g.quanta / 2) ≤ n →
      gives (.refreshExpiry l) { v with egress :=
        if v.control.mode = .off then { e with asserted := false, waitingPause := none, refresh := none }
        else if g.lowMark ≤ occupancy then { e with waitingPause := some g.quanta, refresh := none }
        else { e with asserted := false, waitingPause := some 0, refresh := none } }) ∧
    (∀ q, e.waitingPause = some q → v.control.systemUp = true → i.sending = false → ∃ frame : Frame,
      gives (.pauseFrameSend l) (Lane.countOut { v with
        egress := { e with waitingPause := none, refresh := if q = 0 then none else some 0 }
        lastSystemFrame := some frame } .pauseFramesSent) ∧
      frame.length = 64 ∧ fcsMatches frame = true ∧ fieldAt frame 0 6 = 0x0180C2000001 ∧ fieldAt frame 6 6 = 0 ∧
      fieldAt frame 12 2 = 0x8808 ∧ fieldAt frame 14 2 = 1 ∧ (q < 65536 → fieldAt frame 16 2 = q) ∧
      fieldAt frame 18 42 = 0) ∧
    (∀ q, e.waitingPause = some q → v.control.systemUp = false ∨ i.sending = true →
      exec (.pauseFrameSend l) s = .next s)

/-! ### The Ingress Engine (chapter 7) -/

/-- Reception: the first octet of a line frame claims the lowest FREE store in CLEAR and PROTECT; at the receive completion the
checks of R112 to R115 run in order, each failure with its counter and its store FREE, and a frame that passes is consumed as MAC
control, READY as a clear frame, or sent to LOOKUP with its header's fields; and the same for a loop frame, by the mode read then,
whose receive completion is the Egress Engine's transmission completion. The start rows hold whatever state the line link is held
in, the model's choice (log entry 38). The lowest of the FREE stores is the model's choice (log
entry 11), and so is one event for the two ends of a loop frame (log entry 15). -/
def Obligations.LineReception : Prop :=
  ∀ (s : State) (l : LaneId) (f : Frame), s.port.resetting = false →
    let v := s.lane l
    let i := v.ingress
    let m := v.control.mode
    let start := fun (j : IngressEngine) => exec (.lineFrameStart l) s = .next { s with
      lanes := s.lanes.set l { v with ingress := j } }
    (i.receiver = .idle →
      ((m = .off ∨ m = .looptest ∨ ∀ j, i.store j ≠ none) → start { i with receiver := .receiving none }) ∧
      (m = .clear ∨ m = .protect → ∀ j : StoreId, i.store j = none → (∀ n, n < j → i.store n ≠ none) →
        start { i with
          stores := i.stores.set j (some ⟨.line, false, .receiving⟩), ages := i.ages ++ [j]
          receiver := .receiving (some j) })) ∧
    (∀ store : Option StoreId, i.receiver = .receiving store →
      let heard := { v with ingress := { i with receiver := .idle } }
      let freed := match store with
        | some j => { heard with ingress := { i with
            receiver := .idle, stores := i.stores.set j none, ages := i.ages.filter (fun n => n ≠ j) } }
        | none => heard
      let kept := fun (st : StoreStatus) => match store with
        | some j => { heard with ingress := { i with
            receiver := .idle, stores := i.stores.set j (some ⟨.line, false, st⟩) } }
        | none => heard
      let gives := fun (w : Lane) => exec (.ingressReceiveCompletion l (.line f)) s = .next { s with
        lanes := s.lanes.set l w.queueDelivery }
      let drop := fun why => gives (freed.countIn why)
      let type := if fieldAt f 12 2 = 0x8100 then 16 else 12
      let control := (octet f (type + 2)).toNat
      let sequence := fieldAt f (type + 6) 6
      let good := 64 ≤ f.length ∧ fcsMatches f = true ∧ f.length ≤ v.control.config.maxFrame + 28
      let plain := good ∧ fieldAt f 12 2 ≠ 0x8808
      let ours := plain ∧ m = .protect ∧ store ≠ none ∧ fieldAt f type 2 = s.port.envelopeType.toNat
      (f.length < 64 → drop .runt) ∧
      (64 ≤ f.length → fcsMatches f = false → drop .badFcs) ∧
      (64 ≤ f.length → fcsMatches f = true → v.control.config.maxFrame + 28 < f.length → drop .tooLong) ∧
      (good → fieldAt f 12 2 = 0x8808 → gives { freed with egress := { v.egress with
        indications := v.egress.indications ++ (if fieldAt f 14 2 = 1 then [fieldAt f 16 2] else []) } }) ∧
      (plain → m = .off → drop .laneOff) ∧
      (plain → m = .looptest → drop .looptest) ∧
      (plain → m = .clear ∨ m = .protect → store = none → drop .overrun) ∧
      (plain → m = .clear → store ≠ none → gives (kept (.ready f none))) ∧
      (plain → m = .protect → store ≠ none → fieldAt f type 2 ≠ s.port.envelopeType.toNat →
        (v.control.config.clearPolicy = .acceptClear → gives (kept (.ready f none))) ∧
        (v.control.config.clearPolicy = .dropClear → drop .clearDropped)) ∧
      (ours → f.length < 92 → drop .runt) ∧
      (ours → 92 ≤ f.length → control / 16 ≠ 1 ∨ control / 8 % 2 = 1 ∨ sequence = 0 → drop .badHeader) ∧
      (ours → 92 ≤ f.length → control / 16 = 1 → control / 8 % 2 = 0 → sequence ≠ 0 →
        gives (kept (.lookup f ⟨BitVec.ofNat 24 (fieldAt f (type + 3) 3), BitVec.ofNat 2 control, sequence,
          decide (control / 4 % 2 = 1)⟩ none)))) ∧
    (∀ (k : SlotNo) (x : StoredFrame) (j : StoreId), v.egress.store k = .sending x → x.destination = .loop →
      (k = true → ∀ x', v.egress.store0 ≠ .sending x') → (∃ z, i.store j = some ⟨.loop, z, .receiving⟩) →
      (∀ n z, n < j → i.store n ≠ some ⟨.loop, z, .receiving⟩) →
      let f := x.octets
      let sent := Lane.countOut { v with egress := v.egress.setStore k .free } .framesPassed
      let freed := { sent with ingress := { i with
        stores := i.stores.set j none, ages := i.ages.filter (fun n => n ≠ j) } }
      let kept := fun (st : StoreStatus) => { sent with ingress := { i with
        stores := i.stores.set j (some ⟨.loop, false, st⟩) } }
      let ended := x.grant.toList.map (fun g => (⟨g.record, g.slot, .completed, x.protectedOctets⟩ : ReleaseMsg))
      let gives := fun (w : Lane) => ∀ c : Instr, c = .ingressReceiveCompletion l .loop ∨ c = .transmissionCompletion l →
        exec c s = .next { s with
          lanes := s.lanes.set l w.queueDelivery
          transit := { s.transit with releases := s.transit.releases ++ ended } }
      let drop := fun why => gives (freed.countIn why)
      let type := if fieldAt f 12 2 = 0x8100 then 16 else 12
      let control := (octet f (type + 2)).toNat
      let sequence := fieldAt f (type + 6) 6
      let good := 64 ≤ f.length ∧ fcsMatches f = true ∧ f.length ≤ v.control.config.maxFrame + 28
      let judged := good ∧ (m = .protect ∨ m = .looptest)
      let ours := judged ∧ fieldAt f type 2 = s.port.envelopeType.toNat
      (f.length < 64 → drop .runt) ∧
      (64 ≤ f.length → fcsMatches f = false → drop .badFcs) ∧
      (64 ≤ f.length → fcsMatches f = true → v.control.config.maxFrame + 28 < f.length → drop .tooLong) ∧
      (good → m = .off → drop .laneOff) ∧
      (good → m = .clear → gives (kept (.ready f none))) ∧
      (judged → fieldAt f type 2 ≠ s.port.envelopeType.toNat →
        (v.control.config.clearPolicy = .acceptClear → gives (kept (.ready f none))) ∧
        (v.control.config.clearPolicy = .dropClear → drop .clearDropped)) ∧
      (ours → f.length < 92 → drop .runt) ∧
      (ours → 92 ≤ f.length → control / 16 ≠ 1 ∨ control / 8 % 2 = 1 ∨ sequence = 0 → drop .badHeader) ∧
      (ours → 92 ≤ f.length → control / 16 = 1 → control / 8 % 2 = 0 → sequence ≠ 0 →
        gives (kept (.lookup f ⟨BitVec.ofNat 24 (fieldAt f (type + 3) 3), BitVec.ofNat 2 control, sequence,
          decide (control / 4 % 2 = 1)⟩ none))))

/-- The answers at a frame store: a lookup's grant begins the opening; a verification that passes sends the commit with the
plaintext, and one that fails drops the frame BAD_TAG with an abandon; an accepted commit leaves the stripped frame READY; every
refusal drops the frame with its counter; and a grant or acceptance under a cancel mark is ABORTED. -/
def Obligations.StoreAnswers : Prop :=
  ∀ (s : State) (l : LaneId) (j : StoreId) (x : FrameStore) (f : Frame) (h : EnvelopeFields) (g : IngressGrant)
    (p : List Byte), s.port.resetting = false → (s.lane l).ingress.store j = some x →
    let v := s.lane l
    let i := v.ingress
    let gives := fun (c : Instr) (w : Lane) (sent : List AbandonMsg) => exec c s = .next { s with
      lanes := s.lanes.set l w.queueDelivery
      transit := { s.transit with abandons := s.transit.abandons ++ sent } }
    let becomes := fun (st : StoreStatus) => { v with ingress := { i with
      stores := i.stores.set j (some { x with status := st }) } }
    let drop := fun why => Lane.countIn { v with ingress := { i with
      stores := i.stores.set j none, ages := i.ages.filter (fun n => n ≠ j) } } why
    let lookups : LookupRefusal → InCounter := fun why => match why with
      | .unknownTag => .unknownTag
      | .notReady => .notReady
      | .wrongLane => .wrongLane
      | .badHeader => .badHeader
      | .noKey => .noKey
      | .late => .late
      | .replay => .replay
    (∀ why, x.status = .lookup f h (some (.refused why)) → gives (.lookupAnswer l j) (drop (lookups why)) []) ∧
    (x.status = .lookup f h (some (.granted g)) → x.cancelled = false →
      gives (.lookupAnswer l j) (becomes (.opening f h g)) []) ∧
    (x.status = .lookup f h (some (.granted g)) → x.cancelled = true →
      gives (.lookupAnswer l j) (drop .aborted) [⟨g.record, g.slot, .abort⟩]) ∧
    (x.status = .opening f h g → openFrame g.key g.salt h f = some p →
      gives (.verificationCompletion l j) (becomes (.committing f h g p none)) []) ∧
    (x.status = .opening f h g → openFrame g.key g.salt h f = none →
      gives (.verificationCompletion l j) (drop .badTag) [⟨g.record, g.slot, .badTag⟩]) ∧
    (x.status = .committing f h g p (some .accepted) → x.cancelled = false →
      gives (.commitAnswer l j) (becomes (.ready (withFcs (f.take (if fieldAt f 12 2 = 0x8100 then 16 else 12) ++ p)) (some g))) [])
      ∧
    (x.status = .committing f h g p (some .accepted) → x.cancelled = true →
      gives (.commitAnswer l j) (drop .aborted) []) ∧
    (x.status = .committing f h g p (some .retired) → gives (.commitAnswer l j) (drop .retired) []) ∧
    (x.status = .committing f h g p (some .noKey) → gives (.commitAnswer l j) (drop .noKey) []) ∧
    (x.status = .committing f h g p (some .late) → gives (.commitAnswer l j) (drop .late) []) ∧
    (x.status = .committing f h g p (some .replay) → gives (.commitAnswer l j) (drop .replay) [])

/-- Delivery: the run of READY frames at the head of the order of age is queued, each where its cells fit in 512 and otherwise
dropped DELIVERY_FULL; the head of the Delivery Buffer is dropped LANE_OFF or LINK_DOWN, waits on a pause, or begins; and its
completion counts it and puts it on the system side. -/
def Obligations.DeliveryOfFrames : Prop :=
  ∀ (s : State) (l : LaneId), s.port.resetting = false →
    let v := s.lane l
    let i := v.ingress
    let gives := fun (c : Instr) (w : Lane) => exec c s = .next { s with lanes := s.lanes.set l w }
    let cells := fun (f : Frame) => (f.length + 127) / 128
    (∀ (run : List (StoreId × Frame)) (rest : List StoreId), i.ages = run.map Prod.fst ++ rest → i.ages.Nodup →
      (∀ j f, (j, f) ∈ run → ∃ src z g, i.store j = some ⟨src, z, .ready f g⟩) →
      (∀ j tail src z f g, rest = j :: tail → i.store j ≠ some ⟨src, z, .ready f g⟩) →
      let queued := run.foldl (fun (acc : List Frame × Nat) (x : StoreId × Frame) =>
        if (acc.1.map cells).sum + cells x.2 ≤ 512 then (acc.1 ++ [x.2], acc.2) else (acc.1, acc.2 + 1)) (i.delivery, 0)
      let w := v.queueDelivery
      w = { v with
        ingress := { i with stores := w.ingress.stores, ages := rest, delivery := queued.1 }
        control := { v.control with counters := { v.control.counters with
          inbound := w.control.counters.inbound } } } ∧
      (∀ j, w.ingress.store j = if j ∈ run.map Prod.fst then none else i.store j) ∧
      (∀ c, c ≠ .deliveryFull → w.inCount c = v.inCount c) ∧
      (v.inCount .deliveryFull ≤ 4294967295 →
        w.inCount .deliveryFull = min 4294967295 (v.inCount .deliveryFull + queued.2))) ∧
    (∀ f rest, i.delivery = f :: rest →
      let dropped := { v with ingress := { i with delivery := rest } }
      (i.sending = false → v.control.mode = .off → gives (.deliveryStart l) (dropped.countIn .laneOff)) ∧
      (i.sending = false → v.control.mode ≠ .off → v.control.systemUp = false →
        gives (.deliveryStart l) (dropped.countIn .linkDown)) ∧
      (i.sending = false → v.control.mode ≠ .off → v.control.systemUp = true →
        i.systemPause = none → v.egress.waitingPause = none →
        gives (.deliveryStart l) { v with ingress := { i with sending := true } }) ∧
      (i.sending = false → v.control.mode ≠ .off → v.control.systemUp = true →
        i.systemPause ≠ none ∨ v.egress.waitingPause ≠ none → exec (.deliveryStart l) s = .next s) ∧
      (i.sending = true → gives (.deliveryCompletion l) (Lane.countIn { v with
        ingress := { i with delivery := rest, sending := false }, lastSystemFrame := some f } .framesPassed)))
end

