-- ==== Sys2Proof/Laws/Keyed.lean ====
section
/-!
SUPPORT. The laws of finite maps kept as sorted lists: what is read after an insertion or an erasure, and that both keep the
canonical form.
-/

namespace Sys2Proof

variable {α : Type}

@[simp] theorem KeyedList.find_nil (k : Nat) : KeyedList.find ([] : KeyedList α) k = none := rfl

/-- Reading a map after an insertion. -/
theorem KeyedList.find_insert (m : KeyedList α) (k j : Nat) (v : α) :
    (m.insert k v).find j = if k = j then some v else m.find j := by
  induction m with
  | nil => simp [KeyedList.insert, KeyedList.find]
  | cons p t ih =>
    obtain ⟨a, b⟩ := p
    unfold KeyedList.insert
    split
    · simp [KeyedList.find]
    · split
      · subst_vars; simp only [KeyedList.find]; split <;> simp_all
      · simp only [KeyedList.find, ih]; split <;> split <;> simp_all

/-- Reading a map after an erasure. -/
theorem KeyedList.find_erase (m : KeyedList α) (k j : Nat) :
    (m.erase k).find j = if k = j then none else m.find j := by
  induction m with
  | nil => simp [KeyedList.erase]
  | cons p t ih =>
    obtain ⟨a, b⟩ := p
    unfold KeyedList.erase at ih ⊢
    by_cases h : a = k
    · subst h; simp only [ne_eq, not_true_eq_false, decide_false, Bool.false_eq_true, not_false_eq_true,
        List.filter_cons_of_neg, ih, KeyedList.find]; split <;> simp_all
    · simp only [ne_eq, h, not_false_eq_true, decide_true, List.filter_cons_of_pos, KeyedList.find, ih]
      split <;> split <;> simp_all

/-- An insertion puts the key and value in, and every other pair was there before. -/
theorem KeyedList.mem_insert {m : KeyedList α} {k : Nat} {v : α} {p : Nat × α} (h : p ∈ m.insert k v) :
    p = (k, v) ∨ p ∈ m := by
  induction m with
  | nil => simpa [KeyedList.insert] using h
  | cons q t ih =>
    obtain ⟨a, b⟩ := q
    unfold KeyedList.insert at h
    split at h
    · simpa using h
    · split at h
      · simp only [List.mem_cons] at h ⊢; tauto
      · simp only [List.mem_cons] at h ⊢; rcases h with h | h
        · tauto
        · rcases ih h with h | h <;> tauto

/-- An insertion keeps the canonical form. -/
theorem KeyedList.sorted_insert {m : KeyedList α} (h : m.Sorted) (k : Nat) (v : α) : (m.insert k v).Sorted := by
  induction m with
  | nil => simp [KeyedList.insert, KeyedList.Sorted]
  | cons q t ih =>
    obtain ⟨a, b⟩ := q
    simp only [KeyedList.Sorted, List.map_cons, List.pairwise_cons] at h ih
    unfold KeyedList.insert
    split
    · simp only [KeyedList.Sorted, List.map_cons, List.pairwise_cons, List.mem_cons]
      exact ⟨fun x hx => by rcases hx with rfl | hx; assumption; exact lt_trans ‹_› (h.1 x hx), h⟩
    · split
      · subst_vars; simpa only [KeyedList.Sorted, List.map_cons, List.pairwise_cons] using h
      · simp only [KeyedList.Sorted, List.map_cons, List.pairwise_cons]
        refine ⟨fun x hx => ?_, ih h.2⟩
        obtain ⟨p, hp, rfl⟩ := List.mem_map.1 hx
        rcases KeyedList.mem_insert hp with rfl | hp
        · simp only; omega
        · exact h.1 _ (List.mem_map_of_mem hp)

/-- An erasure keeps the canonical form. -/
theorem KeyedList.sorted_erase {m : KeyedList α} (h : m.Sorted) (k : Nat) : (m.erase k).Sorted :=
  h.sublist (List.Sublist.map _ (List.filter_sublist))

/-- In a canonical map every listed pair is the one its key finds. -/
theorem KeyedList.find_of_mem {m : KeyedList α} (h : m.Sorted) {p : Nat × α} (hp : p ∈ m) : m.find p.1 = some p.2 := by
  induction m with
  | nil => simp at hp
  | cons q t ih =>
    obtain ⟨a, b⟩ := q
    simp only [KeyedList.Sorted, List.map_cons, List.pairwise_cons] at h ih
    rcases List.mem_cons.1 hp with rfl | hp
    · simp [KeyedList.find]
    · have := h.1 _ (List.mem_map_of_mem hp)
      simp only [KeyedList.find]
      rw [if_neg (by omega)]
      exact ih h.2 hp

/-- What a key finds is listed. -/
theorem KeyedList.mem_of_find {m : KeyedList α} {k : Nat} {v : α} (h : m.find k = some v) : (k, v) ∈ m := by
  induction m with
  | nil => simp at h
  | cons q t ih =>
    obtain ⟨a, b⟩ := q
    simp only [KeyedList.find] at h
    split at h
    · subst_vars; simp_all
    · exact List.mem_cons_of_mem _ (ih h)

/-- In a canonical map, giving a key the value it has changes nothing. -/
theorem KeyedList.insert_found {m : KeyedList α} (h : m.Sorted) {k : Nat} {v : α} (hf : m.find k = some v) :
    m.insert k v = m := by
  induction m with
  | nil => simp at hf
  | cons q t ih =>
    obtain ⟨a, b⟩ := q
    have hm := KeyedList.mem_of_find hf
    simp only [KeyedList.Sorted, List.map_cons, List.pairwise_cons] at h ih
    by_cases hk : a = k
    · subst hk; simp_all [KeyedList.insert, KeyedList.find]
    · simp only [KeyedList.find, hk, if_false] at hf
      rcases List.mem_cons.1 hm with e | hm
      · simp only [Prod.mk.injEq] at e; exact absurd e.1.symm hk
      · have := h.1 k (List.mem_map_of_mem hm)
        unfold KeyedList.insert
        rw [if_neg (by omega), if_neg (Ne.symm hk), ih h.2 hf]

/-- Erasing a key that is not listed changes nothing. -/
theorem KeyedList.erase_absent {m : KeyedList α} {k : Nat} (hf : m.find k = none) : m.erase k = m := by
  induction m with
  | nil => rfl
  | cons q t ih =>
    obtain ⟨a, b⟩ := q
    simp only [KeyedList.find] at hf
    split at hf
    · simp at hf
    · have hi := ih hf
      unfold KeyedList.erase at hi ⊢
      rw [List.filter_cons_of_pos (by simpa using ‹¬a = k›), hi]

end Sys2Proof
end

