-- ==== Sys2Proof/Laws/State.lean ====
section
/-!
SUPPORT. The small lemmas of the state's updates: for each update, every field it leaves as it stands, and for the counts of
service messages, all that `notify` can change.
-/

namespace Sys2Proof.Machine

variable (s u : State)

/-! #### `State.setRecord` leaves every field but `manager` -/

@[simp] theorem State.setRecord_flowMap (i : Nat) (r : Record) : (s.setRecord i r).flowMap = s.flowMap := rfl
@[simp] theorem State.setRecord_flowTurn (i : Nat) (r : Record) : (s.setRecord i r).flowTurn = s.flowTurn := rfl
@[simp] theorem State.setRecord_lanes (i : Nat) (r : Record) : (s.setRecord i r).lanes = s.lanes := rfl
@[simp] theorem State.setRecord_timebase (i : Nat) (r : Record) : (s.setRecord i r).timebase = s.timebase := rfl
@[simp] theorem State.setRecord_port (i : Nat) (r : Record) : (s.setRecord i r).port = s.port := rfl
@[simp] theorem State.setRecord_transit (i : Nat) (r : Record) : (s.setRecord i r).transit = s.transit := rfl
@[simp] theorem State.setRecord_pins (i : Nat) (r : Record) : (s.setRecord i r).pins = s.pins := rfl
@[simp] theorem State.setRecord_freeDraws (i : Nat) (r : Record) : (s.setRecord i r).freeDraws = s.freeDraws := rfl
@[simp] theorem State.setRecord_walkPace (i : Nat) (r : Record) : (s.setRecord i r).walkPace = s.walkPace := rfl
@[simp] theorem State.setRecord_pending (i : Nat) (r : Record) : (s.setRecord i r).pending = s.pending := rfl

/-! #### `State.insertTag` leaves every field but `manager` -/

@[simp] theorem State.insertTag_flowMap (g : BitVec 24) (i : Nat) : (s.insertTag g i).flowMap = s.flowMap := rfl
@[simp] theorem State.insertTag_flowTurn (g : BitVec 24) (i : Nat) : (s.insertTag g i).flowTurn = s.flowTurn := rfl
@[simp] theorem State.insertTag_lanes (g : BitVec 24) (i : Nat) : (s.insertTag g i).lanes = s.lanes := rfl
@[simp] theorem State.insertTag_timebase (g : BitVec 24) (i : Nat) : (s.insertTag g i).timebase = s.timebase := rfl
@[simp] theorem State.insertTag_port (g : BitVec 24) (i : Nat) : (s.insertTag g i).port = s.port := rfl
@[simp] theorem State.insertTag_transit (g : BitVec 24) (i : Nat) : (s.insertTag g i).transit = s.transit := rfl
@[simp] theorem State.insertTag_pins (g : BitVec 24) (i : Nat) : (s.insertTag g i).pins = s.pins := rfl
@[simp] theorem State.insertTag_freeDraws (g : BitVec 24) (i : Nat) : (s.insertTag g i).freeDraws = s.freeDraws := rfl
@[simp] theorem State.insertTag_walkPace (g : BitVec 24) (i : Nat) : (s.insertTag g i).walkPace = s.walkPace := rfl
@[simp] theorem State.insertTag_pending (g : BitVec 24) (i : Nat) : (s.insertTag g i).pending = s.pending := rfl

/-! #### `State.removeTag` leaves every field but `manager` -/

@[simp] theorem State.removeTag_flowMap (g : BitVec 24) : (s.removeTag g).flowMap = s.flowMap := rfl
@[simp] theorem State.removeTag_flowTurn (g : BitVec 24) : (s.removeTag g).flowTurn = s.flowTurn := rfl
@[simp] theorem State.removeTag_lanes (g : BitVec 24) : (s.removeTag g).lanes = s.lanes := rfl
@[simp] theorem State.removeTag_timebase (g : BitVec 24) : (s.removeTag g).timebase = s.timebase := rfl
@[simp] theorem State.removeTag_port (g : BitVec 24) : (s.removeTag g).port = s.port := rfl
@[simp] theorem State.removeTag_transit (g : BitVec 24) : (s.removeTag g).transit = s.transit := rfl
@[simp] theorem State.removeTag_pins (g : BitVec 24) : (s.removeTag g).pins = s.pins := rfl
@[simp] theorem State.removeTag_freeDraws (g : BitVec 24) : (s.removeTag g).freeDraws = s.freeDraws := rfl
@[simp] theorem State.removeTag_walkPace (g : BitVec 24) : (s.removeTag g).walkPace = s.walkPace := rfl
@[simp] theorem State.removeTag_pending (g : BitVec 24) : (s.removeTag g).pending = s.pending := rfl

/-! #### `State.setLane` leaves every field but `lanes` -/

@[simp] theorem State.setLane_manager (l : LaneId) (v : Lane) : (s.setLane l v).manager = s.manager := rfl
@[simp] theorem State.setLane_flowMap (l : LaneId) (v : Lane) : (s.setLane l v).flowMap = s.flowMap := rfl
@[simp] theorem State.setLane_flowTurn (l : LaneId) (v : Lane) : (s.setLane l v).flowTurn = s.flowTurn := rfl
@[simp] theorem State.setLane_timebase (l : LaneId) (v : Lane) : (s.setLane l v).timebase = s.timebase := rfl
@[simp] theorem State.setLane_port (l : LaneId) (v : Lane) : (s.setLane l v).port = s.port := rfl
@[simp] theorem State.setLane_transit (l : LaneId) (v : Lane) : (s.setLane l v).transit = s.transit := rfl
@[simp] theorem State.setLane_pins (l : LaneId) (v : Lane) : (s.setLane l v).pins = s.pins := rfl
@[simp] theorem State.setLane_freeDraws (l : LaneId) (v : Lane) : (s.setLane l v).freeDraws = s.freeDraws := rfl
@[simp] theorem State.setLane_walkPace (l : LaneId) (v : Lane) : (s.setLane l v).walkPace = s.walkPace := rfl
@[simp] theorem State.setLane_pending (l : LaneId) (v : Lane) : (s.setLane l v).pending = s.pending := rfl

/-! #### `State.sendReleases` leaves every field but `transit` -/

@[simp] theorem State.sendReleases_manager (ms : List ReleaseMsg) : (s.sendReleases ms).manager = s.manager := rfl
@[simp] theorem State.sendReleases_flowMap (ms : List ReleaseMsg) : (s.sendReleases ms).flowMap = s.flowMap := rfl
@[simp] theorem State.sendReleases_flowTurn (ms : List ReleaseMsg) : (s.sendReleases ms).flowTurn = s.flowTurn := rfl
@[simp] theorem State.sendReleases_lanes (ms : List ReleaseMsg) : (s.sendReleases ms).lanes = s.lanes := rfl
@[simp] theorem State.sendReleases_timebase (ms : List ReleaseMsg) : (s.sendReleases ms).timebase = s.timebase := rfl
@[simp] theorem State.sendReleases_port (ms : List ReleaseMsg) : (s.sendReleases ms).port = s.port := rfl
@[simp] theorem State.sendReleases_pins (ms : List ReleaseMsg) : (s.sendReleases ms).pins = s.pins := rfl
@[simp] theorem State.sendReleases_freeDraws (ms : List ReleaseMsg) : (s.sendReleases ms).freeDraws = s.freeDraws := rfl
@[simp] theorem State.sendReleases_walkPace (ms : List ReleaseMsg) : (s.sendReleases ms).walkPace = s.walkPace := rfl
@[simp] theorem State.sendReleases_pending (ms : List ReleaseMsg) : (s.sendReleases ms).pending = s.pending := rfl

/-! #### `State.sendAbandons` leaves every field but `transit` -/

@[simp] theorem State.sendAbandons_manager (ms : List AbandonMsg) : (s.sendAbandons ms).manager = s.manager := rfl
@[simp] theorem State.sendAbandons_flowMap (ms : List AbandonMsg) : (s.sendAbandons ms).flowMap = s.flowMap := rfl
@[simp] theorem State.sendAbandons_flowTurn (ms : List AbandonMsg) : (s.sendAbandons ms).flowTurn = s.flowTurn := rfl
@[simp] theorem State.sendAbandons_lanes (ms : List AbandonMsg) : (s.sendAbandons ms).lanes = s.lanes := rfl
@[simp] theorem State.sendAbandons_timebase (ms : List AbandonMsg) : (s.sendAbandons ms).timebase = s.timebase := rfl
@[simp] theorem State.sendAbandons_port (ms : List AbandonMsg) : (s.sendAbandons ms).port = s.port := rfl
@[simp] theorem State.sendAbandons_pins (ms : List AbandonMsg) : (s.sendAbandons ms).pins = s.pins := rfl
@[simp] theorem State.sendAbandons_freeDraws (ms : List AbandonMsg) : (s.sendAbandons ms).freeDraws = s.freeDraws := rfl
@[simp] theorem State.sendAbandons_walkPace (ms : List AbandonMsg) : (s.sendAbandons ms).walkPace = s.walkPace := rfl
@[simp] theorem State.sendAbandons_pending (ms : List AbandonMsg) : (s.sendAbandons ms).pending = s.pending := rfl

/-! #### `State.sendWithdrawals` leaves every field but `transit` -/

@[simp] theorem State.sendWithdrawals_manager (l : LaneId) (is : List Nat) : (s.sendWithdrawals l is).manager = s.manager := rfl
@[simp] theorem State.sendWithdrawals_flowMap (l : LaneId) (is : List Nat) : (s.sendWithdrawals l is).flowMap = s.flowMap := rfl
@[simp] theorem State.sendWithdrawals_flowTurn (l : LaneId) (is : List Nat) : (s.sendWithdrawals l is).flowTurn = s.flowTurn := rfl
@[simp] theorem State.sendWithdrawals_lanes (l : LaneId) (is : List Nat) : (s.sendWithdrawals l is).lanes = s.lanes := rfl
@[simp] theorem State.sendWithdrawals_timebase (l : LaneId) (is : List Nat) : (s.sendWithdrawals l is).timebase = s.timebase := rfl
@[simp] theorem State.sendWithdrawals_port (l : LaneId) (is : List Nat) : (s.sendWithdrawals l is).port = s.port := rfl
@[simp] theorem State.sendWithdrawals_pins (l : LaneId) (is : List Nat) : (s.sendWithdrawals l is).pins = s.pins := rfl
@[simp] theorem State.sendWithdrawals_freeDraws (l : LaneId) (is : List Nat) : (s.sendWithdrawals l is).freeDraws = s.freeDraws := rfl
@[simp] theorem State.sendWithdrawals_walkPace (l : LaneId) (is : List Nat) : (s.sendWithdrawals l is).walkPace = s.walkPace := rfl
@[simp] theorem State.sendWithdrawals_pending (l : LaneId) (is : List Nat) : (s.sendWithdrawals l is).pending = s.pending := rfl

/-! #### `State.sendEnqueue` leaves every field but `transit` -/

@[simp] theorem State.sendEnqueue_manager (l : LaneId) (i : Nat) : (s.sendEnqueue l i).manager = s.manager := rfl
@[simp] theorem State.sendEnqueue_flowMap (l : LaneId) (i : Nat) : (s.sendEnqueue l i).flowMap = s.flowMap := rfl
@[simp] theorem State.sendEnqueue_flowTurn (l : LaneId) (i : Nat) : (s.sendEnqueue l i).flowTurn = s.flowTurn := rfl
@[simp] theorem State.sendEnqueue_lanes (l : LaneId) (i : Nat) : (s.sendEnqueue l i).lanes = s.lanes := rfl
@[simp] theorem State.sendEnqueue_timebase (l : LaneId) (i : Nat) : (s.sendEnqueue l i).timebase = s.timebase := rfl
@[simp] theorem State.sendEnqueue_port (l : LaneId) (i : Nat) : (s.sendEnqueue l i).port = s.port := rfl
@[simp] theorem State.sendEnqueue_pins (l : LaneId) (i : Nat) : (s.sendEnqueue l i).pins = s.pins := rfl
@[simp] theorem State.sendEnqueue_freeDraws (l : LaneId) (i : Nat) : (s.sendEnqueue l i).freeDraws = s.freeDraws := rfl
@[simp] theorem State.sendEnqueue_walkPace (l : LaneId) (i : Nat) : (s.sendEnqueue l i).walkPace = s.walkPace := rfl
@[simp] theorem State.sendEnqueue_pending (l : LaneId) (i : Nat) : (s.sendEnqueue l i).pending = s.pending := rfl

/-! #### `State.sendEvidence` leaves every field but `transit` -/

@[simp] theorem State.sendEvidence_manager (i : Nat) : (s.sendEvidence i).manager = s.manager := rfl
@[simp] theorem State.sendEvidence_flowMap (i : Nat) : (s.sendEvidence i).flowMap = s.flowMap := rfl
@[simp] theorem State.sendEvidence_flowTurn (i : Nat) : (s.sendEvidence i).flowTurn = s.flowTurn := rfl
@[simp] theorem State.sendEvidence_lanes (i : Nat) : (s.sendEvidence i).lanes = s.lanes := rfl
@[simp] theorem State.sendEvidence_timebase (i : Nat) : (s.sendEvidence i).timebase = s.timebase := rfl
@[simp] theorem State.sendEvidence_port (i : Nat) : (s.sendEvidence i).port = s.port := rfl
@[simp] theorem State.sendEvidence_pins (i : Nat) : (s.sendEvidence i).pins = s.pins := rfl
@[simp] theorem State.sendEvidence_freeDraws (i : Nat) : (s.sendEvidence i).freeDraws = s.freeDraws := rfl
@[simp] theorem State.sendEvidence_walkPace (i : Nat) : (s.sendEvidence i).walkPace = s.walkPace := rfl
@[simp] theorem State.sendEvidence_pending (i : Nat) : (s.sendEvidence i).pending = s.pending := rfl

/-! #### `State.withPort` leaves every field but `port` -/

@[simp] theorem State.withPort_manager (p : CommandPort) : (s.withPort p).manager = s.manager := rfl
@[simp] theorem State.withPort_flowMap (p : CommandPort) : (s.withPort p).flowMap = s.flowMap := rfl
@[simp] theorem State.withPort_flowTurn (p : CommandPort) : (s.withPort p).flowTurn = s.flowTurn := rfl
@[simp] theorem State.withPort_lanes (p : CommandPort) : (s.withPort p).lanes = s.lanes := rfl
@[simp] theorem State.withPort_timebase (p : CommandPort) : (s.withPort p).timebase = s.timebase := rfl
@[simp] theorem State.withPort_transit (p : CommandPort) : (s.withPort p).transit = s.transit := rfl
@[simp] theorem State.withPort_pins (p : CommandPort) : (s.withPort p).pins = s.pins := rfl
@[simp] theorem State.withPort_freeDraws (p : CommandPort) : (s.withPort p).freeDraws = s.freeDraws := rfl
@[simp] theorem State.withPort_walkPace (p : CommandPort) : (s.withPort p).walkPace = s.walkPace := rfl
@[simp] theorem State.withPort_pending (p : CommandPort) : (s.withPort p).pending = s.pending := rfl

/-! #### `State.dropCommand` leaves every field but `port` -/

@[simp] theorem State.dropCommand_manager : (s.dropCommand).manager = s.manager := rfl
@[simp] theorem State.dropCommand_flowMap : (s.dropCommand).flowMap = s.flowMap := rfl
@[simp] theorem State.dropCommand_flowTurn : (s.dropCommand).flowTurn = s.flowTurn := rfl
@[simp] theorem State.dropCommand_lanes : (s.dropCommand).lanes = s.lanes := rfl
@[simp] theorem State.dropCommand_timebase : (s.dropCommand).timebase = s.timebase := rfl
@[simp] theorem State.dropCommand_transit : (s.dropCommand).transit = s.transit := rfl
@[simp] theorem State.dropCommand_pins : (s.dropCommand).pins = s.pins := rfl
@[simp] theorem State.dropCommand_freeDraws : (s.dropCommand).freeDraws = s.freeDraws := rfl
@[simp] theorem State.dropCommand_walkPace : (s.dropCommand).walkPace = s.walkPace := rfl
@[simp] theorem State.dropCommand_pending : (s.dropCommand).pending = s.pending := rfl

/-! #### `State.appendResponse` leaves every field but `port` -/

@[simp] theorem State.appendResponse_manager (ws : List Word) : (s.appendResponse ws).manager = s.manager := rfl
@[simp] theorem State.appendResponse_flowMap (ws : List Word) : (s.appendResponse ws).flowMap = s.flowMap := rfl
@[simp] theorem State.appendResponse_flowTurn (ws : List Word) : (s.appendResponse ws).flowTurn = s.flowTurn := rfl
@[simp] theorem State.appendResponse_lanes (ws : List Word) : (s.appendResponse ws).lanes = s.lanes := rfl
@[simp] theorem State.appendResponse_timebase (ws : List Word) : (s.appendResponse ws).timebase = s.timebase := rfl
@[simp] theorem State.appendResponse_transit (ws : List Word) : (s.appendResponse ws).transit = s.transit := rfl
@[simp] theorem State.appendResponse_pins (ws : List Word) : (s.appendResponse ws).pins = s.pins := rfl
@[simp] theorem State.appendResponse_freeDraws (ws : List Word) : (s.appendResponse ws).freeDraws = s.freeDraws := rfl
@[simp] theorem State.appendResponse_walkPace (ws : List Word) : (s.appendResponse ws).walkPace = s.walkPace := rfl
@[simp] theorem State.appendResponse_pending (ws : List Word) : (s.appendResponse ws).pending = s.pending := rfl

/-! #### `State.updateFlow` leaves every field but `flowMap` -/

@[simp] theorem State.updateFlow_manager (k : FlowKey) (f : FlowEntry → FlowEntry) : (s.updateFlow k f).manager = s.manager := rfl
@[simp] theorem State.updateFlow_flowTurn (k : FlowKey) (f : FlowEntry → FlowEntry) : (s.updateFlow k f).flowTurn = s.flowTurn := rfl
@[simp] theorem State.updateFlow_lanes (k : FlowKey) (f : FlowEntry → FlowEntry) : (s.updateFlow k f).lanes = s.lanes := rfl
@[simp] theorem State.updateFlow_timebase (k : FlowKey) (f : FlowEntry → FlowEntry) : (s.updateFlow k f).timebase = s.timebase := rfl
@[simp] theorem State.updateFlow_port (k : FlowKey) (f : FlowEntry → FlowEntry) : (s.updateFlow k f).port = s.port := rfl
@[simp] theorem State.updateFlow_transit (k : FlowKey) (f : FlowEntry → FlowEntry) : (s.updateFlow k f).transit = s.transit := rfl
@[simp] theorem State.updateFlow_pins (k : FlowKey) (f : FlowEntry → FlowEntry) : (s.updateFlow k f).pins = s.pins := rfl
@[simp] theorem State.updateFlow_freeDraws (k : FlowKey) (f : FlowEntry → FlowEntry) : (s.updateFlow k f).freeDraws = s.freeDraws := rfl
@[simp] theorem State.updateFlow_walkPace (k : FlowKey) (f : FlowEntry → FlowEntry) : (s.updateFlow k f).walkPace = s.walkPace := rfl
@[simp] theorem State.updateFlow_pending (k : FlowKey) (f : FlowEntry → FlowEntry) : (s.updateFlow k f).pending = s.pending := rfl

/-! #### `State.insertFlow` leaves every field but `flowMap` -/

@[simp] theorem State.insertFlow_manager (e : FlowEntry) : (s.insertFlow e).manager = s.manager := rfl
@[simp] theorem State.insertFlow_flowTurn (e : FlowEntry) : (s.insertFlow e).flowTurn = s.flowTurn := rfl
@[simp] theorem State.insertFlow_lanes (e : FlowEntry) : (s.insertFlow e).lanes = s.lanes := rfl
@[simp] theorem State.insertFlow_timebase (e : FlowEntry) : (s.insertFlow e).timebase = s.timebase := rfl
@[simp] theorem State.insertFlow_port (e : FlowEntry) : (s.insertFlow e).port = s.port := rfl
@[simp] theorem State.insertFlow_transit (e : FlowEntry) : (s.insertFlow e).transit = s.transit := rfl
@[simp] theorem State.insertFlow_pins (e : FlowEntry) : (s.insertFlow e).pins = s.pins := rfl
@[simp] theorem State.insertFlow_freeDraws (e : FlowEntry) : (s.insertFlow e).freeDraws = s.freeDraws := rfl
@[simp] theorem State.insertFlow_walkPace (e : FlowEntry) : (s.insertFlow e).walkPace = s.walkPace := rfl
@[simp] theorem State.insertFlow_pending (e : FlowEntry) : (s.insertFlow e).pending = s.pending := rfl

/-! #### `State.deleteFlow` leaves every field but `flowMap` -/

@[simp] theorem State.deleteFlow_manager (k : FlowKey) : (s.deleteFlow k).manager = s.manager := rfl
@[simp] theorem State.deleteFlow_flowTurn (k : FlowKey) : (s.deleteFlow k).flowTurn = s.flowTurn := rfl
@[simp] theorem State.deleteFlow_lanes (k : FlowKey) : (s.deleteFlow k).lanes = s.lanes := rfl
@[simp] theorem State.deleteFlow_timebase (k : FlowKey) : (s.deleteFlow k).timebase = s.timebase := rfl
@[simp] theorem State.deleteFlow_port (k : FlowKey) : (s.deleteFlow k).port = s.port := rfl
@[simp] theorem State.deleteFlow_transit (k : FlowKey) : (s.deleteFlow k).transit = s.transit := rfl
@[simp] theorem State.deleteFlow_pins (k : FlowKey) : (s.deleteFlow k).pins = s.pins := rfl
@[simp] theorem State.deleteFlow_freeDraws (k : FlowKey) : (s.deleteFlow k).freeDraws = s.freeDraws := rfl
@[simp] theorem State.deleteFlow_walkPace (k : FlowKey) : (s.deleteFlow k).walkPace = s.walkPace := rfl
@[simp] theorem State.deleteFlow_pending (k : FlowKey) : (s.deleteFlow k).pending = s.pending := rfl

/-! #### `State.claimReference` leaves every field but `manager` -/

@[simp] theorem State.claimReference_flowMap (i : Nat) : (s.claimReference i).flowMap = s.flowMap := rfl
@[simp] theorem State.claimReference_flowTurn (i : Nat) : (s.claimReference i).flowTurn = s.flowTurn := rfl
@[simp] theorem State.claimReference_lanes (i : Nat) : (s.claimReference i).lanes = s.lanes := rfl
@[simp] theorem State.claimReference_timebase (i : Nat) : (s.claimReference i).timebase = s.timebase := rfl
@[simp] theorem State.claimReference_port (i : Nat) : (s.claimReference i).port = s.port := rfl
@[simp] theorem State.claimReference_transit (i : Nat) : (s.claimReference i).transit = s.transit := rfl
@[simp] theorem State.claimReference_pins (i : Nat) : (s.claimReference i).pins = s.pins := rfl
@[simp] theorem State.claimReference_freeDraws (i : Nat) : (s.claimReference i).freeDraws = s.freeDraws := rfl
@[simp] theorem State.claimReference_walkPace (i : Nat) : (s.claimReference i).walkPace = s.walkPace := rfl
@[simp] theorem State.claimReference_pending (i : Nat) : (s.claimReference i).pending = s.pending := rfl

/-! #### `State.releaseReference` leaves every field but `manager` -/

@[simp] theorem State.releaseReference_flowMap (i : Nat) : (s.releaseReference i).flowMap = s.flowMap := rfl
@[simp] theorem State.releaseReference_flowTurn (i : Nat) : (s.releaseReference i).flowTurn = s.flowTurn := rfl
@[simp] theorem State.releaseReference_lanes (i : Nat) : (s.releaseReference i).lanes = s.lanes := rfl
@[simp] theorem State.releaseReference_timebase (i : Nat) : (s.releaseReference i).timebase = s.timebase := rfl
@[simp] theorem State.releaseReference_port (i : Nat) : (s.releaseReference i).port = s.port := rfl
@[simp] theorem State.releaseReference_transit (i : Nat) : (s.releaseReference i).transit = s.transit := rfl
@[simp] theorem State.releaseReference_pins (i : Nat) : (s.releaseReference i).pins = s.pins := rfl
@[simp] theorem State.releaseReference_freeDraws (i : Nat) : (s.releaseReference i).freeDraws = s.freeDraws := rfl
@[simp] theorem State.releaseReference_walkPace (i : Nat) : (s.releaseReference i).walkPace = s.walkPace := rfl
@[simp] theorem State.releaseReference_pending (i : Nat) : (s.releaseReference i).pending = s.pending := rfl

/-! #### `State.endFlowTurn` leaves every field but `flowTurn` -/

@[simp] theorem State.endFlowTurn_manager : (s.endFlowTurn).manager = s.manager := rfl
@[simp] theorem State.endFlowTurn_flowMap : (s.endFlowTurn).flowMap = s.flowMap := rfl
@[simp] theorem State.endFlowTurn_lanes : (s.endFlowTurn).lanes = s.lanes := rfl
@[simp] theorem State.endFlowTurn_timebase : (s.endFlowTurn).timebase = s.timebase := rfl
@[simp] theorem State.endFlowTurn_port : (s.endFlowTurn).port = s.port := rfl
@[simp] theorem State.endFlowTurn_transit : (s.endFlowTurn).transit = s.transit := rfl
@[simp] theorem State.endFlowTurn_pins : (s.endFlowTurn).pins = s.pins := rfl
@[simp] theorem State.endFlowTurn_freeDraws : (s.endFlowTurn).freeDraws = s.freeDraws := rfl
@[simp] theorem State.endFlowTurn_walkPace : (s.endFlowTurn).walkPace = s.walkPace := rfl
@[simp] theorem State.endFlowTurn_pending : (s.endFlowTurn).pending = s.pending := rfl

/-! #### `State.holdFlowTurn` leaves every field but `flowTurn` -/

@[simp] theorem State.holdFlowTurn_manager (t : FlowTurn) : (s.holdFlowTurn t).manager = s.manager := rfl
@[simp] theorem State.holdFlowTurn_flowMap (t : FlowTurn) : (s.holdFlowTurn t).flowMap = s.flowMap := rfl
@[simp] theorem State.holdFlowTurn_lanes (t : FlowTurn) : (s.holdFlowTurn t).lanes = s.lanes := rfl
@[simp] theorem State.holdFlowTurn_timebase (t : FlowTurn) : (s.holdFlowTurn t).timebase = s.timebase := rfl
@[simp] theorem State.holdFlowTurn_port (t : FlowTurn) : (s.holdFlowTurn t).port = s.port := rfl
@[simp] theorem State.holdFlowTurn_transit (t : FlowTurn) : (s.holdFlowTurn t).transit = s.transit := rfl
@[simp] theorem State.holdFlowTurn_pins (t : FlowTurn) : (s.holdFlowTurn t).pins = s.pins := rfl
@[simp] theorem State.holdFlowTurn_freeDraws (t : FlowTurn) : (s.holdFlowTurn t).freeDraws = s.freeDraws := rfl
@[simp] theorem State.holdFlowTurn_walkPace (t : FlowTurn) : (s.holdFlowTurn t).walkPace = s.walkPace := rfl
@[simp] theorem State.holdFlowTurn_pending (t : FlowTurn) : (s.holdFlowTurn t).pending = s.pending := rfl

/-! #### `State.holdWalk` leaves every field but `manager` and `freeDraws` -/

@[simp] theorem State.holdWalk_flowMap (t : Option WalkTurn) (d : Nat) : (s.holdWalk t d).flowMap = s.flowMap := rfl
@[simp] theorem State.holdWalk_flowTurn (t : Option WalkTurn) (d : Nat) : (s.holdWalk t d).flowTurn = s.flowTurn := rfl
@[simp] theorem State.holdWalk_lanes (t : Option WalkTurn) (d : Nat) : (s.holdWalk t d).lanes = s.lanes := rfl
@[simp] theorem State.holdWalk_timebase (t : Option WalkTurn) (d : Nat) : (s.holdWalk t d).timebase = s.timebase := rfl
@[simp] theorem State.holdWalk_port (t : Option WalkTurn) (d : Nat) : (s.holdWalk t d).port = s.port := rfl
@[simp] theorem State.holdWalk_transit (t : Option WalkTurn) (d : Nat) : (s.holdWalk t d).transit = s.transit := rfl
@[simp] theorem State.holdWalk_pins (t : Option WalkTurn) (d : Nat) : (s.holdWalk t d).pins = s.pins := rfl
@[simp] theorem State.holdWalk_walkPace (t : Option WalkTurn) (d : Nat) : (s.holdWalk t d).walkPace = s.walkPace := rfl
@[simp] theorem State.holdWalk_pending (t : Option WalkTurn) (d : Nat) : (s.holdWalk t d).pending = s.pending := rfl

/-! #### `State.endWalk` leaves every field but `manager` and `freeDraws` -/

@[simp] theorem State.endWalk_flowMap (resume : Option Nat) (d : Nat) : (s.endWalk resume d).flowMap = s.flowMap := rfl
@[simp] theorem State.endWalk_flowTurn (resume : Option Nat) (d : Nat) : (s.endWalk resume d).flowTurn = s.flowTurn := rfl
@[simp] theorem State.endWalk_lanes (resume : Option Nat) (d : Nat) : (s.endWalk resume d).lanes = s.lanes := rfl
@[simp] theorem State.endWalk_timebase (resume : Option Nat) (d : Nat) : (s.endWalk resume d).timebase = s.timebase := rfl
@[simp] theorem State.endWalk_port (resume : Option Nat) (d : Nat) : (s.endWalk resume d).port = s.port := rfl
@[simp] theorem State.endWalk_transit (resume : Option Nat) (d : Nat) : (s.endWalk resume d).transit = s.transit := rfl
@[simp] theorem State.endWalk_pins (resume : Option Nat) (d : Nat) : (s.endWalk resume d).pins = s.pins := rfl
@[simp] theorem State.endWalk_walkPace (resume : Option Nat) (d : Nat) : (s.endWalk resume d).walkPace = s.walkPace := rfl
@[simp] theorem State.endWalk_pending (resume : Option Nat) (d : Nat) : (s.endWalk resume d).pending = s.pending := rfl

/-! #### `State.sendMessage` leaves every field but `pins` -/

@[simp] theorem State.sendMessage_manager : s.sendMessage.manager = s.manager := by unfold State.sendMessage; split <;> rfl
@[simp] theorem State.sendMessage_flowMap : s.sendMessage.flowMap = s.flowMap := by unfold State.sendMessage; split <;> rfl
@[simp] theorem State.sendMessage_flowTurn : s.sendMessage.flowTurn = s.flowTurn := by unfold State.sendMessage; split <;> rfl
@[simp] theorem State.sendMessage_lanes : s.sendMessage.lanes = s.lanes := by unfold State.sendMessage; split <;> rfl
@[simp] theorem State.sendMessage_timebase : s.sendMessage.timebase = s.timebase := by unfold State.sendMessage; split <;> rfl
@[simp] theorem State.sendMessage_port : s.sendMessage.port = s.port := by unfold State.sendMessage; split <;> rfl
@[simp] theorem State.sendMessage_transit : s.sendMessage.transit = s.transit := by unfold State.sendMessage; split <;> rfl
@[simp] theorem State.sendMessage_freeDraws : s.sendMessage.freeDraws = s.freeDraws := by unfold State.sendMessage; split <;> rfl
@[simp] theorem State.sendMessage_walkPace : s.sendMessage.walkPace = s.walkPace := by unfold State.sendMessage; split <;> rfl
@[simp] theorem State.sendMessage_pending : s.sendMessage.pending = s.pending := by unfold State.sendMessage; split <;> rfl

/-! #### `State.notify` leaves every field but `pins` -/

@[simp] theorem State.notify_manager : (s.notify u).manager = u.manager := by unfold State.notify; split <;> simp
@[simp] theorem State.notify_flowMap : (s.notify u).flowMap = u.flowMap := by unfold State.notify; split <;> simp
@[simp] theorem State.notify_flowTurn : (s.notify u).flowTurn = u.flowTurn := by unfold State.notify; split <;> simp
@[simp] theorem State.notify_lanes : (s.notify u).lanes = u.lanes := by unfold State.notify; split <;> simp
@[simp] theorem State.notify_timebase : (s.notify u).timebase = u.timebase := by unfold State.notify; split <;> simp
@[simp] theorem State.notify_port : (s.notify u).port = u.port := by unfold State.notify; split <;> simp
@[simp] theorem State.notify_transit : (s.notify u).transit = u.transit := by unfold State.notify; split <;> simp
@[simp] theorem State.notify_freeDraws : (s.notify u).freeDraws = u.freeDraws := by unfold State.notify; split <;> simp
@[simp] theorem State.notify_walkPace : (s.notify u).walkPace = u.walkPace := by unfold State.notify; split <;> simp
@[simp] theorem State.notify_pending : (s.notify u).pending = u.pending := by unfold State.notify; split <;> simp

/-! #### `State.notifyWrite` leaves every field but `pins` -/

@[simp] theorem State.notifyWrite_manager : s.notifyWrite.manager = s.manager := by unfold State.notifyWrite; split <;> simp
@[simp] theorem State.notifyWrite_flowMap : s.notifyWrite.flowMap = s.flowMap := by unfold State.notifyWrite; split <;> simp
@[simp] theorem State.notifyWrite_flowTurn : s.notifyWrite.flowTurn = s.flowTurn := by unfold State.notifyWrite; split <;> simp
@[simp] theorem State.notifyWrite_lanes : s.notifyWrite.lanes = s.lanes := by unfold State.notifyWrite; split <;> simp
@[simp] theorem State.notifyWrite_timebase : s.notifyWrite.timebase = s.timebase := by unfold State.notifyWrite; split <;> simp
@[simp] theorem State.notifyWrite_port : s.notifyWrite.port = s.port := by unfold State.notifyWrite; split <;> simp
@[simp] theorem State.notifyWrite_transit : s.notifyWrite.transit = s.transit := by unfold State.notifyWrite; split <;> simp
@[simp] theorem State.notifyWrite_freeDraws : s.notifyWrite.freeDraws = s.freeDraws := by unfold State.notifyWrite; split <;> simp
@[simp] theorem State.notifyWrite_walkPace : s.notifyWrite.walkPace = s.walkPace := by unfold State.notifyWrite; split <;> simp
@[simp] theorem State.notifyWrite_pending : s.notifyWrite.pending = s.pending := by unfold State.notifyWrite; split <;> simp

end Sys2Proof.Machine
end

