-- ==== Sys2Proof/Laws/Ops.lean ====
section
/-!
SUPPORT. What the shared operations on the whole state do, said once: records and lanes read back after a write, the messages
that `notify` sends, and the turn of a command.
-/

namespace Sys2Proof.Machine

/-! ### Records and lanes read back -/

/-- A record read after a record is given: the FREE record where a FREE one was given (R2). -/
theorem State.record_setRecord (s : State) (i j : Nat) (r : Record) :
    (s.setRecord i r).record j = if i = j then (if r.state = .free then Record.free else r) else s.record j := by
  unfold State.record State.setRecord AssociationManager.setRecord
  by_cases h : r.state = .free
  · simp only [h, if_true, KeyedList.find_erase]; split <;> simp_all
  · simp only [h, if_false, KeyedList.find_insert]; split <;> simp_all

/-- A record read after another one is given. -/
theorem State.record_setRecord_ne (s : State) {i j : Nat} (r : Record) (h : i ≠ j) :
    (s.setRecord i r).record j = s.record j := by simp [State.record_setRecord, h]

/-- A record that is not FREE is read as it was given. -/
theorem State.record_setRecord_self (s : State) (i : Nat) {r : Record} (h : r.state ≠ .free) :
    (s.setRecord i r).record i = r := by simp [State.record_setRecord, h]

/-- In a canonical Association Table, giving an index the record it has changes nothing. -/
theorem State.setRecord_same {s : State} (h : s.manager.Canonical) (i : Nat) : s.setRecord i (s.record i) = s := by
  have hm : s.manager.setRecord i (s.record i) = s.manager := by
    unfold AssociationManager.setRecord State.record
    cases hf : s.manager.records.find i with
    | none => simp [Record.free, KeyedList.erase_absent hf]
    | some r =>
      have hn := h.noFree _ (KeyedList.mem_of_find hf)
      simp only [Option.getD_some]
      rw [if_neg hn, KeyedList.insert_found h.records hf]
  unfold State.setRecord; rw [hm]

@[simp] theorem State.tagIndex_setRecord (s : State) (i : Nat) (r : Record) :
    (s.setRecord i r).manager.tagIndex = s.manager.tagIndex := rfl

@[simp] theorem State.walkCursor_setRecord (s : State) (i : Nat) (r : Record) :
    (s.setRecord i r).manager.walkCursor = s.manager.walkCursor := rfl

@[simp] theorem State.ticksTaken_setRecord (s : State) (i : Nat) (r : Record) :
    (s.setRecord i r).manager.ticksTaken = s.manager.ticksTaken := rfl

/-- A lane read after a lane is given. -/
theorem State.lane_setLane (s : State) (l m : LaneId) (v : Lane) :
    (s.setLane l v).lane m = if l = m then v else s.lane m := by
  unfold State.lane State.setLane vput
  by_cases h : l = m
  · subst h; simp
  · simp only [h, if_false]
    have : l.val ≠ m.val := fun e => h (Fin.ext e)
    simp [vget, this]

@[simp] theorem State.lane_setLane_self (s : State) (l : LaneId) (v : Lane) : (s.setLane l v).lane l = v := by
  simp [State.lane_setLane]

/-- The records depend on the Association Table alone. -/
theorem State.record_congr {s t : State} (h : s.manager = t.manager) (i : Nat) : s.record i = t.record i := by
  unfold State.record; rw [h]

/-- The lanes are read from the lanes alone. -/
theorem State.lane_congr {s t : State} (h : s.lanes = t.lanes) (l : LaneId) : s.lane l = t.lane l := by
  unfold State.lane; rw [h]

/-! ### Service messages -/

/-- What a sent message changes. -/
theorem State.sendMessage_eq (s : State) : s.sendMessage =
    { s with pins := { s.pins with messagesSent :=
      if s.pins.messageSignalling then s.pins.messagesSent + 1 else s.pins.messagesSent } } := by
  unfold State.sendMessage; split <;> rfl

/-- The state after an event differs from the event's own effect at most in the number of messages sent. -/
theorem State.sameButMessages_notify (s u : State) : u.sameButMessages (s.notify u) := by
  unfold State.sameButMessages State.notify
  split
  · rw [State.sendMessage_eq]
  · rfl

/-- The same after a write to a service register. -/
theorem State.sameButMessages_notifyWrite (u : State) : u.sameButMessages u.notifyWrite := by
  unfold State.sameButMessages State.notifyWrite
  split
  · rw [State.sendMessage_eq]
  · rfl

/-- An event that leaves the request as it was sends no message. -/
theorem State.notify_of_asserted_eq {s u : State} (h : s.requestAsserted = u.requestAsserted) : s.notify u = u := by
  unfold State.notify; rw [h]; cases u.requestAsserted <;> simp

/-- The request depends on the Association Manager and the Command Port alone. -/
theorem State.requestAsserted_congr {s u : State} (hm : s.manager = u.manager) (hp : s.port = u.port) :
    s.requestAsserted = u.requestAsserted := by
  unfold State.requestAsserted State.serviceFlags; rw [hm, hp]

/-- An event that changes neither the Association Manager nor the Command Port sends no message. -/
theorem State.notify_of_same {s u : State} (hm : s.manager = u.manager) (hp : s.port = u.port) : s.notify u = u :=
  State.notify_of_asserted_eq (State.requestAsserted_congr hm hp)

@[simp] theorem State.notify_messageSignalling (s u : State) :
    (s.notify u).pins.messageSignalling = u.pins.messageSignalling := by
  unfold State.notify; split
  · rw [State.sendMessage_eq]
  · rfl

@[simp] theorem State.notify_readData (s u : State) : (s.notify u).pins.readData = u.pins.readData := by
  unfold State.notify; split
  · rw [State.sendMessage_eq]
  · rfl

@[simp] theorem State.record_notify (s u : State) (i : Nat) : (s.notify u).record i = u.record i :=
  State.record_congr (State.notify_manager s u) i

@[simp] theorem State.lane_notify (s u : State) (l : LaneId) : (s.notify u).lane l = u.lane l :=
  State.lane_congr (State.notify_lanes s u) l

@[simp] theorem State.record_setLane (s : State) (l : LaneId) (v : Lane) (i : Nat) :
    (s.setLane l v).record i = s.record i := rfl

@[simp] theorem State.lane_setRecord (s : State) (i : Nat) (r : Record) (l : LaneId) :
    (s.setRecord i r).lane l = s.lane l := rfl

/-! ### The turn of a command -/

/-- The state just after a command has been taken differs from the state before it in its Command FIFO, and at most in the
number of messages sent. -/
theorem State.sameButMessages_taken (s : State) :
    State.sameButMessages { s with port := { s.port with commands := s.port.commands.tail } } s.taken :=
  State.sameButMessages_notify _ _

/-- What the turn of a command does: where the Command Processor takes a command of the name, its owner's effect on the state
just after the taking is made, and its reply is posted (R157). -/
theorem State.serve_offered {s : State} {c : Command} {name : CommandName} (owner : Command → State → State × Reply)
    (h : s.offers c name) :
    s.serve name owner =
      .next ((s.taken.notify (owner c s.taken).1).post (headerTag c.header) (owner c s.taken).2) := by
  unfold State.serve; rw [h.1]; simp [h.2]

/-- A posting appends the response and sends at most a message. -/
theorem State.sameButMessages_post (s : State) (tag : Nat) (r : Reply) :
    State.sameButMessages { s with port := { s.port with responses := s.port.responses ++ responseWords tag r } }
      (s.post tag r) := State.sameButMessages_notify _ _

/-- Being the same but for messages is transitive. -/
theorem State.sameButMessages_trans {s t u : State} (h : s.sameButMessages t) (h' : t.sameButMessages u) :
    s.sameButMessages u := by
  unfold State.sameButMessages at *
  rw [h'] ; rw [h]

/-- A response posted after an event: it ends as the event's effect and the reply say, whatever messages are sent on the way. -/
theorem State.post_answered {s u w before : State} {c : Command} {r : Reply}
    (hu : State.sameButMessages { u with port := { u.port with commands := s.port.commands.tail } } w)
    (hp : u.port.responses = s.port.responses) : s.answered u c r ((before.notify w).post (headerTag c.header) r) := by
  have h2 := State.sameButMessages_trans hu (State.sameButMessages_notify before w)
  have h3 := State.sameButMessages_post (before.notify w) (headerTag c.header) r
  unfold State.answered
  refine State.sameButMessages_trans (t := { before.notify w with port := { (before.notify w).port with
    responses := (before.notify w).port.responses ++ responseWords (headerTag c.header) r } }) ?_ h3
  unfold State.sameButMessages at h2 ⊢
  rw [h2]; simp [hp]

/-- The turn of a command ends as its owner's effect and reply say, whatever messages are sent on the way. -/
theorem State.serve_answered {s u : State} {c : Command} {name : CommandName} {r : Reply}
    {owner : Command → State → State × Reply} (h : s.offers c name)
    (hu : State.sameButMessages { u with port := { u.port with commands := s.port.commands.tail } } (owner c s.taken).1)
    (hp : u.port.responses = s.port.responses) (hr : (owner c s.taken).2 = r) :
    ∃ t, s.serve name owner = .next t ∧ s.answered u c r t :=
  ⟨_, State.serve_offered owner h, by rw [hr]; exact State.post_answered hu hp⟩

/-- The state just after its oldest command has been taken, with some number of messages sent. -/
def State.freed (s : State) (n : Nat) : State :=
  { s with port := { s.port with commands := s.port.commands.tail }, pins := { s.pins with messagesSent := n } }

/-- What the taking of a command leaves: the number of messages sent is the one thing that is not said. -/
theorem State.taken_eq (s : State) : ∃ n, s.taken = s.freed n := ⟨_, State.sameButMessages_taken s⟩

@[simp] theorem State.freed_manager (s : State) (n : Nat) : (s.freed n).manager = s.manager := rfl
@[simp] theorem State.freed_flowMap (s : State) (n : Nat) : (s.freed n).flowMap = s.flowMap := rfl
@[simp] theorem State.freed_flowTurn (s : State) (n : Nat) : (s.freed n).flowTurn = s.flowTurn := rfl
@[simp] theorem State.freed_lanes (s : State) (n : Nat) : (s.freed n).lanes = s.lanes := rfl
@[simp] theorem State.freed_timebase (s : State) (n : Nat) : (s.freed n).timebase = s.timebase := rfl
@[simp] theorem State.freed_transit (s : State) (n : Nat) : (s.freed n).transit = s.transit := rfl
@[simp] theorem State.freed_freeDraws (s : State) (n : Nat) : (s.freed n).freeDraws = s.freeDraws := rfl
@[simp] theorem State.freed_walkPace (s : State) (n : Nat) : (s.freed n).walkPace = s.walkPace := rfl
@[simp] theorem State.freed_pending (s : State) (n : Nat) : (s.freed n).pending = s.pending := rfl
@[simp] theorem State.freed_envelopeType (s : State) (n : Nat) :
    (s.freed n).port.envelopeType = s.port.envelopeType := rfl
@[simp] theorem State.freed_responseThreshold (s : State) (n : Nat) :
    (s.freed n).port.responseThreshold = s.port.responseThreshold := rfl
@[simp] theorem State.freed_spaceThreshold (s : State) (n : Nat) :
    (s.freed n).port.spaceThreshold = s.port.spaceThreshold := rfl
@[simp] theorem State.record_freed (s : State) (n i : Nat) : (s.freed n).record i = s.record i := rfl
@[simp] theorem State.lane_freed (s : State) (n : Nat) (l : LaneId) : (s.freed n).lane l = s.lane l := rfl

/-- The taking of a command and the giving of a record can be told in either order. -/
@[simp] theorem State.setRecord_freed (s : State) (n i : Nat) (r : Record) :
    (s.freed n).setRecord i r = (s.setRecord i r).freed n := rfl

/-- The taking of a command and the giving of a lane can be told in either order. -/
@[simp] theorem State.setLane_freed (s : State) (n : Nat) (l : LaneId) (v : Lane) :
    (s.freed n).setLane l v = (s.setLane l v).freed n := rfl

/-- The turn of a command, from what its owner does just after the taking, whatever number of messages has been sent: the
statement to use for an owner that is worked out case by case. -/
theorem State.serve_answers {s u : State} {c : Command} {name : CommandName} {r : Reply}
    {owner : Command → State → State × Reply} (h : s.offers c name) (hc : u.port.commands = s.port.commands)
    (hp : u.port.responses = s.port.responses) (ho : ∀ n, owner c (s.freed n) = (u.freed n, r)) :
    ∃ t, s.serve name owner = .next t ∧ s.answered u c r t := by
  obtain ⟨n, hn⟩ := State.taken_eq s
  refine State.serve_answered h ?_ hp ?_
  · rw [hn, ho n]; unfold State.freed; rw [hc]; rfl
  · rw [hn, ho n]

/-- A command that the Command Processor may take finds no earlier one unanswered (R157). -/
theorem State.offers_answered {s : State} {c : Command} {name : CommandName} (h : s.offers c name) :
    s.flowTurn = none ∧ s.manager.walk = none := by
  have h1 := h.1
  unfold State.ready State.unanswered at h1
  split at h1
  · cases h1
  · split at h1
    · rename_i hc; simpa using hc.2.1
    · cases h1

/-! ### The turn of a flow command -/

/-- A flow command in its turn arrives at the Flow Classifier (R84, R157). -/
theorem State.serveFlow_offered {s : State} {c : Command} {name : CommandName} (owner : Command → State → FlowOutcome)
    (h : s.offers c name) : s.serveFlow name owner = s.taken.flowArrives c owner := by
  unfold State.serveFlow; rw [(State.offers_answered h).1, h.1]; simp [h.2]

/-- A flow command that finds no enqueue in transit has its turn in one step: the statement to use for an owner that is worked
out case by case, `u` being the state with any reference release taken. -/
theorem State.serveFlow_answers {s u : State} {c : Command} {name : CommandName} {r : Reply}
    {owner : Command → State → FlowOutcome} (h : s.offers c name) (he : s.transit.enqueues = [])
    (hc : u.port.commands = s.port.commands) (hp : u.port.responses = s.port.responses)
    (ho : ∀ n, (owner c (s.freed n)).reply = r ∧ (owner c (s.freed n)).after.transit.enqueues = [] ∧
      (match (owner c (s.freed n)).release with
       | none => (owner c (s.freed n)).after
       | some i => (owner c (s.freed n)).after.releaseReference i) = u.freed n) :
    ∃ t, s.serveFlow name owner = .next t ∧ s.answered u c r t := by
  obtain ⟨n, hn⟩ := State.taken_eq s
  obtain ⟨hr, hq, hs⟩ := ho n
  have hi : (s.freed n).endFlowTurn = s.freed n := by
    unfold State.endFlowTurn State.freed; rw [(State.offers_answered h).1]
  have hw : State.sameButMessages { u with port := { u.port with commands := s.port.commands.tail } } (u.freed n) := by
    unfold State.freed; rw [hc]; rfl
  rw [State.serveFlow_offered owner h, hn]
  unfold State.flowArrives State.flowEvent
  rw [if_pos (show (s.freed n).transit.enqueues = [] from he), hi]
  cases hl : (owner c (s.freed n)).release with
  | none =>
    simp only [hl] at hs
    simp only [hl, hr, hs]
    exact ⟨_, rfl, State.post_answered hw hp⟩
  | some i =>
    simp only [hl] at hs
    simp only [hl, hr, hs, hq, if_true]
    exact ⟨_, rfl, State.post_answered hw hp⟩

/-! ### The turn of a Walk Table -/

/-- A Walk Table in its turn is refused, or begins a walk and makes visits (R145, R157). -/
theorem State.walkTable_offered {s : State} {c : Command} (h : s.offers c .walkTable) :
    execWalkTable s = (match s.taken.beginWalk c with
      | .error st => .next (s.taken.post (headerTag c.header) (status st))
      | .ok t => s.taken.walkOn t) := by
  unfold execWalkTable; rw [(State.offers_answered h).2, h.1]; simp [h.2] <;> rfl

/-! ### The bounds on frames in flight -/

/-- An allocation request would pass the bound of R19 exactly where checks 1 to 5 of R27 pass and 8 frames are in flight under the
CURRENT slot. -/
theorem State.allocationOverfills_iff (s : State) (l : LaneId) (q : AllocationRequest) :
    s.allocationOverfills l q = true ↔ (s.record q.record).allocationCheck l = none ∧
      (s.record q.record).currentPosition.keyPasses = true ∧ 8 ≤ (s.record q.record).currentPosition.inFlight := by
  unfold State.allocationOverfills Record.allocate
  cases hc : (s.record q.record).allocationCheck l with
  | some why => simp
  | none =>
    cases hk : (s.record q.record).currentPosition.keyPasses with
    | false => simp
    | true =>
      simp only [if_true, true_and, decide_eq_true_eq]
      exact Iff.rfl

/-- A lookup would pass the bound of R19 exactly where the seven checks of R116 pass at the record of its tag and 16 frames are in
flight under the slot that its key number selects. -/
theorem State.lookupOverfills_iff (s : State) (l : LaneId) (h : EnvelopeFields) :
    s.lookupOverfills l h = true ↔ ∃ i k, s.tagged h.tag = some i ∧ (s.record i).lookupCheck l h = none ∧
      (s.record i).selectSlot h.keyNumber = some k ∧
      judge ((s.record i).slot k).highest ((s.record i).slot k).accepted (s.record i).config.window h.sequence = .accept ∧
      ((s.record i).slot k).keyPasses = true ∧ 16 ≤ ((s.record i).slot k).inFlight := by
  constructor
  · unfold State.lookupOverfills State.judgeLookup
    intro hw
    cases ht : s.tagged h.tag with
    | none => simp [ht] at hw
    | some i =>
      simp only [ht, Record.lookup, Record.lookupSlot] at hw
      split at hw
      · rename_i g hg
        split at hg
        · cases hg
        · split at hg
          · cases hg
          · split at hg
            · cases hg
            · cases hg
            · split at hg
              · cases hg
                exact ⟨i, _, rfl, ‹_›, ‹_›, ‹_›, ‹_›, of_decide_eq_true hw⟩
              · cases hg
      · cases hw
  · rintro ⟨i, k, ht, hc, hk, hj, hp, hn⟩
    simp [State.lookupOverfills, State.judgeLookup, ht, Record.lookup, hc, hk, Record.lookupSlot, hj, hp, Record.ingressGrant, hn]

/-! ### Frames -/

/-- The FCS is four octets. -/
@[simp] theorem fcsOctets_length (l : List Byte) : (fcsOctets l).length = 4 := rfl

/-- The FCS computed afresh over a frame's octets matches. -/
@[simp] theorem fcsMatches_withFcs (l : List Byte) : fcsMatches (withFcs l) = true := by
  simp [fcsMatches, withFcs]

end Sys2Proof.Machine
end

