-- ==== Sys2Proof/Laws/Rollover.lean ====
section
/-!
SUPPORT. The rollover operations of Machine/Records.lean are the rules of chapter 4 as Safety.lean states them, at the records where
they are called for: one lemma for each, to cite in place of unfolding.
-/

namespace Sys2Proof.Machine

/-- The egress switch of a LIVE or HALTED record is that of R63. -/
theorem Record.switchTo_eq_rule {r : Record} (h : r.state = .live ∨ r.state = .halted) (n : Nat) :
    r.switchTo n = r.ruleSwitch n := by
  unfold Record.switchTo Record.ruleSwitch Record.currentPosition Record.otherPosition Slot.close satAdd
  rcases h with h | h <;> simp [h]

/-- A switch called for at a LIVE or HALTED record is taken as R63 and R64 say. -/
theorem Record.egressSwitch_eq_rule {r : Record} (h : r.state = .live ∨ r.state = .halted) (n : Nat) :
    r.egressSwitch n = r.ruleCall n := by
  simp only [Record.egressSwitch, Record.ruleCall, Record.usableNext, Record.otherPosition, Slot.keyPasses, beq_iff_eq, Record.switchTo_eq_rule h]
  by_cases h1 : (r.slot (!r.currentSlot)).role = .next <;> simp [h1]
  split
  · rfl
  · cases h2 : r.currentSlot <;>
      simp [Record.nextFault, Record.otherPosition, Slot.damage, Record.raiseKeyFault, Record.setSlot, h2]

/-- A lead expiry at a LIVE record is taken as R60 says. -/
theorem Record.leadExpiry_eq_rule {r : Record} (h : r.state = .live) (n : Nat) : r.leadExpiry n = r.ruleLead n := by
  simp only [Record.leadExpiry, Record.ruleLead, Record.egressSwitch_eq_rule (.inl h), Record.enter]

/-- A trigger at a LIVE record is taken as R55, R56 and R59 say. -/
theorem Record.trigger_eq_rule {r : Record} (h : r.state = .live) (n : Nat) : r.trigger n = r.ruleTrigger n := by
  unfold Record.trigger Record.ruleTrigger Record.enterLead
  cases hs : r.stage
  case steady =>
    simp only [Record.usableNext, Record.otherPosition, beq_iff_eq]
    by_cases h1 : (r.slot (!r.currentSlot)).role = .next
    · simp only [h1, if_true, not_true, if_false, ne_eq]
      split
      · rw [Record.leadExpiry_eq_rule (by exact h)]; rfl
      · rfl
    · simp [h1, Record.enter, Record.raiseKeyNeeded]
  all_goals rfl

end Sys2Proof.Machine
end

