-- ==== Sys2Proof/Tests/Slice0.lean ====
section
/-!
SUPPORT. Tests: an ill-formed operand refused for each check of WellFormed; the manual's worked examples and boundary values,
each on one step; and, for each statement with hypotheses, a concrete state and operands that meet them.
-/

open Sys2Proof Sys2Proof.Machine

namespace Sys2Proof.Tests

/-! ### Builders -/

/-- A complete command with its header word and body words, as written through BODY and KEY without a mistake. -/
def written (header : Word) (body : List Word) : Command :=
  { header := header, body := body.map (fun w => (Place.body, w)), overflow := false, framing := false, phase := .complete }

/-- A state with one command waiting in the Command FIFO. -/
def asked (s : State) (c : Command) : State := { s with port := { s.port with commands := [c] } }

/-- The status of the response that a command's turn posts in a state whose Response FIFO is empty (section 11.2: bits 15:8). -/
def answer (i : Instr) (s : State) : Option Nat :=
  match exec i s with
  | .next t => t.port.responses.head?.map (fun w => bits w 15 8)
  | .fault _ | .refused _ => none

/-- A value read from the next state of a command. -/
def after {α : Type} (i : Instr) (s : State) (read : State → α) : Option α :=
  match exec i s with
  | .next t => some (read t)
  | .fault _ | .refused _ => none

/-- A key slot whose stored check code is that of its key. -/
def keyed (role : Role) (number : BitVec 2) : Slot :=
  { role := role, keyNumber := number, key := 7, salt := 9, checkCode := Config.checkCode 7 9 }

/-- A LIVE EGRESS record of lanes 0 and 3 with a CURRENT key in slot 0. -/
def sender : Record :=
  { config := { kind := .egress, laneMask := 9, tag := 0x12, softThreshold := 1000 }
    state := .live, slot0 := keyed .current 1 }

/-- A LIVE INGRESS record of lane 0 with a CURRENT key in slot 0, H = 9, A = (7, 9) and W = 3. -/
def receiver : Record :=
  { config := { kind := .ingress, laneMask := 1, tag := 0x34, window := 3 }
    state := .live, slot0 := { keyed .current 2 with highest := 9, accepted := [7, 9] } }

/-- The reset state with a record at an index. -/
def withRecord (i : Nat) (r : Record) : State := State.reset.setRecord i r

/-- The state while a Part Reset lasts. -/
def closed : State := { State.reset with port := { State.reset.port with resetting := true } }

/-! ### Well-formed operands -/

theorem test_ignored_write_refuses_response_window : (Instr.ignoredWrite 0x00 0).wellFormed = false := by decide
theorem test_ignored_write_takes_levels : (Instr.ignoredWrite 0x10 0).wellFormed = true := by decide
theorem test_ignored_write_refuses_unaligned : (Instr.ignoredWrite 0x11 0).wellFormed = false := by decide
theorem test_ignored_write_refuses_outside : (Instr.ignoredWrite 64 0).wellFormed = false := by decide
theorem test_record_events_refuse_index_8192 :
    (Instr.recordTick 8192).wellFormed = false ∧ (Instr.lifetimeThreshold 8192).wellFormed = false ∧
    (Instr.leadExpiry 8192).wellFormed = false ∧ (Instr.graceExpiry 8192).wellFormed = false ∧
    (Instr.overlapExpiry 8192).wellFormed = false ∧ (Instr.recordTick 8191).wellFormed = true := by decide
theorem test_evidence_refuses_index_8192 :
    (Instr.evidenceArrival 8192 0).wellFormed = false ∧ (Instr.evidenceArrival 0 8192).wellFormed = false := by decide
theorem test_release_refuses_octets_and_index :
    (Instr.release ⟨0, false, .completed, 43⟩).wellFormed = false ∧ (Instr.release ⟨0, false, .completed, 9201⟩).wellFormed = false ∧
    (Instr.release ⟨8192, false, .completed, 44⟩).wellFormed = false ∧
    (Instr.release ⟨0, false, .completed, 44⟩).wellFormed = true := by decide
theorem test_abandon_refuses_index_8192 : (Instr.abandon ⟨8192, true, .badTag⟩).wellFormed = false := by decide
theorem test_queue_messages_refuse_index_8192 :
    (Instr.enqueue 0 8192).wellFormed = false ∧ (Instr.queuedFrameWithdrawal 0 8192).wellFormed = false := by decide
theorem test_line_completion_refuses_no_octet : (Instr.ingressReceiveCompletion 0 (.line [])).wellFormed = false := by decide

/-! ### The table gives no row bits -/

theorem test_no_word_spells_a_command : decodeTableWord 32 0 = none ∧ State.reset.withFetchWord 32 0 = State.reset := by decide

/-! ### The twenty commands at the Command Port -/

/-- The event row, the header word with tag 1 and the body length of each command (section 11.4), in the table's order. -/
def commandRows : List (Instr × CommandName × Word × Nat) :=
  [(.installAssociation, .installAssociation, 0x00010113, 19), (.activateAssociation, .activateAssociation, 0x00010201, 1),
   (.modifyAssociation, .modifyAssociation, 0x00010309, 9), (.retireAssociation, .retireAssociation, 0x00010401, 1),
   (.readAssociation, .readAssociation, 0x00010501, 1), (.clearCounters, .clearCounters, 0x00010601, 1),
   (.loadNextKey, .loadNextKey, 0x0001080B, 11), (.rollNow, .rollNow, 0x00010901, 1),
   (.forceSwitch, .forceSwitch, 0x00010A01, 1), (.addFlow, .addFlow, 0x00011003, 3),
   (.removeFlow, .removeFlow, 0x00011103, 3), (.readFlow, .readFlow, 0x00011203, 3),
   (.setLaneMode, .setLaneMode, 0x00011801, 1), (.configureLane, .configureLane, 0x00011904, 4),
   (.sampleLaneCounters, .sampleLaneCounters, 0x00011A01, 1), (.restartLane, .restartLane, 0x00011B01, 1),
   (.walkTable, .walkTable, 0x00012001, 1), (.takeAttention, .takeAttention, 0x00012100, 0),
   (.configurePart, .configurePart, 0x00012803, 3), (.readPart, .readPart, 0x00012900, 0)]

/-- Every command is offered to its owner where its header and body length are those of its layout. -/
theorem test_witness_offers : ∀ r ∈ commandRows,
    (asked State.reset (written r.2.2.1 (List.replicate r.2.2.2 0))).offers (written r.2.2.1 (List.replicate r.2.2.2 0)) r.2.1 := by
  decide

/-- The commands that name a record index answer BAD_INDEX (6) at 8192 and NOT_PRESENT (8) at 8191 of an empty table. -/
theorem test_index_bounds : ∀ r ∈ (commandRows.take 9).drop 1,
    answer r.1 (asked State.reset (written r.2.2.1 (8192 :: List.replicate (r.2.2.2 - 1) 0))) = some 6 ∧
    answer r.1 (asked State.reset (written r.2.2.1 (8191 :: List.replicate (r.2.2.2 - 1) 0))) = some 8 := by decide

/-- The lane commands answer BAD_VALUE (11) at lane 4 and OK at lane 3, Set Lane Mode naming the present mode OFF. -/
theorem test_lane_bounds : ∀ r ∈ (commandRows.take 16).drop 12,
    answer r.1 (asked State.reset (written r.2.2.1 (4 :: List.replicate (r.2.2.2 - 1) 0))) = some 11 ∧
    answer r.1 (asked State.reset (written r.2.2.1 (3 :: List.replicate (r.2.2.2 - 1) 0))) = some 0 := by decide

/-! ### Record commands -/

/-- The body of an Install Association from its first nine words, with key and salt words of zero. -/
def installBody (ws : List Word) : List Word := ws ++ List.replicate (19 - ws.length) 0

/-- Lead 0x100000 is one above 1,048,575: CLAMPED (23), with the clamped lead stored (R9). -/
theorem test_install_clamps_lead :
    let s := asked State.reset (written 0x00AA0113 (installBody [0x00100005, 0x777777, 0, 0x00100000, 0, 0, 0, 5]))
    answer .installAssociation s = some 23 ∧
    after .installAssociation s (fun t => ((t.record 5).state, (t.record 5).config.lead, (t.record 5).config.softThreshold))
      = some (.staged, 1048575, 5) := by decide

/-- The checks of R8, each failing first: BAD_INDEX, OCCUPIED, BAD_VALUE three times, WRONG_KIND, NOT_PRESENT at its own index,
TAG_IN_USE and BAD_FRAMING. -/
theorem test_install_refusals :
    let ask := fun (s : State) (ws : List Word) => answer .installAssociation (asked s (written 0x00010113 (installBody ws)))
    let used := (withRecord 7 receiver).setRecord 5 sender
    ask State.reset [0x10102000] = some 6 ∧ ask used [0x10100005] = some 7 ∧
    ask State.reset [0x10001FFF] = some 11 ∧ ask State.reset [0x00100005] = some 11 ∧
    ask State.reset [0x14100005, 0, 0x2000] = some 11 ∧ ask used [0x14100009, 0, 5] = some 9 ∧
    ask State.reset [0x14100005, 0, 5] = some 8 ∧
    ask (used.insertTag 0x34 7) [0x00110009, 0x34] = some 12 ∧
    answer .installAssociation (asked State.reset { written 0x00010113 (installBody [0x10100005]) with framing := true })
      = some 3 := by decide

theorem test_witness_InstallEgressRecord :
    let c := written 0x00010113 (installBody [0x04101FFF, 0, 7, 0, 0, 0, 0, 1])
    let s := asked (withRecord 7 receiver) c
    s.offers c .installAssociation ∧ flag (c.word 0) 16 = false ∧ bits (c.word 0) 15 0 < 8192 ∧
    (s.record (bits (c.word 0) 15 0)).state = .free ∧ c.framing = false ∧ bits (c.word 0) 23 20 ≠ 0 ∧
    (flag (c.word 0) 28 = true ∨ c.word 7 ≠ 0 ∨ bits (c.word 8) 15 0 ≠ 0) ∧ flag (c.word 0) 26 = true ∧
    bits (c.word 2) 15 0 < 8192 ∧ (s.record (bits (c.word 2) 15 0)).config.kind = .ingress ∧
    (s.record (bits (c.word 2) 15 0)).state = .live := by decide

theorem test_witness_InstallIngressRecord :
    let c := written 0x00010113 (installBody [0x00111FFF, 0x55, 0xFF0000])
    let s := asked (withRecord 7 receiver) c
    s.offers c .installAssociation ∧ flag (c.word 0) 16 = true ∧ bits (c.word 0) 15 0 < 8192 ∧
    (s.record (bits (c.word 0) 15 0)).state = .free ∧ c.framing = false ∧ bits (c.word 0) 23 20 ≠ 0 ∧
    flag (c.word 0) 26 = false ∧ s.manager.tagIndex.find (bits (c.word 1) 23 0) = none := by decide

/-- Activate moves STAGED to LIVE, and answers BAD_STATE (10) at a LIVE record (R10). -/
theorem test_activate :
    let c := written 0x00010201 [5]
    after .activateAssociation (asked (withRecord 5 { sender with state := .staged }) c) (fun t => (t.record 5).state)
      = some .live ∧
    answer .activateAssociation (asked (withRecord 5 sender) c) = some 10 := by decide

/-- Clear Counters leaves the lifetime counter and zeroes the record counters (R24). -/
theorem test_clear_counters :
    after .clearCounters (asked (withRecord 5 { sender with lifetimeCounter := 6, counters := { framesRefused := 4 } })
      (written 0x00010601 [5])) (fun t => ((t.record 5).lifetimeCounter, (t.record 5).counters.framesRefused))
      = some (6, 0) := by decide

/-- A Modify Association from its words 0 to 2, lifetime value and T low. -/
def modify (w0 w1 w2 value low : Word) : Command := written 0x00010309 [w0, w1, w2, 0, 0, 0, value, low, 0]

/-- A sender at 5 whose lifetime counter is 6 and whose last number is 4, a receiver at 7, and a RETIRING record at 6. -/
def modified : State :=
  ((withRecord 7 receiver).setRecord 5 { sender with lifetimeCounter := 6, slot0 := { keyed .current 1 with nextSequence := 5 } }).setRecord 6
    { sender with state := .retiring }

/-- The refusals of Modify Association in the order of R11; and a lifetime value equal to the counter, and a T equal to the last
number assigned, fire at the Modify, one above does not (R13). -/
theorem test_modify_refusals_and_triggers :
    let stage := fun (c : Command) => after .modifyAssociation (asked modified c) (fun t => (t.record 5).stage)
    let refused := fun (c : Command) => answer .modifyAssociation (asked modified c)
    refused (modify 0x00012000 1 0 0 0) = some 6 ∧ refused (modify 0x00010009 1 0 0 0) = some 8 ∧
    refused (modify 0x00010006 1 0 0 0) = some 22 ∧ refused (modify 0x00010005 0 0 0 0) = some 11 ∧
    refused (modify 0x00040007 0 0 0 0) = some 11 ∧ refused (modify 0x00040005 0x80 0x2000 0 0) = some 11 ∧
    refused (modify 0x04000005 0 0 0 0) = some 11 ∧ refused (modify 0x00040005 0x80 6 0 0) = some 9 ∧
    refused (modify 0x00040005 0x80 9 0 0) = some 8 ∧
    stage (modify 0x02000005 0 0 6 0) = some .awaitKey ∧ stage (modify 0x02000005 0 0 7 0) = some .steady ∧
    stage (modify 0x04000005 0 0 0 4) = some .awaitKey ∧ stage (modify 0x04000005 0 0 0 5) = some .steady := by decide

theorem test_witness_ModifyStoresEgressFields :
    let c := modify 0x06210005 1 0 6 4
    let s := asked modified c
    (s.offers c .modifyAssociation ∧ bits (c.word 0) 15 0 = 5 ∧ (s.record 5).config.kind = .egress ∧ (s.record 5).state = .live ∧
      (s.record 5).triggerLatch = false ∧ flag (c.word 0) 18 = false ∧ bits (c.word 1) 3 0 ≠ 0) ∧
    (flag (c.word 0) 25 = true ∧ (c.word 6).toNat ≤ (s.record 5).lifetimeCounter ∧ flag (c.word 0) 26 = true ∧
      (c.word 7).toNat ≤ (s.record 5).slot0.nextSequence - 1) := by decide

/-- W lowered to 1 trims A, the default W = 63 raises it and trims nothing, and other fields leave it; a lifetime value that the
counter has reached raises STALE_KEY while the stale mark is clear, and one above it does not (R12, R13). -/
theorem test_modify_ingress :
    let done := fun (c : Command) (marked : Bool) =>
      after .modifyAssociation (asked (withRecord 5 { receiver with lifetimeCounter := 6, staleMark := marked }) c) (fun t =>
        ((t.record 5).config.window, (t.record 5).slot0.accepted, (t.record 5).causes.staleKey))
    done (written 0x00010309 [0x00080005, 0, 0x00010000, 0, 0, 0, 0, 0, 0]) false = some (1, [9], false) ∧
    done (modify 0x08080005 0 0 0 0) false = some (63, [7, 9], false) ∧ done (modify 0x00030005 0x11 0 0 0) false = some (3, [7, 9], false) ∧
    done (modify 0x02000005 0 0 6 0) false = some (3, [7, 9], true) ∧ done (modify 0x02000005 0 0 7 0) false = some (3, [7, 9], false) ∧
    done (modify 0x02000005 0 0 6 0) true = some (3, [7, 9], false) := by decide

theorem test_witness_ModifyTrimsWindows :
    let c := modify 0x020B0005 1 0x00020000 6 0
    let s := asked (withRecord 5 { receiver with lifetimeCounter := 6 }) c
    (s.offers c .modifyAssociation ∧ bits (c.word 0) 15 0 = 5 ∧ (s.record 5).state = .live ∧ (s.record 5).config.kind = .ingress ∧
      bits (c.word 1) 3 0 ≠ 0 ∧ flag (c.word 0) 18 = false) ∧
    (flag (c.word 0) 19 = true ∧ bits (c.word 2) 31 16 < (s.record 5).config.window ∧ flag (c.word 0) 25 = true ∧
      (c.word 6).toNat ≤ (s.record 5).lifetimeCounter ∧ (s.record 5).staleMark = false) := by decide

/-- A Retire frees a record that nothing holds, leaves one with a queued frame RETIRING with DRAINING (1), and is refused IN_USE
(13) at one that a flow names (R15). -/
theorem test_retire :
    let ask := fun r => asked (withRecord 5 r) (written 0x00010401 [5])
    after .retireAssociation (ask sender) (fun t => (t.record 5).state) = some .free ∧
    after .retireAssociation (ask { sender with queuedFrames := 1 }) (fun t => ((t.record 5).state, (t.record 5).slot0.role))
      = some (.retiring, .absent) ∧
    answer .retireAssociation (ask { sender with queuedFrames := 1 }) = some 1 ∧
    answer .retireAssociation (ask { sender with flowReferences := 1 }) = some 13 := by decide

/-! ### Rollover commands -/

/-- A key loaded in AWAIT_KEY with a lead of 5 stands as NEXT in slot 1 under the next key number, and the stage is LEAD (R58,
R59). -/
theorem test_load_next_key_enters_lead :
    after .loadNextKey (asked (withRecord 5 { sender with stage := .awaitKey, triggerLatch := true, config := { sender.config with lead := 5 } })
      (written 0x0001080B (5 :: List.replicate 10 0))) (fun t =>
        ((t.record 5).stage, (t.record 5).slot1.role, (t.record 5).slot1.keyNumber, (t.record 5).currentSlot))
      = some (.lead, .next, 2, false) := by decide

/-- A key loaded while a NEXT stands is refused SLOT_BUSY (14) (R58). -/
theorem test_load_next_key_slot_busy :
    answer .loadNextKey (asked (withRecord 5 { sender with slot1 := keyed .next 2 }) (written 0x0001080B (5 :: List.replicate 10 0)))
      = some 14 := by decide

/-- Roll Now without a NEXT enters AWAIT_KEY with KEY_NEEDED, and a second one is refused ALREADY_ROLLING (16) (R57, R55). -/
theorem test_roll_now :
    let c := written 0x00010901 [5]
    after .rollNow (asked (withRecord 5 sender) c) (fun t => ((t.record 5).stage, (t.record 5).causes.keyNeeded))
      = some (.awaitKey, true) ∧
    answer .rollNow (asked (withRecord 5 { sender with stage := .awaitKey }) c) = some 16 := by decide

/-- Force Switch without a NEXT is refused NO_NEXT_KEY (15), and at an ARMED ingress record enters OVERLAP and keeps the NEXT
slot's window (R66, R74). -/
theorem test_force_switch :
    let c := written 0x00010A01 [5]
    let armed := { receiver with stage := .armed, slot1 := keyed .next 3, config := { receiver.config with overlap := 4 } }
    answer .forceSwitch (asked (withRecord 5 sender) c) = some 15 ∧
    after .forceSwitch (asked (withRecord 5 armed) c) (fun t =>
      ((t.record 5).stage, (t.record 5).slot0.role, (t.record 5).slot1.role, (t.record 5).slot1.highest))
      = some (.overlap, .old, .current, 0) := by decide

/-- The clauses of LoadNextKeyEgress: AWAIT_KEY with a lead of 1; with a lead of 0 in mode EVIDENCE without and with the flag;
and AWAIT_EVIDENCE without and with the flag, where the switch leaves slot 1 CURRENT. -/
theorem test_witness_LoadNextKeyEgress :
    let c := written 0x0001080B (5 :: List.replicate 10 0)
    let s := fun (st : Stage) (lead : Nat) (flagged : Bool) => asked (withRecord 5 { sender with
      stage := st, triggerLatch := true, evidence := flagged
      config := { sender.config with lead := lead, switchMode := .evidence } }) c
    ((s .awaitKey 1 false).offers c .loadNextKey ∧ ((s .awaitKey 1 false).record 5).config.kind = .egress) ∧
    after .loadNextKey (s .awaitKey 1 false) (fun t => (t.record 5).stage) = some .lead ∧
    after .loadNextKey (s .awaitKey 0 false) (fun t => (t.record 5).stage) = some .awaitEvidence ∧
    (((s .awaitKey 0 true).record 5).state = .live ∧ ((s .awaitKey 0 true).record 5).stage = .awaitKey ∧
      ((s .awaitKey 0 true).record 5).evidence = true) ∧
    after .loadNextKey (s .awaitEvidence 0 false) (fun t => ((t.record 5).stage, (t.record 5).slot1.role))
      = some (.awaitEvidence, .next) ∧
    (((s .awaitEvidence 0 true).record 5).stage = .awaitEvidence ∧ ((s .awaitEvidence 0 true).record 5).evidence = true) := by decide

theorem test_witness_LoadNextKeyIngress :
    let c := written 0x0001080B (8191 :: List.replicate 10 0)
    let s := asked (withRecord 8191 receiver) c
    s.offers c .loadNextKey ∧ bits (c.word 0) 15 0 < 8192 ∧ (s.record 8191).config.kind = .ingress := by decide

/-- The clauses of RollNowTriggers: a NEXT with a lead of 1, a NEXT with a lead of 0 in mode EVIDENCE, no NEXT, and the refusals. -/
theorem test_witness_RollNowTriggers :
    let c := written 0x00010901 [5]
    let s := fun (lead : Nat) => asked (withRecord 5 { sender with
      slot1 := keyed .next 2, config := { sender.config with lead := lead, switchMode := .evidence } }) c
    ((s 1).offers c .rollNow ∧ ((s 1).record 5).state = .live ∧ ((s 1).record 5).stage = .steady) ∧
    after .rollNow (s 1) (fun t => (t.record 5).stage) = some .lead ∧
    after .rollNow (s 0) (fun t => ((t.record 5).stage, (t.record 5).triggerLatch)) = some (.awaitEvidence, true) ∧
    (asked (withRecord 5 sender) c).offers c .rollNow ∧ answer .rollNow (asked (withRecord 5 receiver) c) = some 9 := by decide

theorem test_witness_EgressSwitch :
    let c := written 0x00010A01 [5]
    let d := written 0x00010901 [8191]
    let s := asked (withRecord 5 { sender with slot1 := keyed .next 2 }) c
    let u := asked (withRecord 8191 { sender with slot1 := keyed .next 2 }) d
    (s.offers c .forceSwitch ∧ (s.record 5).config.kind = .egress) ∧
    (u.offers d .rollNow ∧ bits (d.word 0) 15 0 < 8192 ∧ (u.record 8191).state = .live ∧ (u.record 8191).stage = .steady ∧
      ((u.record 8191).slot true).role = .next ∧ (u.record 8191).config.lead = 0 ∧
      (u.record 8191).config.switchMode = .timed ∧
      ((u.record 8191).slot true).checkCode
        = Config.checkCode ((u.record 8191).slot true).key ((u.record 8191).slot true).salt) :=
  ⟨by decide, by decide, by decide, by decide, by decide, by decide, by decide, by decide, rfl⟩

theorem test_witness_ForceSwitchIngress :
    let c := written 0x00010A01 [8191]
    let s := asked (withRecord 8191 receiver) c
    s.offers c .forceSwitch ∧ bits (c.word 0) 15 0 < 8192 ∧ (s.record 8191).config.kind = .ingress := by decide

/-! ### Flow commands -/

/-- A state with one entry in the Flow Map: lane 0, MAC 0x0000000000AB, UNTAGGED. -/
def withFlow (a : FlowAction) : State :=
  { withRecord 5 { sender with flowReferences := 1 } with flowMap := [{ key := ⟨0, 0xAB, none⟩, action := a, hits := 6 }] }

/-- Add Flow claims a reference, is DUPLICATE (18) without REPLACE, WRONG_KIND (9) at an INGRESS record and BAD_VALUE (11) where
the record's mask lacks the lane (R85). -/
theorem test_add_flow :
    let add := fun (s : State) (w : Word) => asked s (written 0x00011003 [w, 0, 0x00AB0005])
    after .addFlow (add (withRecord 5 sender) 0x00001000) (fun t => ((t.record 5).flowReferences, t.flowMap))
      = some (1, [⟨⟨0, 0xAB, none⟩, .protect 5, 0⟩]) ∧
    answer .addFlow (add (withFlow .bypass) 0x00001000) = some 18 ∧
    answer .addFlow (add (withRecord 5 receiver) 0x00001000) = some 9 ∧
    answer .addFlow (add (withRecord 5 sender) 0x00001001) = some 11 ∧
    answer .addFlow (add State.reset 0x10000200) = some 11 ∧ answer .addFlow (add State.reset 0x0FFF0200) = some 0 := by decide

/-- Remove Flow releases the reference, Read Flow reports the entry, and both answer NO_FLOW (19) for an absent key (R88). -/
theorem test_remove_and_read_flow :
    let ask := fun (s : State) (h w : Word) => asked s (written h [w, 0, 0x00AB0000])
    after .removeFlow (ask (withFlow (.protect 5)) 0x00011103 0x1000) (fun t => ((t.record 5).flowReferences, t.flowMap))
      = some (0, []) ∧
    after .readFlow (ask (withFlow (.protect 5)) 0x00011203 0x1000) (fun t => t.port.responses)
      = some [0x00010002, 0x00050000, 6] ∧
    answer .removeFlow (ask (withFlow .bypass) 0x00011103 0) = some 19 ∧
    answer .readFlow (ask (withFlow .bypass) 0x00011203 0x1001) = some 19 := by decide

/-- A flow command waits at the Flow Classifier, its words out of the Command FIFO, for the enqueues sent before it, and for no
later one; and the reference that a change of the map releases waits for those of before the change (R84). -/
theorem test_flow_command_waits :
    let c := written 0x00011103 [0x1000, 0, 0x00AB0000]
    let s := asked { withFlow (.protect 5) with transit := { enqueues := [(0, 5)] } } c
    let due := { withFlow (.protect 5) with transit := { enqueues := [(1, 5)] }, flowTurn := some (.waiting c []) }
    after .removeFlow s (fun t => (t.port.commands, t.port.responses, t.flowTurn, t.flowMap.length))
      = some ([], [], some (.waiting c [(0, 5)]), 1) ∧
    after .removeFlow due (fun t => (t.flowTurn, t.flowMap, (t.record 5).flowReferences, t.port.responses))
      = some (some (.releasing c 5 [(1, 5)]), [], 1, []) ∧
    after (.enqueue 1 5) { due with flowTurn := some (.releasing c 5 [(1, 5)]) } (fun t => t.flowTurn) = some (some (.releasing c 5 [])) ∧
    after .removeFlow { due with flowTurn := some (.releasing c 5 []) } (fun t => (t.flowTurn, (t.record 5).flowReferences, t.port.responses))
      = some (none, 0, [0x00010000]) := by decide

/-- The turns of AddFlow and RemoveAndReadFlow: due at once, due after a wait, waiting, and releasing. -/
theorem test_witness_flow_turns :
    let add := written 0x00011003 [0x00001003, 0, 0x00AB1FFF]
    let remove := written 0x00011103 [0x1000, 0, 0x00AB0000]
    let read := written 0x00011203 [0x1000, 0, 0x00AB0000]
    let wait := fun (c : Command) => asked { withFlow .discard with transit := { enqueues := [(0, 5)] } } c
    let at_ := fun (t : FlowTurn) => { withFlow (.protect 5) with flowTurn := some t }
    ((wait add).offers add .addFlow ∧ (wait remove).offers remove .removeFlow ∧ (wait read).offers read .readFlow ∧
      (wait add).transit.enqueues ≠ []) ∧
    (∀ c ∈ [add, remove, read], (at_ (.waiting c [])).flowTurn = some (.waiting c []) ∧ (at_ (.waiting c [])).port.resetting = false) ∧
    (add.handedAs .addFlow = true ∧ remove.handedAs .removeFlow = true ∧ read.handedAs .readFlow = true) ∧
    ((at_ (.releasing add 5 [])).flowTurn = some (.releasing add 5 []) ∧
      (at_ (.releasing remove 5 [])).flowTurn = some (.releasing remove 5 [])) := by decide

theorem test_witness_AddFlow_RemoveAndReadFlow :
    let add := written 0x00011003 [0x00001003, 0, 0x00AB1FFF]
    let remove := written 0x00011103 [0x10000000, 0, 0]
    let read := written 0x00011203 [0x0FFF0003, 0, 0]
    (asked (withFlow .discard) add).offers add .addFlow ∧ (asked (withFlow .discard) remove).offers remove .removeFlow ∧
    (asked (withFlow .discard) read).offers read .readFlow ∧ (asked (withFlow .discard) add).transit.enqueues = [] := by decide

/-! ### Lane commands and link events -/

/-- The reset state with lane 0 given. -/
def withLane (v : Lane) : State := State.reset.setLane 0 v

/-- A lane of a mode, with both links UP. -/
def up (m : Mode) : Lane := { control := { mode := m, systemUp := true, lineUp := true } }

/-- OFF goes to CLEAR alone, and mode 4 is BAD_VALUE (11) (R133). -/
theorem test_set_lane_mode :
    let set := fun (m : Mode) (w : Word) => answer .setLaneMode (asked (withLane (up m)) (written 0x00011801 [w]))
    set .off 0x0100 = some 0 ∧ set .off 0x0200 = some 20 ∧ set .protect 0x0300 = some 20 ∧ set .looptest 0x0100 = some 0 ∧
    set .clear 0x0400 = some 11 := by decide

/-- A change out of PROTECT flushes the QUEUED entries and withdraws the PROTECT frames among them (R103). -/
theorem test_mode_change_flushes :
    let v := { up .protect with egress := { buffer := [⟨.queued, [1], some (.protect 5)⟩, ⟨.queued, [2], some .bypass⟩, ⟨.receiving, [3], none⟩] } }
    after .setLaneMode (asked (withLane v) (written 0x00011801 [0x0100])) (fun t =>
      ((t.lane 0).egress.buffer, (t.lane 0).outCount .flushed, t.transit.withdrawals))
      = some ([⟨.receiving, [3], none⟩], 2, [(0, 5)]) := by decide

/-- The manual's example: L_m of 1,800 alone is refused while H_m stays at 1,536, and goes with H_m of 1,900; S is clamped to
64..9,216 (R138). -/
theorem test_configure_lane :
    let ask := fun (body : List Word) => asked State.reset (written 0x00011904 body)
    answer .configureLane (ask [0x1000, 0, 0x07080000, 0]) = some 11 ∧
    after .configureLane (ask [0x1800, 0, 0x0708076C, 0]) (fun t => ((t.lane 0).control.config.highMark, (t.lane 0).control.config.lowMark))
      = some (1900, 1800) ∧
    answer .configureLane (ask [0x100, 63, 0, 0]) = some 23 ∧ answer .configureLane (ask [0x100, 64, 0, 0]) = some 0 ∧
    answer .configureLane (ask [0x100, 9217, 0, 0]) = some 23 ∧ answer .configureLane (ask [0x2000, 0, 0, 0]) = some 11 := by decide

/-- The second sample of the manual's sequence: the response reports 5,000 frames passed at tick 90,000, and the sample record
holds 7,000 at tick 190,000 (R141). -/
theorem test_sample_lane_counters :
    let passed := fun (n : Nat) => ({ outbound := vput (Vector.replicate 16 0) 14 n } : LaneCounters)
    let v := { up .protect with control := { (up .protect).control with counters := passed 7000, sampleCounters := passed 5000, sampleTick := 90000 } }
    let s := { withLane v with timebase := { tickCount := 190000 } }
    after .sampleLaneCounters (asked s (written 0x00011A01 [0])) (fun t =>
      (t.port.responses.take 4, t.port.responses[18]?, (t.lane 0).control.sampleTick, (t.lane 0).control.sampleCounters == passed 7000))
      = some ([0x00010027, 0x00000302, 90000, 0], some 5000, 190000, true) := by decide

/-- Restart Lane aborts the granted frame in a store with its release, and keeps the mode (R104, R142). -/
theorem test_restart_lane :
    let v := { up .clear with egress := { store0 := .held ⟨[1], .line, some ⟨5, false, 0, 1, 0, false, 0, 0⟩, 44⟩ } }
    after .restartLane (asked (withLane v) (written 0x00011B01 [0])) (fun t =>
      ((t.lane 0).egress.store0, (t.lane 0).control.mode, t.transit.releases))
      = some (.free, .clear, [⟨5, false, .aborted, 44⟩]) := by decide

/-- A lost line link aborts the frame in a store bound for the line, and sets LANE (R102, R137). -/
theorem test_link_event :
    let v := { up .clear with egress := { store1 := .sending ⟨[1], .line, none, 0⟩, linePause := some 4 } }
    after (.linkEvent 0 .line false 0) (withLane v) (fun t =>
      ((t.lane 0).egress.store1, (t.lane 0).egress.linePause, (t.lane 0).outCount .aborted, t.port.laneFlag))
      = some (.free, none, 1, true) := by decide

theorem test_witness_LinkEvent :
    (withLane (up .off)).port.resetting = false ∧ ((withLane (up .off)).lane 0).control.lineUp = true ∧
    ((withLane (up .off)).lane 0).control.systemUp = true ∧ (State.reset.lane 3).control.lineUp = false ∧
    (State.reset.lane 3).control.systemUp = false := by decide

/-! ### Reading the table -/

/-- Walk 1 of the manual's sequence: records 2, 3, 9 and 400 in use, UP from 0, filter IN_USE, summary count 3 (R147); a walk DOWN
from 9 with filter EGRESS and count 1 gives a gap word for 9 to 6, the summary of 5 and resume 4; and CONTINUE takes it up at the
cursor (R145). -/
theorem test_walk_table :
    let s := { (((withRecord 2 sender).setRecord 3 sender).setRecord 9 sender).setRecord 400 sender with walkPace := 8192 }
    after .walkTable (asked s (written 0x00012001 [0x03100000])) (fun t => (t.port.responses, t.manager.walkCursor))
      = some ([0x0001000C, 10, 0x80000001, 0x40040002, 0x12, 0, 0x40040003, 0x12, 0, 0x80000004, 0x40040009, 0x12, 0], some 10) ∧
    (let u := { (withRecord 5 sender).setRecord 7 receiver with walkPace := 8192 }
     after .walkTable (asked u (written 0x00012001 [0x01310009])) (fun t => (t.port.responses, t.manager.walkCursor))
       = some ([0x00010005, 4, 0x80000003, 0x40040005, 0x12, 0], some 4) ∧
     after .walkTable (asked { u with manager := { u.manager with walkCursor := some 4 } } (written 0x00012001 [0x0131FFFF])) (fun t =>
       (t.port.responses, t.manager.walkCursor)) = some ([0x00010002, 0xFFFF, 0x80000004], none)) := by
  decide

/-- Walk Table refuses start 8192, direction 2, filter 5, and counts 0 and 21 (R145); CONTINUE at END returns END alone. -/
theorem test_walk_table_checks :
    let ask := fun (s : State) (w : Word) => answer .walkTable (asked s (written 0x00012001 [w]))
    let ended := { State.reset with manager := { State.reset.manager with walkCursor := none } }
    ask State.reset 0x01002000 = some 6 ∧ ask State.reset 0x01020000 = some 11 ∧ ask State.reset 0x01500000 = some 11 ∧
    ask State.reset 0x00000000 = some 11 ∧ ask State.reset 0x15000000 = some 11 ∧
    after .walkTable (asked ended (written 0x00012001 [0x0100FFFF])) (fun t => t.port.responses)
      = some [0x00010001, 0xFFFF] := by decide

/-- The words of Read Association that carry the record's fields (section 11.4). -/
theorem test_read_association :
    after .readAssociation (asked (withRecord 5 receiver) (written 0x00010501 [5])) (fun t =>
      (t.port.responses.length, t.port.responses.take 4, t.port.responses[16]?, t.port.responses[17]?))
      = some (27, [0x0001001A, 0x00010005, 0x34, 0x00030000], some 0x00020022, some 9) := by decide

/-- Take Attention reports the lowest index with its causes and empties them, and answers EMPTY (21) to an empty set (R150). -/
theorem test_take_attention :
    let s := (withRecord 9 { sender with causes := { switched := true } }).setRecord 4
      { sender with state := .halted, haltReason := .graceExpired, causes := { keyNeeded := true, halted := true } }
    after .takeAttention (asked s (written 0x00012100 [])) (fun t => (t.port.responses, (t.record 4).causes.any, (t.record 9).causes.any))
      = some ([0x00010001, 0x01650004], false, true) ∧
    answer .takeAttention (asked (withRecord 5 sender) (written 0x00012100 [])) = some 21 := by decide

/-- A walk of pace 1 takes one visit a turn: an event between two visits is seen at the second, not at the first (R146). -/
theorem test_walk_one_visit_a_turn :
    let s := { (withRecord 0 sender).setRecord 1 sender with walkPace := 1 }
    let turn : WalkTurn := { tag := 1, direction := .up, filter := .all, count := 2, next := some 1, built := {
      entries := [0x40040000, 0x12, 0], summaries := 1, draws := 0 } }
    let c := written 0x00012001 [0x02000000]
    after .walkTable (asked s c) (fun t => (t.manager.walk, t.port.commands)) = some (some turn, []) ∧
    after .walkTable { s with manager := { s.manager with
        walk := some turn, records := [(0, { sender with stage := .lead }), (1, { sender with stage := .lead })] } } (fun t =>
      (t.manager.walk, t.port.responses))
      = some (none, [0x00010007, 2, 0x40040000, 0x12, 0, 0x40040001, 0x02000012, 0]) := by decide

/-- The clauses of WalkTableDescribesEveryIndex for a walk in progress at pace 1: a failing index and the 128th of a run, a FREE
record under ALL, a passing index before and at the summary count, entries that leave no room, and the end of the table. -/
theorem test_witness_WalkTable_held :
    let turn := fun (f : WalkFilter) (next : Option Nat) (run n : Nat) => ({
      tag := 1, direction := .up, filter := f, count := 2, next := next
      built := { entries := List.replicate n 0, run := run, runStart := 3, summaries := 1, draws := 0 } } : WalkTurn)
    let s := fun (x : WalkTurn) => { withRecord 5 sender with manager := { (withRecord 5 sender).manager with walk := some x } }
    let held := fun (x : WalkTurn) => (s x).manager.walk = some x ∧ (s x).port.resetting = false ∧ (s x).walkPace ≤ 1
    (held (turn .all none 2 0) ∧ held (turn .all none 2 62) ∧ held (turn .all none 0 5)) ∧
    (held (turn .ingress (some 5) 2 0) ∧ held (turn .ingress (some 5) 127 62) ∧ ((s (turn .ingress (some 5) 2 0)).record 5).config.kind = .egress) ∧
    (held (turn .all (some 6) 2 0) ∧ ((s (turn .all (some 6) 2 0)).record 6).state = .free) ∧
    (held (turn .egress (some 5) 2 58) ∧ 58 + 1 + 3 ≤ 62 ∧ held (turn .egress (some 5) 2 59) ∧ 62 < 59 + 1 + 3 ∧
      held (turn .egress (some 5) 2 62) ∧ 62 < 62 + 1) ∧
    (turn .egress (some 5) 2 0).built.summaries + 1 = (turn .egress (some 5) 2 0).count := by decide

theorem test_witness_WalkTable :
    let ask := fun (w : Word) => written 0x00012001 [w]
    let fields := fun (w : Word) => (bits w 15 0, bits w 17 16, bits w 22 20, bits w 31 24)
    fields 0x01002000 = (8192, 0, 0, 1) ∧ fields 0x01020000 = (0, 2, 0, 1) ∧ fields 0x0151FFFF = (0xFFFF, 1, 5, 1) ∧
    fields 0x1440FFFF = (0xFFFF, 0, 4, 20) ∧ fields 0x14401FFF = (8191, 0, 4, 20) ∧
    (asked State.reset (ask 0x01002000)).offers (ask 0x01002000) .walkTable ∧
    (asked State.reset (ask 0x01020000)).offers (ask 0x01020000) .walkTable ∧
    (asked State.reset (ask 0x1440FFFF)).offers (ask 0x1440FFFF) .walkTable ∧
    (asked State.reset (ask 0x14401FFF)).offers (ask 0x14401FFF) .walkTable ∧
    (let s := { State.reset with walkPace := 8192 }
     (asked s (ask 0x14401FFF)).offers (ask 0x14401FFF) .walkTable ∧ 8192 ≤ (asked s (ask 0x14401FFF)).walkPace) ∧ (asked State.reset (ask 0x1440FFFF)).manager.walkCursor = some 0 := by decide

/-! ### The Command Port -/

/-- Configure Part refuses envelope types below 0x600, 0x8100 and 0x8808, prescaler 8 and thresholds 0 and 257 (R159). -/
theorem test_configure_part :
    let ask := fun (body : List Word) => answer .configurePart (asked State.reset (written 0x00012803 body))
    ask [2, 0x5FF, 0] = some 11 ∧ ask [2, 0x8100, 0] = some 11 ∧ ask [2, 0x8808, 0] = some 11 ∧ ask [2, 0x600, 0] = some 0 ∧
    ask [0x801, 0, 0] = some 11 ∧ ask [0x701, 0, 0] = some 0 ∧ ask [4, 0, 0] = some 11 ∧ ask [4, 0, 257] = some 11 ∧
    ask [8, 0, 0x01000000] = some 0 := by decide

/-- Read Part after reset: prescaler 0, envelope type 0x88B6, thresholds 1 and 64, tick count 0 (R160). -/
theorem test_read_part :
    after .readPart (asked State.reset (written 0x00012900 [])) (fun t => t.port.responses)
      = some [0x00010004, 0x88B60000, 0x00400001, 0, 0] := by decide

/-- The four answers of the Command Processor itself, in the order of R157. -/
theorem test_command_answered_by_port :
    let c := written 0x00010201 [5]
    let ask := fun (c : Command) => answer .commandAnsweredByPort (asked State.reset c)
    ask { c with phase := .truncated, overflow := true } = some 5 ∧ ask { c with overflow := true, framing := true } = some 4 ∧
    ask (written 0x00010701 [5]) = some 2 ∧ ask (written 0x00010202 [5, 5]) = some 3 ∧ ask { c with framing := true } = some 3 ∧
    ask c = none := by decide

/-- The manual's assembly sequence: a last salt word written through BODY sets the framing mark and completes the command
(R155). -/
theorem test_salt_through_body_marks_framing :
    let c : Command := { written 0x0102080B (List.replicate 10 0) with phase := .assembling 1 }
    after (.bodyWrite 0) (asked State.reset c) (fun t => t.port.commands.map (fun d => (d.framing, d.phase, d.body.length)))
      = some [(true, .complete, 11)] := by decide

/-- A HEADER write closes the command in assembly as truncated; a stray BODY word sets PORT_FAULT (R153, R154). -/
theorem test_header_write_truncates :
    let c : Command := { written 0x01031203 [0] with phase := .assembling 2 }
    after (.headerWrite 0x00012900) (asked State.reset c) (fun t => t.port.commands.map Command.phase)
      = some [.truncated, .complete] ∧
    after (.bodyWrite 0) State.reset (fun t => (t.port.portFault, t.port.commands)) = some (true, []) ∧
    after .assemblyExpiry (asked State.reset c) (fun t => t.port.commands.map Command.phase) = some [.truncated] := by decide

/-- A write that enables a flag that is true sends a message, and one under the hold bit does not (R162). -/
theorem test_service_message :
    after (.serviceEnableWrite 2) State.reset (fun t => t.pins.messagesSent) = some 1 ∧
    after (.serviceEnableWrite 2) { State.reset with port := { State.reset.port with hold := true } } (fun t => t.pins.messagesSent)
      = some 0 ∧
    after (.serviceStatusWrite 0x10) { State.reset with port := { State.reset.port with portFault := true, laneFlag := true } }
      (fun t => (t.port.portFault, t.port.laneFlag)) = some (false, true) := by decide

/-- A read of RESPONSE pops the oldest word, and reads 0 while a Part Reset lasts, as every other place does (R158, R163). -/
theorem test_response_read :
    let s := { State.reset with port := { State.reset.port with responses := [3, 4] } }
    after .responseRead s (fun t => (t.pins.readData, t.port.responses)) = some (3, [4]) ∧
    after .responseRead closed (fun t => t.pins.readData) = some 0 ∧ closed.windowRead 0x10 = 0 ∧
    State.reset.windowRead 0x10 = 0x100 := by decide

/-- A Part Reset drops the hold bit written with it, and drops writes until its end (R163). -/
theorem test_part_reset :
    after (.partReset true) (withRecord 5 sender) (fun t => ((t.record 5).state, t.port.hold, t.port.resetting)) = some (.free, false, true) ∧
    after (.bodyWrite 0) closed (fun t => t.port.portFault) = some false ∧
    after (.partResetEnd ⟨1, 2⟩) closed (fun t => (t.port.resetting, (t.lane 0).control.systemUp, (t.lane 1).control.lineUp))
      = some (false, true, true) := by decide

theorem test_witness_PartReset : State.reset.port.resetting = false ∧ closed.port.resetting = true := by decide

theorem test_witness_CommandAnsweredByPort :
    let c := written 0x00010201 [5]
    let asks := fun (c : Command) => (asked State.reset c).port.commands = [c] ∧ (asked State.reset c).port.responses.length ≤ 192
    (asks { c with phase := .truncated } ∧ ({ c with phase := .truncated } : Command).phase = .truncated) ∧
    (asks { c with overflow := true } ∧ c.phase = .complete) ∧
    (asks (written 0x00013F00 []) ∧ bits 0x00013F00#32 15 8 = 0x3F) ∧
    (asks (written 0x00010200 []) ∧ bits 0x00010200#32 15 8 = 2 ∧ bits 0x00010200#32 5 0 ≠ 1) ∧
    (asks c ∧ bits c.header 15 8 = 2 ∧ bits c.header 5 0 = 1 ∧ (asked State.reset c).offers c .activateAssociation) := by decide

theorem test_witness_BodyAndKeyWrite :
    let c : Command := { written 0x0001080B (List.replicate 9 0) with phase := .assembling 2 }
    (∀ d, State.reset.port.commands.getLast? = some d → d.phase = .complete ∨ d.phase = .truncated) ∧
    (asked State.reset c).port.commands = [] ++ [c] ∧ c.phase = .assembling 2 := by decide

/-- One command with n body words holds 1 + n words, so 254 body words leave a word free and 255 fill the FIFO. -/
theorem test_witness_HeaderWriteAndExpiry :
    let held := fun (n : Nat) => ([written 0x00010113 (List.replicate n 0)].map (fun c => 1 + c.body.length)).sum
    (∀ n, held n = 1 + n) ∧ 1 + 254 < 256 ∧ 256 ≤ 1 + 255 := by
  exact ⟨fun n => by simp [written], by decide, by decide⟩

theorem test_witness_WindowReadsAndWrites :
    State.reset.port.responses = [] ∧ ({ State.reset.port with responses := [1] } : CommandPort).responses = [1] ∧
    (∀ offset ∈ [0x0C, 0x10, 0x11, 0x3C], offset ∉ [0x00, 0x04, 0x08, 0x14, 0x18, 0x1C]) ∧ State.reset.port.resetting = false ∧ closed.port.resetting = true := by decide

/-- LEVELS shows 246 free Command FIFO words, 2 Response FIFO words, and a command in assembly with 8 words expected; SERVICE STATUS
shows RESPONSE, SPACE and PORT_FAULT; SERVICE ENABLE and CONTROL what was stored; and other places 0 (R152). -/
theorem test_window_reads :
    let c : Command := { written 0x00010113 (List.replicate 9 0) with phase := .assembling 8 }
    let s := asked { State.reset with port := { State.reset.port with
      responses := [3, 4], portFault := true, enables := { lane := true }, hold := true } } c
    s.windowRead 0x10 = 0x110004F6 ∧ s.windowRead 0x14 = 0x13 ∧ s.windowRead 0x18 = 8 ∧ s.windowRead 0x1C = 1 ∧
    s.windowRead 0x0C = 3 ∧ s.windowRead 0x08 = 0 ∧ s.windowRead 0x11 = 0 := by decide

/-! ### Ticks -/

/-- A record at index 5 with one tick of the Timebase due to it. -/
def ticking (r : Record) : State := { withRecord 5 r with timebase := { issued := 1 } }

/-- The tick count that follows 2^48−1 is 0 (R42). -/
theorem test_tick_wraps :
    after .tick { State.reset with timebase := { tickCount := 281474976710655 } } (fun t => (t.timebase.tickCount, t.timebase.issued))
      = some (0, 1) := by decide

/-- A record takes an issued tick once, and its timers saturate at 1,048,575 (R45, R47). -/
theorem test_record_tick :
    let r := { sender with stage := .awaitKey, triggerLatch := true, stageTimer := 1048575, graceTimer := 7 }
    after (.recordTick 5) (ticking r) (fun t => ((t.record 5).stageTimer, (t.record 5).graceTimer, t.manager.ticksTaken))
      = some (1048575, 8, [(5, 1)]) ∧
    after (.recordTick 5) (withRecord 5 r) (fun t => (t.record 5).graceTimer) = some 7 := by decide

/-- A lifetime of 10 ticks reached in STEADY without a NEXT: AWAIT_KEY with KEY_NEEDED (R52, R55). -/
theorem test_lifetime_threshold :
    let r := { sender with lifetimeCounter := 9, config := { sender.config with lifetimeValue := 10 } }
    after (.lifetimeThreshold 5) (ticking r) (fun t => ((t.record 5).stage, (t.record 5).causes.keyNeeded, (t.record 5).lifetimeCounter))
      = some (.awaitKey, true, 10) := by decide

/-- A lead of 5 expires at the tick that takes the stage timer to 5: AWAIT_EVIDENCE in mode EVIDENCE without the flag (R60). -/
theorem test_lead_expiry :
    let r := { sender with stage := .lead, triggerLatch := true, stageTimer := 4, slot1 := keyed .next 2
                           config := { sender.config with lead := 5, switchMode := .evidence } }
    after (.leadExpiry 5) (ticking r) (fun t => ((t.record 5).stage, (t.record 5).stageTimer)) = some (.awaitEvidence, 0) := by decide

/-- A grace of 5 expires in AWAIT_KEY: HALTED with GRACE_EXPIRED (R62). -/
theorem test_grace_expiry :
    let r := { sender with stage := .awaitKey, triggerLatch := true, graceTimer := 4, config := { sender.config with grace := 5 } }
    after (.graceExpiry 5) (ticking r) (fun t => ((t.record 5).state, (t.record 5).haltReason, (t.record 5).causes.halted))
      = some (.halted, .graceExpired, true) := by decide

/-- An overlap of 4 expires with a frame in flight under OLD: CLOSING and DRAIN_OLD (R72). -/
theorem test_overlap_expiry :
    let r := { receiver with stage := .overlap, stageTimer := 3, slot1 := { keyed .old 1 with inFlight := 1 }
                             config := { receiver.config with overlap := 4 } }
    after (.overlapExpiry 5) (ticking r) (fun t => ((t.record 5).stage, (t.record 5).slot1.role)) = some (.drainOld, .closing) := by decide

theorem test_witness_TickAndRecordTick :
    let staged := ticking { sender with state := .staged }
    let live := ticking { sender with config := { sender.config with lifetimeValue := 2, lead := 2 }, stage := .lead }
    ((State.reset.timebase.issued ≤ (State.reset.manager.ticksTaken.find 5).getD 0) ∧ State.reset.port.resetting = false) ∧
    ((staged.manager.ticksTaken.find 5).getD 0 < staged.timebase.issued ∧ (staged.record 5).state ≠ .live ∧
      staged.manager.records.Sorted ∧ (∀ p ∈ staged.manager.records, p.2.state ≠ .free) ∧ staged.manager.tagIndex.Sorted ∧
      staged.manager.ticksTaken.Sorted) ∧
    ((live.manager.ticksTaken.find 5).getD 0 < live.timebase.issued ∧ (live.record 5).state = .live ∧
      min 4294967295 ((live.record 5).lifetimeCounter + 1) < (live.record 5).config.lifetimeValue ∧
      (live.record 5).stage = .lead ∧ min 1048575 ((live.record 5).stageTimer + 1) < (live.record 5).config.lead ∧
      (live.record 5).config.grace = 0) := by decide

/-- The clauses of TickExpiries, each at a threshold met exactly: a trigger in STEADY with a NEXT and in DRAIN_OLD, STALE_KEY in
and out of OVERLAP, a lead expiry with a DAMAGED NEXT and the grace reached at the same tick, a grace expiry in LEAD, and an overlap
expiry. -/
theorem test_witness_TickExpiries :
    let life := fun (st : Stage) => { sender with
      stage := st, slot1 := keyed (if st = .steady then .next else .closing) 2, config := { sender.config with lifetimeValue := 1 } }
    let stale := fun (st : Stage) (overlap : Nat) => { receiver with
      stage := st, config := { receiver.config with lifetimeValue := 1, overlap := overlap } }
    let lead := { sender with
      stage := .lead, triggerLatch := true, slot1 := keyed .damaged 2, config := { sender.config with lead := 1, grace := 1 } }
    let grace := { lead with config := { lead.config with lead := 2 } }
    let taken := fun (c : Instr) (r : Record) => after c (ticking r) (fun t => ((t.record 5).stage, (t.record 5).state, (t.record 5).pendingTrigger))
    ((ticking lead).port.resetting = false ∧ ((ticking lead).manager.ticksTaken.find 5).getD 0 < (ticking lead).timebase.issued ∧
      ((ticking lead).record 5).state = .live) ∧
    ((life .steady).triggerLatch = false ∧ (life .steady).config.lifetimeValue ≤ min 4294967295 ((life .steady).lifetimeCounter + 1)) ∧
    taken (.lifetimeThreshold 5) (life .drainOld) = some (.drainOld, .live, true) ∧
    (after (.lifetimeThreshold 5) (ticking (stale .steady 0)) (fun t => (t.record 5).causes.staleKey) = some true ∧
      after (.recordTick 5) (ticking (stale .overlap 2)) (fun t => ((t.record 5).causes.staleKey, (t.record 5).stage)) = some (true, .overlap)) ∧
    (taken (.leadExpiry 5) lead = some (.lead, .halted, false) ∧ taken (.graceExpiry 5) lead = some (.lead, .halted, false) ∧
      taken (.graceExpiry 5) grace = some (.lead, .halted, false)) ∧
    after (.overlapExpiry 5) (ticking { stale .overlap 1 with slot1 := keyed .old 1 }) (fun t =>
      ((t.record 5).stage, (t.record 5).slot1.role, (t.record 5).causes.staleKey)) = some (.steady, .absent, true) := by decide

/-! ### Requests and messages at the records -/

/-- An enqueue raises the queued frames, and a withdrawal of the last frame frees a RETIRING record (R19, R16). -/
theorem test_enqueue_and_withdrawal :
    let sent := { withRecord 5 sender with transit := { enqueues := [(0, 5)] } }
    let back := { withRecord 5 { sender with state := .retiring, queuedFrames := 1, slot0 := Slot.erased } with
      transit := { withdrawals := [(0, 5)] } }
    after (.enqueue 0 5) sent (fun t => ((t.record 5).queuedFrames, t.transit.enqueues)) = some (1, []) ∧
    after (.queuedFrameWithdrawal 0 5) back (fun t => (t.record 5).state) = some .free := by decide

/-- An allocation request of a lane in the reset state with a record at index 5, for 44 protected octets. -/
def requesting (r : Record) : State :=
  (withRecord 5 r).setLane 0 { up .protect with egress := { request := some ⟨5, 44⟩, store0 := .reserved .line } }

/-- A lane outside the mask is refused WRONG_LANE, and a HALTED record HALTED before it (R27). -/
theorem test_allocation_refusals :
    let answered := fun (r : Record) => after (.allocationRequest 0) (requesting r) (fun t =>
      ((t.lane 0).egress.answer, (t.record 5).counters.framesRefused))
    let laneless := { sender with config := { sender.config with laneMask := 14 } }
    answered laneless = some (some (.refused .wrongLane), 1) ∧
    answered { laneless with state := .halted } = some (some (.refused .halted), 1) ∧
    answered { sender with state := .staged } = some (some (.refused .notReady), 1) ∧
    answered { sender with state := .retiring, queuedFrames := 2 } = some (some (.refused .retired), 1) := by decide

theorem test_witness_AllocationRefused :
    let s := requesting { sender with slot0 := { keyed .current 1 with checkCode := Config.checkCode 7 9 + 1 } }
    ((s.lane 0).egress.request = some ⟨5, 44⟩ ∧ (s.lane 0).egress.answer = none ∧
      s.transit.enqueues.count (0, 5) ≤ s.queuedEntries 0 5 ∧
      s.queuedEntries 0 5 < { s with transit := { enqueues := [(0, 5)] } }.transit.enqueues.count (0, 5) ∧
      (s.record 5).state = .live ∧ (s.record 5).config.laneMask.getLsbD 0 = true) ∧
    (s.record 5).slot0.checkCode ≠ Config.checkCode (s.record 5).slot0.key (s.record 5).slot0.salt :=
  ⟨by decide, Nat.succ_ne_self _⟩

/-- The clauses of AllocationGranted: below T = 1,000, at T in STEADY with and without a NEXT and in DRAIN_OLD, and at the last
number, 2^48−1, with a NEXT and without. -/
theorem test_witness_AllocationGranted :
    let r := fun (n : Nat) (st : Stage) (beside : Role) => { sender with
      stage := st, slot0 := { keyed .current 1 with nextSequence := n }, slot1 := if beside = .absent then {} else keyed beside 2
      config := { sender.config with lead := 1 } }
    let s := fun (n : Nat) (st : Stage) (beside : Role) => requesting (r n st beside)
    ((s 1000 .steady .absent).port.resetting = false ∧ ((s 1000 .steady .absent).lane 0).egress.request = some ⟨5, 44⟩ ∧
      ((s 1000 .steady .absent).lane 0).egress.answer = none ∧
      (s 1000 .steady .absent).transit.enqueues.count (0, 5) ≤ (s 1000 .steady .absent).queuedEntries 0 5 ∧
      ((s 1000 .steady .absent).record 5).slot0.inFlight < 8 ∧
      ((s 1000 .steady .absent).record 5).state = .live ∧ ((s 1000 .steady .absent).record 5).config.laneMask.getLsbD 0 = true) ∧
    (¬ (r 999 .steady .absent).config.softThreshold ≤ 999 ∧ (r 1000 .steady .next).config.softThreshold ≤ 1000 ∧
      (r 1000 .drainOld .closing).triggerLatch = false) ∧
    ((r 281474976710655 .steady .next).slot0.nextSequence = 2 ^ 48 - 1 ∧ (r 281474976710655 .steady .next).slot0.role = .current ∧
      (r 281474976710655 .drainOld .closing).slot1.role ≠ .next) ∧
    (keyed .current 1).checkCode = Config.checkCode (keyed .current 1).key (keyed .current 1).salt :=
  ⟨by decide, by decide, by decide, rfl⟩

/-- Lane 0 asks for a grant under a slot whose eight frames in flight all have their releases in transit. -/
def eightInFlight : State :=
  { requesting { sender with slot0 := { keyed .current 1 with inFlight := 8 }, queuedFrames := 1 } with
    transit := { releases := List.replicate 8 ⟨5, false, .completed, 44⟩ } }

/-- The request waits, for R19 gives a slot at most 8 in flight; with 7 it does not. -/
theorem test_request_waits_at_eight :
    exec (.allocationRequest 0) eightInFlight = .next eightInFlight ∧
    (eightInFlight.setRecord 5 { sender with slot0 := { keyed .current 1 with inFlight := 7 } }).allocationDue 0 ⟨5, 44⟩ = true := by
  have h8 : eightInFlight.allocationOverfills 0 ⟨5, 44⟩ = true :=
    (State.allocationOverfills_iff _ _ _).mpr ⟨by decide, beq_self_eq_true _, by decide⟩
  refine ⟨?_, ?_⟩
  · show execAllocationRequest 0 eightInFlight = _
    have ho : (eightInFlight.lane 0).egress.openRequest = some ⟨5, 44⟩ := by decide
    have hr : eightInFlight.port.resetting = false := by decide
    simp [execAllocationRequest, State.unlessResetting, hr, ho, State.allocationDue, h8]
  · rw [State.allocationDue, Bool.and_eq_true, Bool.not_eq_true', ← Bool.not_eq_true, State.allocationOverfills_iff]
    exact ⟨by decide, fun h => absurd h.2.2 (by decide)⟩

/-- A threshold met in DRAIN_OLD leaves a pending trigger, and the last number halts a record without a NEXT (R30, R31, R32). -/
theorem test_grant_thresholds :
    let granted := fun (n : Nat) (st : Stage) (beside : Slot) => Record.grant { sender with
      stage := st, slot0 := { keyed .current 1 with nextSequence := n }, slot1 := beside } 44 0
    let done := fun (r : Record) => (r.state, r.stage, r.pendingTrigger, r.slot0.inFlight)
    done (granted 1000 .drainOld { keyed .closing 0 with inFlight := 1 }) = (.live, .drainOld, true, 1) ∧
    done (granted 281474976710655 .steady {}) = (.halted, .awaitKey, false, 1) := by decide

/-- A COMPLETED release under a CLOSING slot counts the frame, erases the slot and ends DRAIN_OLD (R37, R65). -/
theorem test_release :
    let s := { withRecord 5 { sender with stage := .drainOld, slot1 := { keyed .closing 0 with inFlight := 1 } } with
      transit := { releases := [⟨5, true, .completed, 1500⟩] } }
    after (.release ⟨5, true, .completed, 1500⟩) s (fun t =>
      ((t.record 5).stage, (t.record 5).slot1.role, (t.record 5).counters.framesProtected, (t.record 5).counters.octetsProtected))
      = some (.steady, .absent, 1, 1500) := by decide

/-- An abandon after a failed verification counts BAD_TAG and leaves the window (R123). -/
theorem test_abandon :
    let s := { withRecord 5 { receiver with slot0 := { receiver.slot0 with inFlight := 2 } } with
      transit := { abandons := [⟨5, false, .badTag⟩] } }
    after (.abandon ⟨5, false, .badTag⟩) s (fun t =>
      ((t.record 5).slot0.inFlight, (t.record 5).counters.badTag, (t.record 5).slot0.accepted)) = some (1, 1, [7, 9]) := by decide

/-- The clauses of ReleaseAndAbandon: a release and an abandon under the CLOSING slot of a record in DRAIN_OLD with a pending trigger,
which then fires, and a release under its CURRENT slot. -/
theorem test_witness_ReleaseAndAbandon :
    let s := { withRecord 5 { sender with
        stage := .drainOld, pendingTrigger := true, slot0 := { keyed .current 1 with inFlight := 1 }
        slot1 := { keyed .closing 0 with inFlight := 1 } } with
      transit := { releases := [⟨5, true, .completed, 44⟩, ⟨5, false, .aborted, 44⟩], abandons := [⟨5, true, .abort⟩] } }
    (s.port.resetting = false ∧ (⟨5, true, .completed, 44⟩ : ReleaseMsg) ∈ s.transit.releases ∧
      (⟨5, true, .abort⟩ : AbandonMsg) ∈ s.transit.abandons ∧ (⟨5, false, .aborted, 44⟩ : ReleaseMsg) ∈ s.transit.releases) ∧
    after (.release ⟨5, true, .completed, 44⟩) s (fun t => ((t.record 5).stage, (t.record 5).pendingTrigger, (t.record 5).causes.keyNeeded))
      = some (.awaitKey, false, true) ∧
    after (.release ⟨5, false, .aborted, 44⟩) s (fun t => ((t.record 5).stage, (t.record 5).slot0.inFlight)) = some (.drainOld, 0) := by decide

/-- The rows of R119 at H = 9, A = (7, 9) and W = 3: 10 is accepted, 9 and 7 are REPLAY, 8 and 6 are accepted, 5 is LATE. -/
theorem test_replay_window :
    [10, 9, 7, 8, 6, 5].map (judge 9 [7, 9] 3) = [.accept, .replay, .replay, .accept, .accept, .late] ∧
    (receiver.slot0.accept 3 11).accepted = [9, 11] ∧ (receiver.slot0.accept 3 8).accepted = [7, 8, 9] := by decide

/-- A frame store in LOOKUP or COMMITTING on lane 0, store 2, with a record at index 5 whose tag is in the Tag Index. -/
def holding (r : Record) (st : StoreStatus) : State :=
  ((withRecord 5 r).insertTag r.config.tag 5).setLane 0
    { up .protect with ingress := { stores := vput (Vector.replicate 4 none) 2 (some ⟨.line, false, st⟩), ages := [2] } }

/-- A lookup under key number 2: LATE at 5, REPLAY at 9, BAD_HEADER where C differs, NO_KEY under key number 0, UNKNOWN_TAG. -/
theorem test_lookup_refusals :
    let asked := fun (h : EnvelopeFields) => after (.lookup 0 2) (holding receiver (.lookup [] h none)) (fun t =>
      match (t.lane 0).ingress.store 2 with
      | some ⟨_, _, .lookup _ _ a⟩ => a
      | _ => none)
    asked ⟨0x34, 2, 5, false⟩ = some (some (.refused .late)) ∧ asked ⟨0x34, 2, 9, false⟩ = some (some (.refused .replay)) ∧
    asked ⟨0x34, 2, 9, true⟩ = some (some (.refused .badHeader)) ∧ asked ⟨0x34, 0, 9, false⟩ = some (some (.refused .noKey)) ∧
    asked ⟨0x35, 2, 9, false⟩ = some (some (.refused .unknownTag)) := by decide

/-- The clauses of LookupRefused that name one eligible slot, at the two edges of the window W = 3, H = 9: 5 below it and 7 in
it. -/
theorem test_witness_LookupRefused :
    let s := holding receiver (.lookup [] ⟨0x34, 2, 5, false⟩ none)
    let r := s.record 5
    (s.manager.records.Sorted ∧ (∀ p ∈ s.manager.records, p.2.state ≠ .free) ∧ s.manager.tagIndex.Sorted) ∧
    s.manager.tagIndex.find 0x34 = some 5 ∧ s.manager.tagIndex.find 0x35 = none ∧
    (s.lane 0).ingress.store 2 = some ⟨.line, false, .lookup [] ⟨0x34, 2, 5, false⟩ none⟩ ∧
    (r.state = .live ∧ r.config.laneMask.getLsbD 0 = true ∧ r.slot0.keyNumber = 2 ∧ r.slot0.role = .current ∧ r.slot1.keyNumber ≠ 2) ∧
    (5 ≤ r.slot0.highest ∧ 5 < max 1 (r.slot0.highest - r.config.window)) ∧
    (max 1 (r.slot0.highest - r.config.window) ≤ 7 ∧ 7 ∈ r.slot0.accepted) := by decide

/-- The clauses of LookupGranted: key number 2 under CURRENT, key number 0 under CURRENT with the other slot ABSENT, whose erased
key number is 0 too, a damaged NEXT in ARMED, and a damaged OLD in OVERLAP. -/
theorem test_witness_LookupGranted :
    let bad := fun (role : Role) => { keyed role 3 with checkCode := Config.checkCode 7 9 + 1 }
    let h : EnvelopeFields := ⟨0x34, 2, 6, false⟩
    let s := holding { receiver with slot1 := bad .next, stage := .armed } (.lookup [] h none)
    let zero := holding { receiver with slot0 := { receiver.slot0 with keyNumber := 0 } } (.lookup [] ⟨0x34, 0, 6, false⟩ none)
    let old := holding { receiver with slot1 := bad .old, stage := .overlap } (.lookup [] ⟨0x34, 3, 6, false⟩ none)
    ((s.lane 0).ingress.store 2 = some ⟨.line, false, .lookup [] h none⟩ ∧ s.manager.tagIndex.find 0x34 = some 5 ∧
      (s.record 5).config.laneMask.getLsbD 0 = true ∧ (s.record 5).state = .live ∧ (s.record 5).slot0.keyNumber = 2 ∧
      (s.record 5).slot1.keyNumber ≠ 2 ∧ (s.record 5).slot0.role = .current ∧ max 1 ((s.record 5).slot0.highest - 3) ≤ 6 ∧
      6 ∉ (s.record 5).slot0.accepted) ∧
    ((zero.record 5).slot0.keyNumber = 0 ∧ (zero.record 5).slot1.keyNumber = 0 ∧ (zero.record 5).slot1.role = .absent) ∧
    ((s.record 5).slot1.role = .next ∧ (s.record 5).stage = .armed ∧ (s.record 5).slot1.highest < 6) ∧
    ((old.record 5).slot1.role = .old ∧ (old.record 5).stage = .overlap ∧ (old.record 5).slot0.keyNumber ≠ 3) ∧
    (s.record 5).slot0.checkCode = Config.checkCode (s.record 5).slot0.key (s.record 5).slot0.salt ∧
    (s.record 5).slot1.checkCode ≠ Config.checkCode (s.record 5).slot1.key (s.record 5).slot1.salt :=
  ⟨by decide, by decide, by decide, by decide, rfl, Nat.succ_ne_self _⟩

/-- Lane 0 asks for a lookup under a slot whose sixteen frames in flight all have their abandons in transit. -/
def sixteenInFlight : State :=
  { holding { receiver with slot0 := { receiver.slot0 with inFlight := 16 } } (.lookup [] ⟨0x34, 2, 10, false⟩ none) with
    transit := { abandons := List.replicate 16 ⟨5, false, .abort⟩ } }

/-- The lookup waits, for R19 gives a slot at most 16 in flight. -/
theorem test_lookup_waits_at_sixteen : exec (.lookup 0 2) sixteenInFlight = .next sixteenInFlight := by
  have ho : sixteenInFlight.lookupOverfills 0 ⟨0x34, 2, 10, false⟩ = true :=
    (State.lookupOverfills_iff _ _ _).mpr
      ⟨5, false, by decide, by decide, by decide, by decide, beq_self_eq_true _, by decide⟩
  have hs : (sixteenInFlight.lane 0).ingress.store 2 = some ⟨.line, false, .lookup [] ⟨0x34, 2, 10, false⟩ none⟩ := by decide
  have hr : sixteenInFlight.port.resetting = false := by decide
  show execLookup 0 2 sixteenInFlight = _
  simp only [execLookup, State.unlessResetting, hr, hs, ho, if_true, Bool.false_eq_true, if_false]

/-- A commit of 8 at H = 9 is accepted, enters A and ends the frame's grant; one of 9 is REPLAY and leaves A (R122). Under source
OCTETS an accepted frame's 48 octets fill the block of 65,536 and raise the counter to the lifetime, with STALE_KEY (R51, R53); under
a CLOSING slot nothing is credited, and its last frame erases it and ends DRAIN_OLD (R73). -/
theorem test_commit :
    let sent := fun (n : Nat) => after (.commit 0 2) (holding { receiver with slot0 := { receiver.slot0 with inFlight := 1 } }
      (.committing (List.replicate 92 0) ⟨0x34, 2, n, false⟩ ⟨5, false, 7, 9⟩ [] none)) (fun t =>
        ((t.record 5).slot0.accepted, (t.record 5).slot0.inFlight, (t.record 5).counters.octetsAccepted, (t.record 5).counters.replay))
    let g := { receiver.config with lifetimeSource := .octets, lifetimeValue := 3 }
    let st := StoreStatus.committing (List.replicate 92 0) ⟨0x34, 2, 10, false⟩ ⟨5, false, 7, 9⟩ [] none
    let r := { receiver with config := g, lifetimeCounter := 2, octetRemainder := 65488 }
    let closing := { r with stage := .drainOld, currentSlot := true, slot0 := { r.slot0 with role := .closing, inFlight := 1 }, slot1 := keyed .current 3 }
    let done := fun (t : State) => ((t.record 5).lifetimeCounter, (t.record 5).octetRemainder, (t.record 5).causes.staleKey, (t.record 5).stage, (t.record 5).slot0.role)
    sent 8 = some ([7, 8, 9], 0, 48, 0) ∧ sent 9 = some ([7, 9], 0, 0, 1) ∧
    after (.commit 0 2) (holding r st) done = some (3, 0, true, .steady, .current) ∧
    after (.commit 0 2) (holding closing st) done = some (2, 65488, false, .steady, .absent) :=
  ⟨by decide, by decide, by decide +kernel, by decide +kernel⟩

/-- A first commit under NEXT makes the switch: capture 1, OVERLAP, and SWITCHED (R70). -/
theorem test_commit_switches :
    let r := { receiver with stage := .armed, slot1 := { keyed .next 3 with inFlight := 1 }, config := { receiver.config with overlap := 9 } }
    after (.commit 0 2) (holding r (.committing (List.replicate 92 0) ⟨0x34, 3, 1, false⟩ ⟨5, true, 7, 9⟩ [] none)) (fun t =>
      ((t.record 5).stage, (t.record 5).currentSlot, (t.record 5).slot0.role, (t.record 5).switchCapture, (t.record 5).causes.switched))
      = some (.overlap, true, .old, 1, true) := by decide

/-- The clauses of CommitRefused and CommitAccepted: under CURRENT 9 is REPLAY, 5 is LATE and 10 is accepted; RETIRED; NO_KEY; and
the commits under OLD, under CLOSING and under a NEXT of a HALTED record. -/
theorem test_witness_CommitRefused_CommitAccepted :
    let s := fun (r : Record) => holding r (.committing [] ⟨0x34, 2, 9, false⟩ ⟨5, false, 7, 9⟩ [] none)
    let r := (s receiver).record 5
    let old := ((s { receiver with stage := .overlap, currentSlot := true, slot0 := { receiver.slot0 with role := .old } }).record 5)
    let closing := ((s { receiver with
      stage := .drainOld, currentSlot := true, slot0 := { receiver.slot0 with role := .closing, inFlight := 1 } }).record 5)
    ((s receiver).port.resetting = false ∧
      ((s receiver).lane 0).ingress.store 2 = some ⟨.line, false, .committing [] ⟨0x34, 2, 9, false⟩ ⟨5, false, 7, 9⟩ [] none⟩) ∧
    (r.state = .live ∧ r.slot0.role = .current ∧ ¬ r.slot0.highest < 9 ∧ max 1 (r.slot0.highest - r.config.window) ≤ 9 ∧
      9 ∈ r.slot0.accepted) ∧
    ¬ max 1 (r.slot0.highest - r.config.window) ≤ 5 ∧ r.slot0.highest < 10 ∧
    (old.state ≠ .retiring ∧ old.slot0.role = .old) ∧
    (closing.state ≠ .retiring ∧ closing.config.kind = .ingress ∧ closing.slot0.role = .closing ∧ ¬ 1 < closing.slot0.inFlight) ∧
    (let q := (s { receiver with state := .retiring, slot0 := keyed .closing 2 }).record 5
     q.state = .retiring ∧ q.slot0.role = .closing) ∧
    (let q := (s { receiver with state := .halted, slot0 := keyed .damaged 2, slot1 := keyed .next 3 }).record 5
     q.state = .halted ∧ q.slot0.role = .damaged ∧ q.slot1.role = .next ∧ q.currentSlot = !true ∧ q.slot1.highest < 1) := by decide

/-- An evidence arrival sets the flag at the record that names its sender, and at no other (R61). -/
theorem test_evidence_arrival :
    let s := fun (c : Option Nat) => { withRecord 5 { sender with config := { sender.config with companion := c } } with
      transit := { evidence := [(7, 5)] } }
    after (.evidenceArrival 7 5) (s (some 7)) (fun t => ((t.record 5).evidence, t.transit.evidence)) = some (true, []) ∧
    after (.evidenceArrival 7 5) (s (some 8)) (fun t => (t.record 5).evidence) = some false := by decide

theorem test_witness_EvidenceArrival :
    let r := { sender with stage := .awaitEvidence, slot1 := keyed .next 2, config := { sender.config with companion := some 7 } }
    let s := { withRecord 5 r with transit := { evidence := [(7, 5)] } }
    ((7, 5) ∈ s.transit.evidence ∧ (s.record 5).config.kind = .egress ∧ (s.record 5).state = .live ∧
      (s.record 5).config.companion = some 7 ∧ (s.record 5).stage = .awaitEvidence ∧ (s.record 5).slot1.role = .next) ∧
    (s.record 5).slot1.checkCode = Config.checkCode (s.record 5).slot1.key (s.record 5).slot1.salt := ⟨by decide, rfl⟩

/-- The clauses of EvidenceArrival for a NEXT found DAMAGED and for one whose key fails. -/
theorem test_witness_EvidenceArrival_damaged :
    let r := fun (new : Slot) => { sender with stage := .awaitEvidence, slot1 := new, config := { sender.config with companion := some 7 } }
    let s := fun (new : Slot) => { withRecord 5 (r new) with transit := { evidence := [(7, 5)] } }
    let failing := { keyed .next 2 with checkCode := (keyed .next 2).checkCode + 1 }
    ((s (keyed .damaged 2)).record 5).slot1.role = .damaged ∧ ((s failing).record 5).slot1.role = .next ∧
    failing.checkCode ≠ Config.checkCode failing.key failing.salt := ⟨by decide, by decide, Nat.succ_ne_self _⟩

/-! ### Frames -/

/-- The CRC-32 check value of the nine octets "123456789", 0xCBF43926, low octet first (log entry 2). -/
theorem test_fcs_check_value :
    fcsOctets [0x31, 0x32, 0x33, 0x34, 0x35, 0x36, 0x37, 0x38, 0x39] = [0x26, 0x39, 0xF4, 0xCB] := by decide +kernel

/-- The envelope header of section 11.1: version 1, C set, key number 2, tag 0x123456, sequence number 0x0102. -/
theorem test_envelope_header :
    envelopeHeader 0x88B6 ⟨0x123456, 2, 0x0102, true⟩
      = [0x88, 0xB6, 0x16, 0x12, 0x34, 0x56, 0, 0, 0, 0, 1, 2] := by decide

/-- n of a 64-octet frame is 48 without a VLAN tag and 44 with one (R39). -/
theorem test_protected_octets :
    protectedCount (List.replicate 64 0) = 48 ∧
    protectedCount (List.replicate 12 0 ++ [0x81, 0x00] ++ List.replicate 50 0) = 44 := by decide

/-- A frame of 60 octets with its FCS: the shortest, untagged, of type 0x0800. -/
def shortest : Frame := withFcs (List.replicate 12 0 ++ [0x08, 0x00] ++ List.replicate 46 0)

theorem test_witness_SealedFrameOpens :
    64 ≤ shortest.length ∧ fcsMatches shortest = true ∧ 1 ≤ 281474976710655 ∧ 281474976710655 < 2 ^ 48 ∧
    (0x88B6 : BitVec 16) ≠ 0x8100 := by decide +kernel

/-! ### The Egress Engine -/

/-- An outbound frame of n octets in reception on lane 0 in PROTECT. -/
def arriving (n : Nat) : State := withLane { up .protect with egress := { buffer := [⟨.receiving, List.replicate n 0, none⟩] } }

/-- The first octet opens an entry; octet 129 claims the second cell (R92). -/
theorem test_cell_claim :
    after (.cellClaim 0 true 5) (withLane (up .protect)) (fun t => ((t.lane 0).egress.buffer, (t.lane 0).egress.occupancy))
      = some ([⟨.receiving, [5], none⟩], 1) ∧
    after (.cellClaim 0 false 5) (arriving 128) (fun t => (t.lane 0).egress.occupancy) = some 2 ∧
    after (.cellClaim 0 false 5) (arriving 127) (fun t => (t.lane 0).egress.occupancy) = some 1 := by decide +kernel

theorem test_witness_CellClaim :
    let e := ((arriving 128).lane 0).egress
    (e.buffer = [] ++ [⟨.receiving, List.replicate 128 0, none⟩] ∧ 128 % 128 = 0 ∧ min 72 ((128 + 127) / 128) < 72) ∧
    (∀ x ∈ ((withLane (up .off)).lane 0).egress.buffer, x.status ≠ .receiving) := by decide

/-- The occupancy that the clauses of CellClaim compare: 28 entries of 9,216 octets fill 2,016 cells, and 32 of one cell the
rest. -/
theorem test_witness_CellClaim_full :
    (List.replicate 28 (min 72 ((9216 + 127) / 128)) ++ List.replicate 32 (min 72 ((64 + 127) / 128))).sum = 2048 := by decide

/-- A frame of 63 octets is dropped RUNT (R93). -/
theorem test_egress_runt :
    after (.egressReceiveCompletion 0) (arriving 63) (fun t => ((t.lane 0).egress.buffer, (t.lane 0).outCount .runt)) = some ([], 1) := by
  decide

/-- The shortest frame in PROTECT, whose flow key names record 5, is QUEUED with its enqueue sent and its hit counted (R82,
R95). -/
theorem test_egress_classified :
    let s := { withLane { up .protect with egress := { buffer := [⟨.receiving, shortest, none⟩] } } with
      flowMap := [⟨⟨0, 0, none⟩, .protect 5, 4294967295⟩] }
    after (.egressReceiveCompletion 0) s (fun t =>
      ((t.lane 0).egress.buffer.map Entry.disposition, t.flowMap.map FlowEntry.hits, t.transit.enqueues))
      = some ([some (.protect 5)], [4294967295], [(0, 5)]) := by decide +kernel

theorem test_witness_EgressReceiveCompletion :
    let control : Frame := withFcs (List.replicate 12 0 ++ [0x88, 0x08, 0x00, 0x01] ++ List.replicate 44 0)
    let damaged : Frame := List.replicate 64 0
    (shortest.length = 64 ∧ fcsMatches shortest = true ∧ shortest.length ≤ 1522 ∧ fieldAt shortest 12 2 ≠ 0x8808) ∧
    (64 ≤ control.length ∧ fcsMatches control = true ∧ fieldAt control 12 2 = 0x8808) ∧
    (64 ≤ damaged.length ∧ fcsMatches damaged = false) ∧ 63 < shortest.length ∧ (List.replicate 63 (0 : Byte)).length < 64 := by
  decide +kernel

/-- A BYPASS head starts into store 0 as it was received; a PROTECT head sets its store aside and asks for n = 48 (R96, R97). -/
theorem test_head_taken :
    let one := fun (d : Disposition) => withLane { up .protect with egress := { buffer := [⟨.queued, List.replicate 64 0, some d⟩] } }
    after (.headTaken 0) (one .bypass) (fun t => ((t.lane 0).egress.store0, (t.lane 0).egress.buffer))
      = some (.held ⟨List.replicate 64 0, .line, none, 0⟩, []) ∧
    after (.headTaken 0) (one (.protect 5)) (fun t => ((t.lane 0).egress.store0, (t.lane 0).egress.request))
      = some (.reserved .line, some ⟨5, 48⟩) := by decide

/-- A PROTECT head with the line down is dropped LINK_DOWN with its withdrawal (R96). -/
theorem test_head_link_down :
    let v := up .protect
    after (.headTaken 0) (withLane { v with control := { v.control with lineUp := false }
                                            egress := { buffer := [⟨.queued, [1], some (.protect 5)⟩] } })
      (fun t => ((t.lane 0).egress.buffer, (t.lane 0).outCount .linkDown, t.transit.withdrawals)) = some ([], 1, [(0, 5)]) := by decide

theorem test_witness_HeadTaken :
    let e := ((withLane { up .protect with egress := { buffer := [⟨.queued, [1], some .bypass⟩], store0 := .held ⟨[], .line, none, 0⟩ } }).lane 0).egress
    e.buffer = [⟨.queued, [1], some .bypass⟩] ∧ e.linePause = none ∧ e.store0 ≠ .free ∧ e.store1 = .free ∧
    e.store true = .free ∧ (up .protect).control.lineUp = true ∧
    ({ e with linePause := some 1 } : EgressEngine).linePause ≠ none ∧
    ({ e with store1 := .reserved .line } : EgressEngine).store true = .reserved .line := by decide

/-- An engine whose REQUESTED head has the answer given. -/
def answered (a : AllocationAnswer) : State :=
  withLane { up .protect with egress := {
    buffer := [⟨.requested, shortest, some (.protect 5)⟩], store0 := .reserved .line, request := some ⟨5, 48⟩, answer := some a } }

/-- A refusal drops the REQUESTED frame and frees its store (R98). -/
theorem test_allocation_refused_at_engine :
    after (.allocationAnswer 0) (answered (.refused .keyFault)) (fun t =>
      ((t.lane 0).egress.buffer, (t.lane 0).egress.store0, (t.lane 0).egress.request, (t.lane 0).outCount .keyFault))
      = some ([], .free, none, 1) := by decide

theorem test_witness_AllocationAnswerTaken :
    let s := answered (.granted ⟨5, false, 0, 1, 0, false, 7, 9⟩)
    s.port.resetting = false ∧ (s.lane 0).egress.answer = some (.granted ⟨5, false, 0, 1, 0, false, 7, 9⟩) ∧
    (s.lane 0).egress.request = some ⟨5, 48⟩ ∧ (s.lane 0).egress.store false = .reserved .line ∧
    (s.lane 0).egress.buffer.map Entry.status = [.requested] ∧ (s.lane 0).control.lineUp = true := by decide

/-- A HELD frame begins while the pause timer is idle, and at its completion counts and releases (R101). -/
theorem test_transmission :
    let f : StoredFrame := ⟨[1, 2], .line, some ⟨5, true, 0, 1, 0, false, 0, 0⟩, 44⟩
    after (.transmissionBegin 0) (withLane { up .protect with egress := { store1 := .held f } }) (fun t => (t.lane 0).egress.store1)
      = some (.sending f) ∧
    after (.transmissionBegin 0) (withLane { up .protect with egress := { store1 := .held f, linePause := some 1 } })
      (fun t => (t.lane 0).egress.store1) = some (.held f) ∧
    after (.transmissionCompletion 0) (withLane { up .protect with egress := { store1 := .sending f } }) (fun t =>
      ((t.lane 0).egress.store1, (t.lane 0).lastLineFrame, (t.lane 0).outCount .framesPassed, t.transit.releases))
      = some (.free, some [1, 2], 1, [⟨5, true, .completed, 44⟩]) := by decide

/-- A frame bound for the loop takes the lowest FREE ingress store at its handover (R111). -/
theorem test_loop_handover_start :
    let f : StoredFrame := ⟨[1], .loop, none, 0⟩
    after (.loopHandoverStart 0) (withLane { up .looptest with egress := { store0 := .held f } }) (fun t =>
      ((t.lane 0).egress.store0, (t.lane 0).ingress.store 0, (t.lane 0).ingress.ages))
      = some (.sending f, some ⟨.loop, false, .receiving⟩, [0]) := by decide

theorem test_witness_TransmissionBeginsAndCompletes :
    let f : StoredFrame := ⟨[1], .loop, none, 0⟩
    let v : Lane := { up .looptest with egress := { store0 := .held f, youngest := true, store1 := .held f } }
    let w : Lane := { up .looptest with
      egress := { store0 := .sending f }, ingress := { stores := vput (Vector.replicate 4 none) 0 (some ⟨.loop, false, .receiving⟩) } }
    (v.egress.store false = .held f ∧ v.egress.store true = .held f ∧ v.egress.youngest = !false ∧ v.ingress.store 0 = none) ∧
    (w.egress.store false = .sending f ∧ w.ingress.store 0 = some ⟨.loop, false, .receiving⟩) := by decide

/-- A loop frame of 92 octets in reception under store 0 in LOOPTEST. -/
def looping (f : Frame) : State :=
  withLane { up .looptest with
    egress := { store0 := .sending ⟨f, .loop, none, 0⟩ }
    ingress := { stores := vput (Vector.replicate 4 none) 0 (some ⟨.loop, false, .receiving⟩), ages := [0] } }

/-- At the receive completion of a loop frame a clear frame is dropped CLEAR_DROPPED, and the frame is passed at the Egress Engine
(R101, R114). -/
theorem test_loop_receive_completion :
    after (.ingressReceiveCompletion 0 .loop) (looping shortest) (fun t =>
      ((t.lane 0).egress.store0, (t.lane 0).ingress.store 0, (t.lane 0).inCount .clearDropped, (t.lane 0).outCount .framesPassed))
      = some (.free, none, 1, 1) := by decide +kernel

/-- A refresh expiry falls at max(1, floor(Q/2)) quanta: 32,767 for Q = 65,535 (R105). -/
theorem test_refresh_expiry :
    let v := fun (n : Nat) => withLane { up .protect with egress := { asserted := true, refresh := some n } }
    after (.refreshExpiry 0) (v 32766) (fun t => (t.lane 0).egress.asserted) = some true ∧
    after (.refreshExpiry 0) (v 32767) (fun t => ((t.lane 0).egress.asserted, (t.lane 0).egress.waitingPause, (t.lane 0).egress.refresh))
      = some (false, some 0, none) := by decide

/-- The PAUSE frame sent: group address, zero source, type 0x8808, opcode 1 and the quanta, in 64 octets (R106). -/
theorem test_pause_frame_send :
    after (.pauseFrameSend 0) (withLane { up .protect with egress := { waitingPause := some 0x1234 } }) (fun t =>
      ((t.lane 0).egress.refresh, (t.lane 0).outCount .pauseFramesSent, (t.lane 0).lastSystemFrame.map (List.take 18)))
      = some (some 0, 1, some [0x01, 0x80, 0xC2, 0, 0, 1, 0, 0, 0, 0, 0, 0, 0x88, 0x08, 0, 1, 0x12, 0x34]) := by decide +kernel

/-- Indications load their timers, 0 idles them, and LOOPTEST ignores the line side's (R108, R127). -/
theorem test_pause_indications :
    let line := fun (m : Mode) (q : Nat) => withLane { up m with egress := { indications := [q], linePause := some 9 } }
    after (.linePauseIndication 0) (line .protect 65535) (fun t => (t.lane 0).egress.linePause) = some (some 65535) ∧
    after (.linePauseIndication 0) (line .protect 0) (fun t => (t.lane 0).egress.linePause) = some none ∧
    after (.linePauseIndication 0) (line .looptest 5) (fun t => (t.lane 0).egress.linePause) = some (some 9) ∧
    after (.systemPauseIndication 0) (withLane { up .off with ingress := { indications := [5] } }) (fun t => (t.lane 0).ingress.systemPause)
      = some (some 5) := by decide

/-- A pause timer with no quanta left becomes idle at its expiry (R108, R127). -/
theorem test_pause_expiries :
    after (.linePauseExpiry 0) (withLane { up .off with egress := { linePause := some 0 } }) (fun t => (t.lane 0).egress.linePause)
      = some none ∧
    after (.systemPauseExpiry 0) (withLane { up .off with ingress := { systemPause := some 0 } }) (fun t => (t.lane 0).ingress.systemPause)
      = some none := by decide

/-- A refresh expiry in OFF leaves the generator QUIET with no waiting pause frame (R105, R136). -/
theorem test_refresh_expiry_off :
    after (.refreshExpiry 0) (withLane { up .off with egress := { asserted := true, refresh := some 32767, waitingPause := some 4 } })
      (fun t => ((t.lane 0).egress.asserted, (t.lane 0).egress.waitingPause, (t.lane 0).egress.refresh)) = some (false, none, none) := by
  decide

theorem test_witness_PauseEvents :
    let e : EgressEngine := { asserted := true, refresh := some 32767, waitingPause := some 65535, indications := [0, 1], linePause := some 0 }
    e.indications = 0 :: [1] ∧ e.linePause = some 0 ∧ e.refresh = some 32767 ∧ max 1 (65535 / 2) ≤ 32767 ∧
    e.waitingPause = some 65535 ∧ (up .clear).control.systemUp = true ∧
    (up .clear).ingress.sending = false ∧ ({} : Lane).control.systemUp = false := by decide

/-! ### The Ingress Engine -/

/-- A line frame claims the lowest FREE store in PROTECT, and none in LOOPTEST (R111). -/
theorem test_line_frame_start :
    after (.lineFrameStart 0) (withLane (up .protect)) (fun t => ((t.lane 0).ingress.receiver, (t.lane 0).ingress.ages))
      = some (.receiving (some 0), [0]) ∧
    after (.lineFrameStart 0) (withLane (up .looptest)) (fun t => ((t.lane 0).ingress.receiver, (t.lane 0).ingress.ages))
      = some (.receiving none, []) := by decide

/-- A lane of a mode with a line frame in reception under store 0. -/
def hearing (m : Mode) : State :=
  withLane { up m with ingress := {
    stores := vput (Vector.replicate 4 none) 0 (some ⟨.line, false, .receiving⟩), ages := [0], receiver := .receiving (some 0) } }

/-- A clear frame in PROTECT is dropped CLEAR_DROPPED, and queued for delivery in CLEAR (R114, R125). -/
theorem test_clear_frame :
    after (.ingressReceiveCompletion 0 (.line shortest)) (hearing .protect) (fun t => ((t.lane 0).ingress.store 0, (t.lane 0).inCount .clearDropped))
      = some (none, 1) ∧
    after (.ingressReceiveCompletion 0 (.line shortest)) (hearing .clear) (fun t => ((t.lane 0).ingress.store 0, (t.lane 0).ingress.delivery))
      = some (none, [shortest]) := by decide +kernel

/-- An enveloped frame of 92 octets: key number 2, tag 0x34, sequence number 6. -/
def enveloped92 : Frame :=
  withFcs (List.replicate 12 0 ++ [0x88, 0xB6, 0x12, 0, 0, 0x34, 0, 0, 0, 0, 0, 6] ++ List.replicate 64 0)

/-- Its FCS matches, and it parses to its header's fields (R115). -/
theorem test_enveloped_frame :
    fcsMatches enveloped92 = true ∧ enveloped 0x88B6 enveloped92 = true ∧
    (match parseEnvelope enveloped92 with | .ok h => some h | .error _ => none) = some ⟨0x34, 2, 6, false⟩ :=
  ⟨fcsMatches_withFcs _, by decide, by decide⟩

theorem test_witness_LineReception :
    let v := (hearing .protect).lane 0
    (v.ingress.receiver = .receiving (some 0) ∧ ((withLane (up .off)).lane 0).ingress.receiver = .idle) ∧
    (64 ≤ shortest.length ∧ fcsMatches shortest = true ∧ shortest.length ≤ v.control.config.maxFrame + 28 ∧
      fieldAt shortest 12 2 ≠ 0x8808 ∧ fieldAt shortest 12 2 ≠ 0x8100 ∧ fieldAt shortest 12 2 ≠ 0x88B6) ∧
    (enveloped92.length = 92 ∧ fcsMatches enveloped92 = true ∧ fieldAt enveloped92 12 2 = 0x88B6 ∧
      (octet enveloped92 14).toNat / 16 = 1 ∧ (octet enveloped92 14).toNat / 8 % 2 = 0 ∧ fieldAt enveloped92 18 6 ≠ 0) :=
  ⟨by decide, ⟨by decide, fcsMatches_withFcs _, by decide, by decide, by decide, by decide⟩,
    by decide, fcsMatches_withFcs _, by decide, by decide, by decide, by decide⟩

/-- The clauses of LineReception for a loop frame that completes in a mode, with a clear frame and an enveloped one. -/
theorem test_witness_LineReception_loop :
    let v := fun (m : Mode) (f : Frame) => { (looping f).lane 0 with control := { ((looping f).lane 0).control with mode := m } }
    (∀ (m : Mode) (f : Frame), let w := (withLane (v m f)).lane 0
      w.control.mode = m ∧ w.egress.store false = .sending ⟨f, .loop, none, 0⟩ ∧
      w.ingress.store 0 = some ⟨.loop, false, .receiving⟩) ∧
    shortest.length = 64 ∧ enveloped92.length = 92 := by
  refine ⟨fun m f => ⟨rfl, rfl, rfl⟩, by decide, by decide⟩

/-- A lookup's refusal drops the frame; an accepted commit leaves the stripped frame for delivery (R118, R124). -/
theorem test_store_answers :
    after (.lookupAnswer 0 2) (holding receiver (.lookup [] ⟨0, 0, 1, false⟩ (some (.refused .noKey)))) (fun t =>
      ((t.lane 0).ingress.store 2, (t.lane 0).inCount .noKey)) = some (none, 1) ∧
    after (.commitAnswer 0 2) (holding receiver (.committing (List.replicate 92 0) ⟨0, 0, 1, false⟩ ⟨5, false, 0, 0⟩ (List.replicate 48 1)
      (some .accepted))) (fun t => (t.lane 0).ingress.delivery.map (fun f => (f.length, f.take 13)))
      = some [(64, List.replicate 12 0 ++ [1])] := by decide +kernel

/-- A grant under a cancel mark is ABORTED with an abandon (R130). -/
theorem test_cancelled_grant :
    let v := { up .protect with ingress := {
      stores := vput (Vector.replicate 4 none) 2 (some ⟨.line, true, .lookup [] ⟨0, 0, 1, false⟩ (some (.granted ⟨5, true, 7, 9⟩))⟩), ages := [2] } }
    after (.lookupAnswer 0 2) (withLane v) (fun t => ((t.lane 0).ingress.store 2, (t.lane 0).inCount .aborted, t.transit.abandons))
      = some (none, 1, [⟨5, true, .abort⟩]) := by decide

theorem test_witness_StoreAnswers :
    let h : EnvelopeFields := ⟨0, 0, 1, false⟩
    let g : IngressGrant := ⟨5, true, 7, 9⟩
    let store := fun (st : StoreStatus) => ((holding receiver st).lane 0).ingress.store 2
    store (.lookup [] h (some (.granted g))) = some ⟨.line, false, .lookup [] h (some (.granted g))⟩ ∧
    store (.opening [] h g) = some ⟨.line, false, .opening [] h g⟩ ∧
    store (.committing [] h g [] (some .retired)) = some ⟨.line, false, .committing [] h g [] (some .retired)⟩ := by decide

/-- Delivery: begun while no pause runs or waits, and counted at its completion; an OFF lane drops the head (R126). -/
theorem test_delivery :
    let v := { up .clear with ingress := { delivery := [[1], [2]] } }
    after (.deliveryStart 0) (withLane v) (fun t => (t.lane 0).ingress.sending) = some true ∧
    after (.deliveryStart 0) (withLane { v with egress := { waitingPause := some 0 } }) (fun t => (t.lane 0).ingress.sending) = some false ∧
    after (.deliveryStart 0) (withLane { v with control := {} }) (fun t => ((t.lane 0).ingress.delivery, (t.lane 0).inCount .laneOff))
      = some ([[2]], 1) ∧
    after (.deliveryCompletion 0) (withLane { v with ingress := { v.ingress with sending := true } }) (fun t =>
      ((t.lane 0).ingress.delivery, (t.lane 0).lastSystemFrame, (t.lane 0).inCount .framesPassed)) = some ([[2]], some [1], 1) := by decide

theorem test_witness_DeliveryOfFrames :
    let i : IngressEngine := { stores := vput (Vector.replicate 4 none) 2 (some ⟨.line, false, .ready [1] none⟩), ages := [2, 3], delivery := [[1]] }
    i.ages = [((2 : StoreId), ([1] : Frame))].map Prod.fst ++ [3] ∧ i.ages.Nodup ∧ i.store 2 = some ⟨.line, false, .ready [1] none⟩ ∧
    i.store 3 = none ∧ i.delivery = [1] :: [] ∧ i.sending = false ∧ ({ i with sending := true } : IngressEngine).sending = true := by decide

/-! ### The invariants -/

/-- A part in use: an EGRESS record 5 with companion 7, a flow that names it, and a tick waiting to be taken. -/
def sample : State :=
  { State.reset with
    manager := {
      records := [(5, { sender with flowReferences := 1, config := { sender.config with companion := some 7 } }),
                  (7, { receiver with companionCount := 1 })]
      tagIndex := [(0x34, 7)] }
    flowMap := [⟨⟨0, 0xAB, none⟩, .protect 5, 0⟩]
    pending := [.tick, .responseRead] }

/-- The records of the part in use. -/
theorem sample_record (i : Nat) : sample.record i =
    if i = 5 then { sender with flowReferences := 1, config := { sender.config with companion := some 7 } }
    else if i = 7 then { receiver with companionCount := 1 } else Record.free := by
  by_cases h5 : i = 5
  · subst h5; rfl
  · by_cases h7 : i = 7
    · subst h7; rfl
    · simp [State.record, sample, KeyedList.find, h5, h7, Ne.symm h5, Ne.symm h7]

/-- Every lane of the part in use is as it is after reset. -/
theorem sample_lane (l : LaneId) : sample.lane l = {} := by simp [State.lane, sample, State.reset, vget]

theorem test_witness_StepTakesFront : sample.pending = .tick :: [.responseRead] := rfl

theorem test_witness_NothingStopsAndIdleIsOneQuantum : State.reset.pending = [] := rfl

theorem test_witness_StepKeepsCapacities : sample.Sound ∧ ∃ t, step sample = .next t := by
  refine ⟨⟨⟨by decide, by decide, by decide, by decide, by decide⟩, ⟨by decide, by decide⟩, fun l => ?_,
    ⟨by decide, by decide, by decide⟩, ⟨by decide, by decide, fun _ h => nomatch h⟩, ⟨by decide, by decide, by decide⟩⟩, _, rfl⟩
  rw [sample_lane]
  exact ⟨⟨by decide, by decide, by decide, by decide, by decide⟩, ⟨by decide, by decide⟩, by decide⟩

theorem test_witness_StepKeepsReferences : sample.Sound ∧ sample.ReferencesExact ∧ ∃ t, step sample = .next t := by
  refine ⟨test_witness_StepKeepsCapacities.1, ⟨?_, fun i h => (nomatch h), ?_, ?_, ?_, ?_, ?_, by decide⟩,
    test_witness_StepKeepsCapacities.2⟩
  · intro e he i hi
    simp only [sample, List.mem_singleton] at he
    subst he
    injection hi with hi
    subst hi
    exact ⟨rfl, .inr (.inl rfl)⟩
  · intro i h
    rw [sample_record] at h ⊢
    by_cases h5 : i = 5
    · subst h5; rfl
    · by_cases h7 : i = 7
      · subst h7; simp [receiver] at h
      · simp [h5, h7, State.heldReferences, State.namingEntries, State.releasingRecord, sample, State.reset, Record.free,
          Ne.symm h5]
  · intro i j h
    rw [sample_record] at h ⊢
    by_cases h5 : i = 5
    · subst h5
      simp only [if_true, Option.some.injEq] at h
      subst h
      exact ⟨rfl, .inr (.inl rfl), rfl, .inr (.inl rfl)⟩
    · by_cases h7 : i = 7
      · subst h7; simp [receiver] at h
      · simp [h5, h7, Record.free] at h
  · intro i h
    rw [sample_record] at h ⊢
    by_cases h5 : i = 5
    · subst h5; simp [sender] at h
    · by_cases h7 : i = 7
      · subst h7; rfl
      · simp [h5, h7, Record.free] at h
  · intro g i h
    simp only [sample, KeyedList.find] at h
    split at h
    · rename_i hg
      injection h with h
      subst h hg
      exact ⟨rfl, .inr (.inl rfl), rfl⟩
    · cases h
  · intro i h _
    rw [sample_record] at h ⊢
    by_cases h5 : i = 5
    · subst h5; simp [sender] at h
    · by_cases h7 : i = 7
      · subst h7; rfl
      · simp [h5, h7, Record.free] at h

/-- A window that holds H = 9 and A = (7, 9) under W = 3 meets the hypothesis, and so does every erased slot. -/
theorem test_witness_StepKeepsReplayWindows : (∀ i k, (sample.record i).windowOk k) ∧ ∃ t, step sample = .next t := by
  refine ⟨fun i k => ?_, _, rfl⟩
  rw [sample_record]
  by_cases h5 : i = 5
  · subst h5; cases k <;> exact ⟨by decide, by decide, by decide⟩
  · by_cases h7 : i = 7
    · subst h7; cases k <;> exact ⟨by decide, by decide, by decide⟩
    · simp only [h5, h7, if_false]; cases k <;> exact ⟨by decide, by decide, by decide⟩

theorem test_witness_NoNumberIsAcceptedTwice :
    receiver.slot0.windowOk 3 ∧ receiver.slot0.acceptedOf 3 [10, 10, 7, 6, 8, 11, 8] = [10, 8, 11] :=
  ⟨⟨by decide, by decide, by decide⟩, by decide⟩

/-- A Modify that selects the companion 7 for the record that names it already. -/
theorem test_witness_ModifyMovesCompanion :
    let c := written 0x00010309 ([0x00040005, 0x80, 7] ++ List.replicate 6 0)
    let s := asked sample c
    (s.offers c .modifyAssociation ∧ bits (c.word 0) 15 0 < 8192 ∧ (s.record 5).state = .live ∧ (s.record 5).config.kind = .egress ∧
      bits (c.word 0) 26 16 = 4 ∧ flag (c.word 1) 7 = true ∧ bits (c.word 2) 15 0 = 7 ∧ (s.record 7).config.kind = .ingress ∧
      (s.record 7).state = .live) ∧
    s.ReferencesExact := by
  refine ⟨by decide, ?_⟩
  have h := test_witness_StepKeepsReferences.2.1
  exact ⟨h.named, h.releasing, h.flowCount, h.companion, h.companionCount, h.tagged, h.indexed, h.tagRoom⟩

/-- The records of the part in use stand together as the manual says. -/
theorem sample_ok (i : Nat) : (sample.record i).Ok := by
  rw [sample_record]
  by_cases h5 : i = 5
  · subst h5
    exact ⟨⟨by decide, by decide, by decide, by decide⟩, ⟨by decide, by decide, by decide, by decide⟩, by
      simp [Record.stateOk, Record.stageOk, sender, Record.currentPosition, Record.otherPosition, Record.slot, keyed], by decide,
      by decide, by decide⟩
  · by_cases h7 : i = 7
    · subst h7
      exact ⟨⟨by decide, by decide, by decide, by decide⟩, ⟨by decide, by decide, by decide, by decide⟩, by
        simp [Record.stateOk, Record.stageOk, receiver, Record.currentPosition, Record.otherPosition, Record.slot, keyed],
        by decide, by decide, by decide⟩
    · simp only [h5, h7, if_false]
      exact ⟨⟨by decide, by decide, by decide, by decide⟩, ⟨by decide, by decide, by decide, by decide⟩, by
        simp [Record.stateOk, Record.free], by decide, by decide, by decide⟩

/-- No engine of the part in use holds a frame, and no record counts one. -/
theorem sample_counts : sample.CountsExact := by
  have ht : sample.transit = {} := rfl
  have hv : sample.lanes = Vector.replicate 4 {} := rfl
  have hq : ∀ l i, sample.queuedAt l i = 0 := fun l i => by simp [State.queuedAt, State.queuedEntries, sample_lane, ht]
  have he : ∀ i k, sample.egressHeld i k = 0 := fun i k => by simp [State.egressHeld, EgressEngine.holds, hv, ht]
  have hi : ∀ i k, sample.ingressHeld i k = 0 := fun i k => by simp [State.ingressHeld, IngressEngine.holds, hv, ht]
  have hr : ∀ i, (sample.record i).queuedFrames = 0 ∧ ∀ k, ((sample.record i).slot k).inFlight = 0 := fun i => by
    rw [sample_record]
    by_cases h5 : i = 5
    · subst h5; exact ⟨rfl, fun k => by cases k <;> rfl⟩
    · by_cases h7 : i = 7
      · subst h7; exact ⟨rfl, fun k => by cases k <;> rfl⟩
      · simp only [h5, h7, if_false]; exact ⟨rfl, fun k => by cases k <;> rfl⟩
  exact {
    requests := fun l => by rw [sample_lane]; exact ⟨by decide, by decide⟩
    receivers := fun l j h => by rw [sample_lane] at h; cases h
    queued := fun i => by simp [hr, hq, ht]
    enqueues := fun l i => by simp [ht]
    kept := fun l i h => by simp [ht] at h
    queuedRoom := fun i => by rw [(hr i).1]; omega
    waiting := fun i _ => (hr i).1
    egress := fun i k _ => by rw [(hr i).2, he, hi]; exact ⟨rfl, rfl⟩
    ingress := fun i k _ => by rw [(hr i).2, he, hi]; exact ⟨rfl, rfl⟩ }

/-- The counts of a state whose one record stands at index 5, with no enqueue in transit. -/
theorem counts_of_one {s : State} (hf : ∀ i, i ≠ 5 → s.record i = Record.free) (ht : s.transit.enqueues = [])
    (hq : ∀ i, i ≠ 5 → ∀ l, s.queuedAt l i = 0) (he : ∀ i k, i ≠ 5 → s.egressHeld i k = 0)
    (hi : ∀ i k, i ≠ 5 → s.ingressHeld i k = 0) (hl : ∀ l, (s.lane l).egress.requestOk)
    (hv : ∀ l j, (s.lane l).ingress.receiver ≠ .receiving (some j))
    (h5 : (s.record 5).queuedFrames = ((List.finRange 4).map (fun l => s.queuedAt l 5)).sum ∧
      (s.record 5).queuedFrames ≤ 8192 ∧ ((s.record 5).config.kind = .ingress → (s.record 5).queuedFrames = 0))
    (hk : ∀ k, ((s.record 5).config.kind = .egress → ((s.record 5).slot k).inFlight = s.egressHeld 5 k ∧ s.ingressHeld 5 k = 0) ∧
      ((s.record 5).config.kind = .ingress → ((s.record 5).slot k).inFlight = s.ingressHeld 5 k ∧ s.egressHeld 5 k = 0)) :
    s.CountsExact := by
  have hn : ∀ i, i ≠ 5 → (s.record i).queuedFrames = 0 ∧ ∀ k, ((s.record i).slot k).inFlight = 0 := fun i h => by
    rw [hf i h]; exact ⟨rfl, fun k => by cases k <;> rfl⟩
  exact {
    requests := hl
    receivers := fun l j h => absurd h (hv l j)
    queued := fun i => by
      by_cases h : i = 5
      · subst h; simp [ht, h5.1]
      · simp [ht, (hn i h).1, hq i h]
    enqueues := fun l i => by simp [ht]
    kept := fun l i h => by simp [ht] at h
    queuedRoom := fun i => by
      by_cases h : i = 5
      · subst h; exact h5.2.1
      · rw [(hn i h).1]; exact Nat.zero_le _
    waiting := fun i hi => by
      by_cases h : i = 5
      · subst h; exact h5.2.2 hi
      · exact (hn i h).1
    egress := fun i k hi' => by
      by_cases h : i = 5
      · subst h; exact (hk k).1 hi'
      · rw [(hn i h).2, he i k h, hi i k h]; exact ⟨rfl, rfl⟩
    ingress := fun i k hi' => by
      by_cases h : i = 5
      · subst h; exact (hk k).2 hi'
      · rw [(hn i h).2, he i k h, hi i k h]; exact ⟨rfl, rfl⟩ }

/-- The last clause of AllocationGranted: the eight frames in flight are the eight releases in transit. -/
theorem test_witness_AllocationGranted_waits :
    ((eightInFlight.lane 0).egress.request = some ⟨5, 44⟩ ∧ (eightInFlight.lane 0).egress.answer = none ∧
      eightInFlight.transit.enqueues.count (0, 5) ≤ eightInFlight.queuedEntries 0 5 ∧
      (eightInFlight.record 5).state = .live ∧ (eightInFlight.record 5).config.laneMask.getLsbD 0 = true ∧
      (eightInFlight.record 5).config.kind = .egress ∧ 8 ≤ (eightInFlight.record 5).slot0.inFlight) ∧
    eightInFlight.CountsExact := by
  refine ⟨by decide, counts_of_one (fun i h => State.record_setRecord_ne State.reset _ (Ne.symm h)) rfl (fun i h l => ?_)
    (fun i k h => ?_) (fun i k _ => rfl) (fun l => ?_) (by decide) (by decide) (fun k => ⟨fun _ => ?_, fun h => nomatch h⟩)⟩
  · fin_cases l
    · show 0 + (if 5 = i then 1 else 0) + 0 = 0
      rw [if_neg (Ne.symm h)]
    all_goals rfl
  · show 0 + (List.filter _ (List.replicate 8 _)).length = 0
    rw [List.filter_replicate_of_neg (by simp [Ne.symm h])]; rfl
  · fin_cases l <;> exact ⟨by decide, by decide⟩
  · cases k <;> decide

/-- The clause of LookupGranted that waits: the sixteen frames in flight are the sixteen abandons in transit. -/
theorem test_witness_LookupGranted_waits :
    ((sixteenInFlight.lane 0).ingress.store 2 = some ⟨.line, false, .lookup [] ⟨0x34, 2, 10, false⟩ none⟩ ∧
      sixteenInFlight.manager.tagIndex.find 0x34 = some 5 ∧ (sixteenInFlight.record 5).config.laneMask.getLsbD 0 = true ∧
      (sixteenInFlight.record 5).state = .live ∧ (sixteenInFlight.record 5).config.kind = .ingress ∧
      (sixteenInFlight.record 5).slot0.role = .current ∧ (sixteenInFlight.record 5).slot0.keyNumber = 2 ∧
      (sixteenInFlight.record 5).slot0.highest < 10 ∧ 16 ≤ (sixteenInFlight.record 5).slot0.inFlight) ∧
    sixteenInFlight.CountsExact := by
  refine ⟨by decide, counts_of_one (fun i h => ?_) rfl (fun i h l => ?_) (fun i k _ => rfl)
    (fun i k h => ?_) (fun l => ?_) (by decide) (by decide) (fun k => ⟨fun h => (nomatch h), fun _ => ?_⟩)⟩
  · exact State.record_setRecord_ne State.reset { receiver with slot0 := { receiver.slot0 with inFlight := 16 } } (Ne.symm h)
  · fin_cases l <;> rfl
  · show 0 + (List.filter _ (List.replicate 16 _)).length = 0
    rw [List.filter_replicate_of_neg (by simp [Ne.symm h])]; rfl
  · fin_cases l <;> exact ⟨by decide, by decide⟩
  · cases k <;> decide

theorem test_witness_NextSequenceNeverFalls :
    sample.Sound ∧ sample.ReferencesExact ∧ (∀ i, (sample.record i).Ok) ∧ sample.CountsExact ∧ ∃ t, step sample = .next t :=
  ⟨test_witness_StepKeepsReferences.1, test_witness_StepKeepsReferences.2.1, sample_ok, sample_counts, _, rfl⟩

/-- Both resets bring a part in use to the reset state, with the link states found (R25, R132). -/
theorem test_witness_FullResets :
    after (.powerOnReset ⟨1, 0⟩) sample (fun t => ((t.record 5).state, t.flowMap, (t.lane 0).control.systemUp)) = some (.free, [], true) ∧
    after (.pcieFundamentalReset ⟨0, 8⟩) sample (fun t => (t.manager.tagIndex, (t.lane 3).control.lineUp)) = some ([], true) := by decide

/-- Record 8191 alone holds a cause, and no lower index does. -/
theorem test_witness_TakeAttention :
    let c := written 0x00012100 []
    let s := asked (withRecord 8191 { sender with causes := { staleKey := true } }) c
    s.offers c .takeAttention ∧ s.manager.Canonical ∧ (s.record 8191).causes ≠ ⟨false, false, false, false, false⟩ ∧
    ∀ j, j < 8191 → (s.record j).causes = ⟨false, false, false, false, false⟩ := by
  refine ⟨by decide, ⟨by decide, by decide, by decide, by decide, by decide⟩, by decide, fun j h => ?_⟩
  show ((withRecord 8191 _).record j).causes = _
  rw [withRecord, State.record_setRecord, if_neg (by omega)]
  rfl

theorem test_witness_EnqueueAndWithdrawal :
    let s := { withRecord 5 sender with transit := { enqueues := [(0, 5)], withdrawals := [(1, 5)] } }
    s.port.resetting = false ∧ ((0 : LaneId), 5) ∈ s.transit.enqueues ∧ ((1 : LaneId), 5) ∈ s.transit.withdrawals ∧
    (s.record 5).queuedFrames < 8192 ∧
    s.transit.enqueues.count (1, 5) < s.queuedEntries 1 5 + s.transit.withdrawals.count (1, 5) ∧
    s.queuedEntries 0 5 + s.transit.withdrawals.count (0, 5) ≤ s.transit.enqueues.count (0, 5) ∧
    8192 ≤ ((withRecord 5 { sender with queuedFrames := 8192 }).record 5).queuedFrames := by decide

end Sys2Proof.Tests
end

