-- ==== Sys2Proof/Proofs/AssociationTable.lean ====
section
/-!
PROOFS. The record commands that move a record through its life without touching its keys: Activate Association, Clear Counters
and Retire Association (sections 1.5, 1.7 and 1.12).
-/

namespace Sys2Proof.Machine

/-! ### Refused commands -/

/-- The turn of a command that its owner refuses changes nothing but the two FIFOs. -/
theorem State.serve_refuses {s : State} {c : Command} {name : CommandName} {st : Status}
    {owner : Command → State → State × Reply} (h : s.offers c name)
    (ho : ∀ n, owner c (s.freed n) = (s.freed n, status st)) :
    ∃ t, s.serve name owner = .next t ∧ s.answered s c { status := st } t :=
  State.serve_answers h rfl rfl ho

/-! ### Activate Association and Clear Counters: what their owners answer -/

section Owners

variable {c : Command} {s : State}

theorem activateOwner_badIndex (hi : Config.records ≤ c.index) : activateOwner c s = (s, status .badIndex) :=
  if_pos hi

theorem activateOwner_free (hi : ¬ Config.records ≤ c.index) (hf : (s.record c.index).state = .free) :
    activateOwner c s = (s, status .notPresent) := by
  simp only [activateOwner, if_neg hi, hf]

theorem activateOwner_badState (hi : ¬ Config.records ≤ c.index) (hf : (s.record c.index).state ≠ .free)
    (hs : (s.record c.index).state ≠ .staged) : activateOwner c s = (s, status .badState) := by
  simp only [activateOwner, if_neg hi]
  cases hr : (s.record c.index).state with
  | free => exact absurd hr hf
  | staged => exact absurd hr hs
  | live | halted | retiring => rfl

theorem activateOwner_staged (hi : ¬ Config.records ≤ c.index) (hs : (s.record c.index).state = .staged) :
    activateOwner c s = (s.setRecord c.index (s.record c.index).activate, status .ok) := by
  simp only [activateOwner, if_neg hi, hs]

theorem clearCountersOwner_badIndex (hi : Config.records ≤ c.index) : clearCountersOwner c s = (s, status .badIndex) :=
  if_pos hi

theorem clearCountersOwner_free (hi : ¬ Config.records ≤ c.index) (hf : (s.record c.index).state = .free) :
    clearCountersOwner c s = (s, status .notPresent) := by
  simp only [clearCountersOwner, if_neg hi, if_pos hf]

theorem clearCountersOwner_present (hi : ¬ Config.records ≤ c.index) (hf : (s.record c.index).state ≠ .free) :
    clearCountersOwner c s = (s.setRecord c.index { s.record c.index with counters := {} }, status .ok) := by
  simp only [clearCountersOwner, if_neg hi, if_neg hf]

end Owners

/-- Settles O16: each check of R10 and R24 in its order, at the owner's answer for it. -/
theorem activateAndClearCounters : Obligations.ActivateAndClearCounters := by
  intro s c i r
  constructor
  · intro h
    by_cases hi : 8192 ≤ i
    · simp only [if_pos hi]
      exact State.serve_refuses h fun _ => activateOwner_badIndex hi
    by_cases hf : r.state = .free
    · simp only [if_neg hi, if_pos hf]
      exact State.serve_refuses h fun _ => activateOwner_free hi hf
    by_cases hs : r.state = .staged
    · simp only [if_neg hi, if_neg hf, if_neg (not_not_intro hs)]
      exact State.serve_answers h rfl rfl fun _ => activateOwner_staged hi hs
    · simp only [if_neg hi, if_neg hf, if_pos hs]
      exact State.serve_refuses h fun _ => activateOwner_badState hi hf hs
  · intro h
    by_cases hi : 8192 ≤ i
    · simp only [if_pos hi]
      exact State.serve_refuses h fun _ => clearCountersOwner_badIndex hi
    by_cases hf : r.state = .free
    · simp only [if_neg hi, if_pos hf]
      exact State.serve_refuses h fun _ => clearCountersOwner_free hi hf
    · simp only [if_neg hi, if_neg hf]
      exact State.serve_answers h rfl rfl fun _ => clearCountersOwner_present hi hf

/-! ### Retire Association -/

/-- What still names a record from outside it: the flow references of an EGRESS record, the companion count of an INGRESS one
(R18). -/
def Record.named (r : Record) : Prop :=
  (r.config.kind = .egress ∧ r.flowReferences ≠ 0) ∨ (r.config.kind = .ingress ∧ r.companionCount ≠ 0)

/-- No frame is queued, and none is in flight under a slot once it is closed: the condition of step 6 of R15 for FREE. -/
def Record.drainsAtOnce (r : Record) : Prop :=
  r.queuedFrames = 0 ∧ r.slot0.retire.inFlight = 0 ∧ r.slot1.retire.inFlight = 0

/-- The state whose Tag Index entry or companion link of a record is gone: steps 1 and 2 of R15. -/
def State.unlink (s : State) (r : Record) : State :=
  match r.config.kind with
  | .ingress => s.removeTag r.config.tag
  | .egress => s.loseCompanion r.config.companion

section Retire

variable {s : State} {c : Command}

theorem State.retire_eq (s : State) (c : Command) :
    s.retire c = (s.unlink (s.record c.index)).setRecord c.index (s.record c.index).retire.freeWhenDrained := rfl

@[simp] theorem State.loseCompanion_port (s : State) (o : Option Nat) : (s.loseCompanion o).port = s.port := by
  cases o <;> rfl

@[simp] theorem State.loseCompanion_freed (s : State) (n : Nat) (o : Option Nat) :
    (s.freed n).loseCompanion o = (s.loseCompanion o).freed n := by
  cases o <;> rfl

@[simp] theorem State.unlink_port (s : State) (r : Record) : (s.unlink r).port = s.port := by
  unfold State.unlink
  cases r.config.kind
  case egress => exact State.loseCompanion_port s _
  case ingress => rfl

/-- The taking of a command and the dropping of a record's links can be told in either order. -/
@[simp] theorem State.unlink_freed (s : State) (n : Nat) (r : Record) :
    (s.freed n).unlink r = (s.unlink r).freed n := by
  unfold State.unlink
  cases r.config.kind
  case egress => exact State.loseCompanion_freed s n _
  case ingress => rfl

/-- The taking of a command and a Retire can be told in either order. -/
@[simp] theorem State.retire_freed (s : State) (n : Nat) (c : Command) :
    (s.freed n).retire c = (s.retire c).freed n := by
  simp only [State.retire_eq, State.record_freed, State.unlink_freed, State.setRecord_freed]

/-- A record that nothing holds is FREE after its Retire (R16). -/
theorem Record.freeWhenDrained_of_drained {r : Record} (hd : r.drainsAtOnce) :
    r.retire.freeWhenDrained = Record.free :=
  if_pos ⟨rfl, hd⟩

/-- A record with a frame queued or in flight stays RETIRING (R16). -/
theorem Record.freeWhenDrained_of_held {r : Record} (hd : ¬ r.drainsAtOnce) :
    r.retire.freeWhenDrained = r.retire :=
  if_neg fun h => hd h.2

theorem State.retireRefusal_badIndex (hi : Config.records ≤ c.index) : s.retireRefusal c = some .badIndex :=
  if_pos hi

theorem State.retireRefusal_free (hi : ¬ Config.records ≤ c.index) (hf : (s.record c.index).state = .free) :
    s.retireRefusal c = some .notPresent := by
  simp only [State.retireRefusal, if_neg hi, if_pos hf]

theorem State.retireRefusal_retiring (hi : ¬ Config.records ≤ c.index) (hr : (s.record c.index).state = .retiring) :
    s.retireRefusal c = some .retiring := by
  simp [State.retireRefusal, hi, hr]

/-- A record in use is judged by what names it alone, the count that belongs to its kind (R15, check 4). -/
theorem State.retireRefusal_present (hi : ¬ Config.records ≤ c.index) (hf : (s.record c.index).state ≠ .free)
    (hr : (s.record c.index).state ≠ .retiring) :
    ((s.record c.index).named → s.retireRefusal c = some .inUse) ∧
    (¬ (s.record c.index).named → s.retireRefusal c = none) := by
  simp only [State.retireRefusal, Record.named, if_neg hi, if_neg hf, if_neg hr]
  cases (s.record c.index).config.kind with
  | egress => simp
  | ingress => simp

theorem retireOwner_refused {st : Status} (hst : s.retireRefusal c = some st) : retireOwner c s = (s, status st) := by
  simp only [retireOwner, hst]

theorem retireOwner_accepted (hst : s.retireRefusal c = none) :
    retireOwner c s = (s.retire c,
      status (if (s.record c.index).retire.freeWhenDrained.state = .retiring then .draining else .ok)) := by
  simp only [retireOwner, hst]

/-- A Retire that fails a check of R15 changes nothing. -/
theorem State.retire_refused {st : Status} (h : s.offers c .retireAssociation) (hst : s.retireRefusal c = some st) :
    ∃ t, exec .retireAssociation s = .next t ∧ s.answered s c { status := st } t :=
  State.serve_refuses h fun n => retireOwner_refused (s := s.freed n) hst

/-- A Retire that passes every check of R15 is one event at the record, with DRAINING or OK. -/
theorem State.retire_accepted (h : s.offers c .retireAssociation) (hst : s.retireRefusal c = none) :
    ∃ t, exec .retireAssociation s = .next t ∧
      s.answered (s.retire c) c
        { status := if (s.record c.index).retire.freeWhenDrained.state = .retiring then .draining else .ok } t := by
  have hport : (s.retire c).port = s.port := by simp only [State.retire_eq, State.setRecord_port, State.unlink_port]
  refine State.serve_answers h (by rw [hport]) (by rw [hport]) fun n => ?_
  rw [retireOwner_accepted (s := s.freed n) hst, State.retire_freed]
  rfl

/-- An accepted Retire of a record that nothing holds frees it (R15, R16). -/
theorem State.retire_frees (h : s.offers c .retireAssociation) (hst : s.retireRefusal c = none)
    (hd : (s.record c.index).drainsAtOnce) :
    ∃ t, exec .retireAssociation s = .next t ∧
      s.answered ((s.unlink (s.record c.index)).setRecord c.index Record.free) c { status := .ok } t := by
  have accepted := State.retire_accepted h hst
  rwa [State.retire_eq, Record.freeWhenDrained_of_drained hd] at accepted

/-- An accepted Retire of a record with a frame queued or in flight leaves it RETIRING (R15). -/
theorem State.retire_drains (h : s.offers c .retireAssociation) (hst : s.retireRefusal c = none)
    (hd : ¬ (s.record c.index).drainsAtOnce) :
    ∃ t, exec .retireAssociation s = .next t ∧
      s.answered ((s.unlink (s.record c.index)).setRecord c.index (s.record c.index).retire) c { status := .draining } t := by
  have accepted := State.retire_accepted h hst
  rwa [State.retire_eq, Record.freeWhenDrained_of_held hd] at accepted

end Retire

/-- Settles O20: the checks of R15 in their order, and an accepted Retire by whether a frame is still queued or in flight. -/
theorem retireAssociation : Obligations.RetireAssociation := by
  intro s c h i r closed unlinked left
  have hunlinked : unlinked = s.unlink r := by
    simp only [unlinked, State.unlink]
    cases r.config.kind with
    | ingress => rfl
    | egress => cases r.config.companion <;> rfl
  by_cases hi : 8192 ≤ i
  · simp only [if_pos hi]
    exact State.retire_refused h (State.retireRefusal_badIndex hi)
  by_cases hf : r.state = .free
  · simp only [if_neg hi, if_pos hf]
    exact State.retire_refused h (State.retireRefusal_free hi hf)
  by_cases hr : r.state = .retiring
  · simp only [if_neg hi, if_neg hf, if_pos hr]
    exact State.retire_refused h (State.retireRefusal_retiring hi hr)
  obtain ⟨refuses, accepts⟩ := State.retireRefusal_present (s := s) hi hf hr
  by_cases hn : (r.config.kind = .egress ∧ r.flowReferences ≠ 0) ∨ (r.config.kind = .ingress ∧ r.companionCount ≠ 0)
  · simp only [if_neg hi, if_neg hf, if_neg hr, if_pos hn]
    exact State.retire_refused h (refuses hn)
  by_cases hd : r.queuedFrames = 0 ∧ (closed r.slot0).inFlight = 0 ∧ (closed r.slot1).inFlight = 0
  · simp only [if_neg hi, if_neg hf, if_neg hr, if_neg hn, if_pos hd, hunlinked]
    exact State.retire_frees h (accepts hn) hd
  · simp only [if_neg hi, if_neg hf, if_neg hr, if_neg hn, if_neg hd, hunlinked]
    exact State.retire_drains h (accepts hn) hd

end Sys2Proof.Machine
end

