-- ==== Sys2Proof/Proofs/LaneCommands.lean ====
section
/-!
PROOFS. The lane commands that leave the two engines as they stand: Configure Lane and Sample Lane Counters (sections 8.4 and 8.5).
-/

namespace Sys2Proof.Machine

/-! ### The lane of a lane command, and the two encoded choices of Configure Lane -/

section Fields

variable {c : Command}

theorem Command.lane_eq_none (hn : 3 < bits (c.word 0) 7 0) : c.lane = none :=
  dif_neg (by omega)

theorem Command.lane_eq_some (hn : ¬ 3 < bits (c.word 0) 7 0) :
    c.lane = some (Fin.ofNat 4 (bits (c.word 0) 7 0)) := by
  have hlt : bits (c.word 0) 7 0 < 4 := by omega
  rw [Command.lane, laneOf, dif_pos hlt]
  exact congrArg some (Fin.ext (Nat.mod_eq_of_lt hlt).symm)

theorem DefaultAction.ofCode_isNone_iff (n : Nat) : (DefaultAction.ofCode n).isNone = true ↔ 1 < n := by
  match n with
  | 0 | 1 => decide
  | n + 2 => simp [DefaultAction.ofCode]

theorem DefaultAction.ofCode_getD {n : Nat} (hn : ¬ 1 < n) (d : DefaultAction) :
    (DefaultAction.ofCode n).getD d = if n = 0 then .bypass else .discard := by
  match n with
  | 0 | 1 => rfl
  | n + 2 => omega

theorem ClearPolicy.ofCode_isNone_iff (n : Nat) : (ClearPolicy.ofCode n).isNone = true ↔ 1 < n := by
  match n with
  | 0 | 1 => decide
  | n + 2 => simp [ClearPolicy.ofCode]

theorem ClearPolicy.ofCode_getD {n : Nat} (hn : ¬ 1 < n) (d : ClearPolicy) :
    (ClearPolicy.ofCode n).getD d = if n = 0 then .dropClear else .acceptClear := by
  match n with
  | 0 | 1 => rfl
  | n + 2 => omega

end Fields

/-! ### Configure Lane -/

section Configure

variable {c : Command} {s : State} {l : LaneId} {g : LaneConfig}

/-- A choice is bad where its encoding is above 1 and its setting is selected (R138, check 2). -/
theorem Command.laneChoiceBad_iff : c.laneChoiceBad = true ↔
    (flag (c.word 0) 9 = true ∧ 1 < bits (c.word 0) 17 16) ∨ (flag (c.word 0) 10 = true ∧ 1 < bits (c.word 0) 19 18) := by
  simp only [Command.laneChoiceBad, Bool.or_eq_true, Bool.and_eq_true, DefaultAction.ofCode_isNone_iff,
    ClearPolicy.ofCode_isNone_iff]

theorem Command.laneClamped_iff : c.laneClamped = true ↔
    flag (c.word 0) 8 = true ∧ ((c.word 1).toNat < 64 ∨ 9216 < (c.word 1).toNat) := by
  simp only [Command.laneClamped, Bool.and_eq_true, decide_eq_true_eq]

theorem LaneConfig.marksOk_iff : g.marksOk = true ↔ g.lowMark < g.highMark ∧ g.highMark ≤ 2048 ∧ 1 ≤ g.quanta :=
  decide_eq_true_iff

/-- Under check 2 of R138 a selected default action is the one that its encoding names. -/
theorem Command.laneConfig_defaultAction (hb : ¬ c.laneChoiceBad = true) : (c.laneConfig g).defaultAction =
    if flag (c.word 0) 9 then (if bits (c.word 0) 17 16 = 0 then .bypass else .discard) else g.defaultAction := by
  refine ite_congr rfl (fun hpick => DefaultAction.ofCode_getD (fun hcode => hb ?_) _) fun _ => rfl
  exact Command.laneChoiceBad_iff.mpr (.inl ⟨hpick, hcode⟩)

/-- Under check 2 of R138 a selected clear policy is the one that its encoding names. -/
theorem Command.laneConfig_clearPolicy (hb : ¬ c.laneChoiceBad = true) : (c.laneConfig g).clearPolicy =
    if flag (c.word 0) 10 then (if bits (c.word 0) 19 18 = 0 then .dropClear else .acceptClear) else g.clearPolicy := by
  refine ite_congr rfl (fun hpick => ClearPolicy.ofCode_getD (fun hcode => hb ?_) _) fun _ => rfl
  exact Command.laneChoiceBad_iff.mpr (.inr ⟨hpick, hcode⟩)

/-- Under check 2 of R138 no selected choice falls back on the one held. -/
theorem Command.laneConfig_eq (hb : ¬ c.laneChoiceBad = true) : c.laneConfig g = { c.laneConfig g with
    defaultAction :=
      if flag (c.word 0) 9 then (if bits (c.word 0) 17 16 = 0 then .bypass else .discard) else g.defaultAction
    clearPolicy :=
      if flag (c.word 0) 10 then (if bits (c.word 0) 19 18 = 0 then .dropClear else .acceptClear) else g.clearPolicy } := by
  rw [← Command.laneConfig_defaultAction hb, ← Command.laneConfig_clearPolicy hb]

theorem configureLaneOwner_badLane (hl : c.lane = none) : configureLaneOwner c s = (s, status .badValue) := by
  simp only [configureLaneOwner, hl]

theorem configureLaneOwner_badChoice (hl : c.lane = some l) (hb : c.laneChoiceBad = true) :
    configureLaneOwner c s = (s, status .badValue) := by
  simp only [configureLaneOwner, hl, if_pos hb]

theorem configureLaneOwner_badMarks (hl : c.lane = some l) (hb : ¬ c.laneChoiceBad = true)
    (hm : ¬ (c.laneConfig (s.lane l).control.config).marksOk = true) :
    configureLaneOwner c s = (s, status .badValue) := by
  simp only [configureLaneOwner, hl, if_neg hb, if_neg hm]

theorem configureLaneOwner_accepted (hl : c.lane = some l) (hb : ¬ c.laneChoiceBad = true)
    (hm : (c.laneConfig (s.lane l).control.config).marksOk = true) :
    configureLaneOwner c s =
      (s.setLane l ((s.lane l).withControl
        { (s.lane l).control with config := c.laneConfig (s.lane l).control.config }),
      status (if c.laneClamped then .clamped else .ok)) := by
  simp only [configureLaneOwner, hl, if_neg hb, if_pos hm]

/-- A Configure Lane that passes the checks of R138 stores its settings, with CLAMPED or OK. -/
theorem State.configureLane_accepted (h : s.offers c .configureLane) (hl : c.lane = some l)
    (hb : ¬ c.laneChoiceBad = true) (hm : (c.laneConfig (s.lane l).control.config).marksOk = true) :
    ∃ t, exec .configureLane s = .next t ∧
      s.answered (s.setLane l ((s.lane l).withControl
        { (s.lane l).control with config := c.laneConfig (s.lane l).control.config })) c
        { status := if c.laneClamped then .clamped else .ok } t :=
  State.serve_answers h rfl rfl fun n => configureLaneOwner_accepted (s := s.freed n) hl hb hm

end Configure

/-- Settles O29: the checks of R138 in their order, at the owner's answer for each, and the settings stored under them. -/
theorem configureLane : Obligations.ConfigureLane := by
  intro s c h n l v g picks size action policy high low quanta
  by_cases hn : 3 < n
  · simp only [if_pos hn]
    exact State.serve_refuses h fun _ => configureLaneOwner_badLane (Command.lane_eq_none hn)
  have hl : c.lane = some l := Command.lane_eq_some hn
  by_cases hb : (picks 9 = true ∧ 1 < action) ∨ (picks 10 = true ∧ 1 < policy)
  · simp only [if_neg hn, if_pos hb]
    exact State.serve_refuses h fun _ => configureLaneOwner_badChoice hl (Command.laneChoiceBad_iff.mpr hb)
  have choices : ¬ c.laneChoiceBad = true := fun hbad => hb (Command.laneChoiceBad_iff.mp hbad)
  have marks : (c.laneConfig g).marksOk = true ↔ low < high ∧ high ≤ 2048 ∧ 1 ≤ quanta := LaneConfig.marksOk_iff
  by_cases hm : low < high ∧ high ≤ 2048 ∧ 1 ≤ quanta
  · simp only [if_neg hn, if_neg hb, if_neg (not_not_intro hm)]
    have accepted := State.configureLane_accepted h hl choices (marks.mpr hm)
    rw [Command.laneConfig_eq choices, if_congr Command.laneClamped_iff rfl rfl] at accepted
    exact accepted
  · simp only [if_neg hn, if_neg hb, if_pos hm]
    exact State.serve_refuses h fun k => configureLaneOwner_badMarks (s := s.freed k) hl choices (mt marks.mp hm)

/-! ### Sample Lane Counters -/

section Sample

variable {c : Command} {s : State} {l : LaneId}

theorem sampleLaneCountersOwner_badLane (hl : c.lane = none) :
    sampleLaneCountersOwner c s = (s, status .badValue) := by
  simp only [sampleLaneCountersOwner, hl]

theorem sampleLaneCountersOwner_accepted (hl : c.lane = some l) : sampleLaneCountersOwner c s =
    (s.setLane l ((s.lane l).withControl ((s.lane l).control.latch s.timebase.tickCount)),
      { status := .ok, body := (s.lane l).control.sampleBody }) := by
  simp only [sampleLaneCountersOwner, hl]

/-- A sample of a lane that exists replies the sample record as it stood, and latches the present values (R141). -/
theorem State.sampleLaneCounters_accepted (h : s.offers c .sampleLaneCounters) (hl : c.lane = some l) :
    ∃ t, exec .sampleLaneCounters s = .next t ∧
      s.answered (s.setLane l ((s.lane l).withControl ((s.lane l).control.latch s.timebase.tickCount))) c
        { status := .ok, body := (s.lane l).control.sampleBody } t :=
  State.serve_answers h rfl rfl fun n => sampleLaneCountersOwner_accepted (s := s.freed n) hl

/-- The two words of a value of fewer than 48 bits give it back (R165). -/
theorem highWord_lowWord {n : Nat} (hn : n < 2 ^ 48) : (highWord n).toNat * 2 ^ 32 + (lowWord n).toNat = n := by
  simp only [highWord, lowWord, BitVec.toNat_ofNat]
  omega

/-- The mode and the two link states, each at its place in the first word of the body (section 11.4). -/
theorem LaneControl.sampleBody_head (k : LaneControl) :
    bits (k.sampleBody.getD 0 0) 1 0 = k.mode.code ∧ flag (k.sampleBody.getD 0 0) 8 = k.systemUp ∧
      flag (k.sampleBody.getD 0 0) 9 = k.lineUp := by
  simp only [LaneControl.sampleBody, List.cons_append, List.getD_cons_zero]
  cases k.mode <;> cases k.systemUp <;> cases k.lineUp <;> decide

theorem LaneControl.sampleBody_length (k : LaneControl) : k.sampleBody.length = 39 := by
  simp [LaneControl.sampleBody]

/-- Words 3 to 18 of the body are the outbound counters, past the three words of the head (section 11.4). -/
theorem LaneControl.sampleBody_outbound (k : LaneControl) (j : Fin 16) :
    k.sampleBody.getD (3 + j.val) 0 = BitVec.ofNat 32 k.sampleCounters.outbound[j] := by
  simp [LaneControl.sampleBody, Nat.add_comm 3, List.getElem?_append, wordOf]

/-- Words 19 to 38 of the body are the inbound counters, past the head and the 16 outbound ones (section 11.4). -/
theorem LaneControl.sampleBody_inbound (k : LaneControl) (j : Fin 20) :
    k.sampleBody.getD (19 + j.val) 0 = BitVec.ofNat 32 k.sampleCounters.inbound[j] := by
  simp [LaneControl.sampleBody, Nat.add_comm 19, List.getElem?_append, wordOf]

end Sample

/-- Settles O30: the body is read off the lane as it stood, and the latch takes effect after it (R141). -/
theorem sampleLaneCounters : Obligations.SampleLaneCounters := by
  intro s c h n l v k
  by_cases hn : 3 < n
  · simp only [if_pos hn]
    exact State.serve_refuses h fun _ => sampleLaneCountersOwner_badLane (Command.lane_eq_none hn)
  simp only [if_neg hn]
  obtain ⟨t, ht, answered⟩ := State.sampleLaneCounters_accepted h (Command.lane_eq_some hn)
  obtain ⟨hmode, hsystem, hline⟩ := k.sampleBody_head
  exact ⟨t, ht, k.sampleBody, answered, k.sampleBody_length, hmode, hsystem, hline, highWord_lowWord,
    k.sampleBody_outbound, k.sampleBody_inbound⟩

end Sys2Proof.Machine
end

