-- ==== Sys2Proof/Proofs/TakeAttention.lean ====
section
/-!
PROOFS. Take Attention (section 9.3): the Attention Set and its lowest index by the causes of the records, and the fields of the
word that reports a record.
-/

namespace Sys2Proof.Machine

/-! ### The Attention Set -/

theorem Causes.any_iff_ne_empty (k : Causes) : k.any = true ↔ k ≠ {} := by
  obtain ⟨keyNeeded, switched, halted, staleKey, keyFault⟩ := k
  simp only [Causes.any, Bool.or_eq_true, ne_eq, Causes.mk.injEq, not_and_or, Bool.not_eq_false, or_assoc]

section AttentionSet

variable {s : State}

/-- In a canonical Association Table the Attention Set holds exactly the indices whose records hold a cause (R149). An index that
is not listed reads as the FREE record, which holds none. -/
theorem State.mem_attentionSet_iff (h : s.manager.Canonical) {i : Nat} :
    i ∈ s.manager.attentionSet ↔ (s.record i).causes ≠ {} := by
  simp only [AssociationManager.attentionSet, List.mem_map, List.mem_filter, ← Causes.any_iff_ne_empty, State.record]
  constructor
  · rintro ⟨p, ⟨hlisted, hany⟩, rfl⟩
    rwa [KeyedList.find_of_mem h.records hlisted]
  · intro hany
    cases hfind : s.manager.records.find i with
    | none =>
      rw [hfind] at hany
      exact absurd hany (by decide)
    | some r =>
      rw [hfind] at hany
      exact ⟨(i, r), ⟨KeyedList.mem_of_find hfind, hany⟩, rfl⟩

theorem State.lowestAttention_eq_none_iff (h : s.manager.Canonical) :
    s.manager.lowestAttention = none ↔ ∀ i, (s.record i).causes = {} := by
  simp only [AssociationManager.lowestAttention, List.min?_eq_none_iff, List.eq_nil_iff_forall_not_mem,
    State.mem_attentionSet_iff h, not_not]

theorem State.lowestAttention_eq_some_iff (h : s.manager.Canonical) {i : Nat} :
    s.manager.lowestAttention = some i ↔ (s.record i).causes ≠ {} ∧ ∀ j, j < i → (s.record j).causes = {} := by
  simp only [AssociationManager.lowestAttention, List.min?_eq_some_iff, State.mem_attentionSet_iff h]
  refine and_congr_right fun _ => forall_congr' fun j => ?_
  rw [not_imp_comm, not_le]

end AttentionSet

/-! ### The word of a Take Attention body -/

theorem Causes.code_lt (k : Causes) : k.code < 2 ^ 5 := by
  have bit_le (b : Bool) : bit b ≤ 1 := by cases b <;> decide
  have keyNeeded := bit_le k.keyNeeded
  have switched := bit_le k.switched
  have halted := bit_le k.halted
  have staleKey := bit_le k.staleKey
  have keyFault := bit_le k.keyFault
  simp only [Causes.code]
  omega

theorem RecordState.code_lt (st : RecordState) : st.code < 2 ^ 3 := by cases st <;> decide

theorem HaltReason.code_lt (why : HaltReason) : why.code < 2 ^ 2 := by cases why <;> decide

theorem packWord_toNat (fields : List (Nat × Nat × Nat)) :
    (packWord fields).toNat = (fields.map fun f => f.2.2 % 2 ^ f.2.1 * 2 ^ f.1).sum % 2 ^ 32 := by
  rw [packWord, BitVec.toNat_ofNat, List.sum_eq_foldl, List.foldl_map]

theorem packWord_nil_toNat : (packWord []).toNat = 0 := rfl

/-- Stated for any place and width, so that the kernel never compares a power of two with one that it has to read off a tuple. -/
theorem packWord_cons_toNat (lo width v : Nat) (fields : List (Nat × Nat × Nat)) :
    (packWord ((lo, width, v) :: fields)).toNat = (v % 2 ^ width * 2 ^ lo + (packWord fields).toNat) % 2 ^ 32 := by
  rw [packWord_toNat, packWord_toNat, List.map_cons, List.sum_cons, Nat.add_mod_mod]

/-- The fields of a Take Attention body stand side by side in its word, none cut short (section 11.4). -/
theorem Record.attentionWord_toNat (r : Record) {i : Nat} (hi : i < 8192) : (r.attentionWord i).toNat =
    i + r.causes.code * 2 ^ 16 + r.state.code * 2 ^ 21 + r.haltReason.code * 2 ^ 24 := by
  have causes := r.causes.code_lt
  have state := r.state.code_lt
  have haltReason := r.haltReason.code_lt
  rw [Record.attentionWord]
  simp only [packWord_cons_toNat, packWord_nil_toNat]
  omega

/-- Each field of the word of a Take Attention body reads back what was put in it (section 11.4). -/
theorem Record.attentionWord_fields (r : Record) {i : Nat} (hi : i < 8192) :
    bits (r.attentionWord i) 15 0 = i ∧ bits (r.attentionWord i) 20 16 = r.causes.code ∧
    bits (r.attentionWord i) 23 21 = r.state.code ∧ bits (r.attentionWord i) 25 24 = r.haltReason.code := by
  have causes := r.causes.code_lt
  have state := r.state.code_lt
  have haltReason := r.haltReason.code_lt
  simp only [bits, Record.attentionWord_toNat r hi]
  omega

/-! ### Take Attention -/

section Take

variable {s : State} {c : Command} {i : Nat}

theorem takeAttentionOwner_empty (hlow : s.manager.lowestAttention = none) :
    takeAttentionOwner c s = (s, status .empty) := by
  simp only [takeAttentionOwner, hlow]

theorem takeAttentionOwner_taken (hlow : s.manager.lowestAttention = some i) : takeAttentionOwner c s =
    (s.setRecord i { s.record i with causes := {} }, { status := .ok, body := [(s.record i).attentionWord i] }) := by
  simp only [takeAttentionOwner, hlow]

/-- A Take Attention that finds the Attention Set empty changes nothing (R150). -/
theorem State.takeAttention_empty (h : s.offers c .takeAttention) (hlow : s.manager.lowestAttention = none) :
    ∃ t, exec .takeAttention s = .next t ∧ s.answered s c { status := .empty } t :=
  State.serve_refuses h fun n => takeAttentionOwner_empty (s := s.freed n) hlow

/-- A Take Attention reports the lowest index of the Attention Set as its record stood, and empties that record's causes (R150). -/
theorem State.takeAttention_taken (h : s.offers c .takeAttention) (hlow : s.manager.lowestAttention = some i) :
    ∃ t, exec .takeAttention s = .next t ∧
      s.answered (s.setRecord i { s.record i with causes := {} }) c
        { status := .ok, body := [(s.record i).attentionWord i] } t :=
  State.serve_answers h rfl rfl fun n => takeAttentionOwner_taken (s := s.freed n) hlow

end Take

/-- Settles O35, by whether the Attention Set has a lowest index: each of the two answers is the one whose condition holds. -/
theorem takeAttention : Obligations.TakeAttention := by
  intro s c h canonical holds
  cases hlow : s.manager.lowestAttention with
  | none =>
    have none_holds := (State.lowestAttention_eq_none_iff canonical).mp hlow
    obtain ⟨t, ht, answered⟩ := State.takeAttention_empty h hlow
    exact ⟨t, ht, fun _ => answered, fun i _ hi _ => absurd (none_holds i) hi⟩
  | some m =>
    obtain ⟨hm, -⟩ := (State.lowestAttention_eq_some_iff canonical).mp hlow
    obtain ⟨t, ht, answered⟩ := State.takeAttention_taken h hlow
    refine ⟨t, ht, fun none_holds => absurd hm (none_holds m), fun i hlt hi lower => ?_⟩
    have lowest : s.manager.lowestAttention = some i :=
      (State.lowestAttention_eq_some_iff canonical).mpr ⟨hi, fun j hj => not_not.mp (lower j hj)⟩
    obtain rfl : m = i := Option.some.inj (hlow.symm.trans lowest)
    exact ⟨_, answered, Record.attentionWord_fields _ hlt⟩

end Sys2Proof.Machine
end

