-- ==== Sys2Proof/Proofs/PartCommands.lean ====
section
/-!
PROOFS. Configure Part and Read Part (section 10.4): the checks of R159 as conditions on the fields of the command, and the fields
of the words that Read Part reports.
-/

namespace Sys2Proof.Machine

/-! ### Configure Part -/

section Configure

variable {s : State} {c : Command}

theorem envelopeTypeBad_iff {e : Nat} : envelopeTypeBad e = true ↔ e < 0x600 ∨ e = 0x8100 ∨ e = 0x8808 := by
  simp only [envelopeTypeBad, Bool.or_eq_true, decide_eq_true_eq, beq_iff_eq, or_assoc]

theorem thresholdBad_iff {n : Nat} : thresholdBad n = true ↔ n = 0 ∨ 256 < n := by
  simp only [thresholdBad, Bool.or_eq_true, decide_eq_true_eq, beq_iff_eq, Config.fifoWords]

/-- A check of R159 refuses a setting only where the setting is selected. -/
theorem Command.partBad_iff : c.partBad = true ↔
    (flag (c.word 0) 0 = true ∧ 7 < bits (c.word 0) 15 8) ∨
    (flag (c.word 0) 1 = true ∧
      (bits (c.word 1) 15 0 < 0x600 ∨ bits (c.word 1) 15 0 = 0x8100 ∨ bits (c.word 1) 15 0 = 0x8808)) ∨
    (flag (c.word 0) 2 = true ∧ (bits (c.word 2) 15 0 = 0 ∨ 256 < bits (c.word 2) 15 0)) ∨
    (flag (c.word 0) 3 = true ∧ (bits (c.word 2) 31 16 = 0 ∨ 256 < bits (c.word 2) 31 16)) := by
  simp only [Command.partBad, Bool.or_eq_true, Bool.and_eq_true, decide_eq_true_eq, envelopeTypeBad_iff, thresholdBad_iff,
    or_assoc]

/-- The taking of a Configure Part and the storing of its settings can be told in either order. -/
theorem State.configurePart_freed (n : Nat) : (s.freed n).configurePart c = (s.configurePart c).freed n := rfl

/-- A Configure Part that fails a check of R159 stores nothing. -/
theorem State.configurePart_refused (h : s.offers c .configurePart) (hb : c.partBad = true) :
    ∃ t, exec .configurePart s = .next t ∧ s.answered s c { status := .badValue } t :=
  State.serve_refuses h fun _ => if_pos hb

/-- A Configure Part that passes the checks of R159 stores the settings it selects. -/
theorem State.configurePart_accepted (h : s.offers c .configurePart) (hb : ¬ c.partBad = true) :
    ∃ t, exec .configurePart s = .next t ∧ s.answered (s.configurePart c) c { status := .ok } t :=
  State.serve_answers h rfl rfl fun n => by rw [configurePartOwner, if_neg hb, State.configurePart_freed, status]

end Configure

/-! ### Read Part -/

section Read

variable {s : State} {c : Command}

theorem State.partBody_length : s.partBody.length = 4 := rfl

/-- Word 0 of the body: the prescaler, which needs no more than its 3 bits, and the envelope type (section 11.4). -/
theorem State.partBody_settings :
    (s.timebase.prescaler ≤ 7 → bits (s.partBody.getD 0 0) 2 0 = s.timebase.prescaler) ∧
    bits (s.partBody.getD 0 0) 31 16 = s.port.envelopeType.toNat := by
  have envelopeType := s.port.envelopeType.isLt
  simp only [State.partBody, List.getD_cons_zero, bits, packWord_cons_toNat, packWord_nil_toNat]
  omega

/-- Word 1 of the body: the two thresholds, which a FIFO of 256 words keeps within their 16 bits (section 11.4). -/
theorem State.partBody_thresholds :
    (s.port.responseThreshold ≤ 256 → bits (s.partBody.getD 1 0) 15 0 = s.port.responseThreshold) ∧
    (s.port.spaceThreshold ≤ 256 → bits (s.partBody.getD 1 0) 31 16 = s.port.spaceThreshold) := by
  simp only [State.partBody, List.getD_cons_succ, List.getD_cons_zero, bits, packWord_cons_toNat, packWord_nil_toNat]
  omega

/-- Words 2 and 3 of the body: the tick count, low word first (R165). -/
theorem State.partBody_tickCount (hlt : s.timebase.tickCount < 2 ^ 48) :
    (s.partBody.getD 3 0).toNat * 2 ^ 32 + (s.partBody.getD 2 0).toNat = s.timebase.tickCount :=
  highWord_lowWord hlt

/-- A Read Part reports the settings and the tick count as they stand, and changes nothing (R160). -/
theorem State.readPart_answered (h : s.offers c .readPart) :
    ∃ t, exec .readPart s = .next t ∧ s.answered s c { status := .ok, body := s.partBody } t :=
  State.serve_answers h rfl rfl fun _ => rfl

end Read

/-- Settles O36: Configure Part by whether a check of R159 fails, and Read Part word by word of the body it reports. -/
theorem configureAndReadPart : Obligations.ConfigureAndReadPart := by
  intro s c picks p e response space
  refine ⟨fun h => ?_, fun h => ?_⟩
  · split
    next hbad => exact State.configurePart_refused h (Command.partBad_iff.mpr hbad)
    next hok => exact State.configurePart_accepted h (mt Command.partBad_iff.mp hok)
  · obtain ⟨t, ht, answered⟩ := State.readPart_answered h
    obtain ⟨prescaler, envelopeType⟩ := s.partBody_settings
    obtain ⟨responseThreshold, spaceThreshold⟩ := s.partBody_thresholds
    exact ⟨t, s.partBody, ht, answered, State.partBody_length, prescaler, envelopeType, responseThreshold, spaceThreshold,
      State.partBody_tickCount⟩

end Sys2Proof.Machine
end

section
/-!
PROOFS. The queue, the passing of time on an empty queue, and the resets (sections 1.13, 6.7, 6.8 and 10.6).
-/

namespace Sys2Proof.Machine

/-! ### Every command and event answers a next state -/

/-- The outcome is a next state: neither a fault nor a refusal. -/
def goesOn (r : Result) : Prop := ∃ t, r = .next t

@[simp] theorem goesOn_next (t : State) : goesOn (.next t) := ⟨t, rfl⟩

@[simp] theorem goesOn_takes (s t : State) : goesOn (s.takes t) := ⟨_, rfl⟩

@[simp] theorem goesOn_takesWrite (t : State) : goesOn t.takesWrite := ⟨_, rfl⟩

theorem goesOn_ite {p : Prop} [Decidable p] {a b : Result} (ha : goesOn a) (hb : goesOn b) :
    goesOn (if p then a else b) := by
  split
  · exact ha
  · exact hb

theorem goesOn_unlessResetting (s : State) {r : Result} (h : goesOn r) : goesOn (s.unlessResetting r) :=
  goesOn_ite (goesOn_next s) h

theorem goesOn_serve (s : State) (name : CommandName) (owner : Command → State → State × Reply) :
    goesOn (s.serve name owner) := by
  unfold State.serve
  split
  · exact goesOn_next _
  · exact goesOn_ite (goesOn_next _) (goesOn_next _)

theorem goesOn_flowEvent (s : State) (c : Command) (owner : Command → State → FlowOutcome) :
    goesOn (s.flowEvent c owner) := by
  unfold State.flowEvent
  dsimp only
  split
  · exact goesOn_next _
  · exact goesOn_ite (goesOn_next _) (goesOn_takes _ _)

theorem goesOn_flowArrives (s : State) (c : Command) (owner : Command → State → FlowOutcome) :
    goesOn (s.flowArrives c owner) :=
  goesOn_ite (goesOn_flowEvent s c owner) (goesOn_takes _ _)

theorem goesOn_serveFlow (s : State) (name : CommandName) (owner : Command → State → FlowOutcome) :
    goesOn (s.serveFlow name owner) := by
  unfold State.serveFlow
  split
  · split
    · exact goesOn_ite (goesOn_flowArrives _ _ _) (goesOn_next _)
    · exact goesOn_next _
  · exact goesOn_ite (goesOn_unlessResetting s (goesOn_flowEvent s _ _)) (goesOn_next _)
  · exact goesOn_ite (goesOn_unlessResetting s (goesOn_next _)) (goesOn_next _)
  · exact goesOn_next _

theorem goesOn_walkOn (s : State) (t : WalkTurn) : goesOn (s.walkOn t) := by
  unfold State.walkOn
  split
  · exact goesOn_takes _ _
  · exact goesOn_next _

theorem goesOn_execWalkTable (s : State) : goesOn (execWalkTable s) := by
  unfold execWalkTable
  split
  · exact goesOn_unlessResetting s (goesOn_walkOn s _)
  · split
    · exact goesOn_next _
    · refine goesOn_ite ?_ (goesOn_next _)
      split
      · exact goesOn_next _
      · exact goesOn_walkOn _ _

theorem goesOn_execCommandAnsweredByPort (s : State) : goesOn (execCommandAnsweredByPort s) := by
  unfold execCommandAnsweredByPort
  split
  · exact goesOn_next _
  · split
    · exact goesOn_next _
    · exact goesOn_next _

theorem goesOn_tickWhen (s : State) (i : Nat) (condition : Record → Bool) : goesOn (s.tickWhen i condition) :=
  goesOn_unlessResetting s (goesOn_ite (goesOn_takes _ _) (goesOn_next _))

theorem goesOn_completeLoop (s : State) (l : LaneId) : goesOn (s.completeLoop l) := by
  unfold State.completeLoop
  split
  · exact goesOn_ite (goesOn_takes _ _) (goesOn_next _)
  · exact goesOn_next _

/-- No command or event stops the part: by the combinator that its meaning is built with. -/
theorem goesOn_exec (c : Instr) (s : State) : goesOn (exec c s) := by
  cases c with
  | installAssociation | activateAssociation | modifyAssociation | retireAssociation | readAssociation | clearCounters
  | loadNextKey | rollNow | forceSwitch | setLaneMode | configureLane | sampleLaneCounters | restartLane | takeAttention
  | configurePart | readPart => exact goesOn_serve s _ _
  | addFlow | removeFlow | readFlow => exact goesOn_serveFlow s _ _
  | walkTable => exact goesOn_execWalkTable s
  | commandAnsweredByPort => exact goesOn_execCommandAnsweredByPort s
  | headerWrite | bodyWrite | keyWrite | assemblyExpiry | tick | cellClaim | transmissionBegin | loopHandoverStart =>
    exact goesOn_unlessResetting s (goesOn_takes _ _)
  | serviceStatusWrite | serviceEnableWrite | holdBitWrite => exact goesOn_unlessResetting s (goesOn_takesWrite _)
  | partReset => exact goesOn_unlessResetting s (goesOn_next _)
  | ignoredWrite | powerOnReset | pcieFundamentalReset => exact goesOn_next _
  | responseRead => exact goesOn_ite (goesOn_next _) (goesOn_takes _ _)
  | partResetEnd => exact goesOn_ite (goesOn_next _) (goesOn_next _)
  | recordTick i => exact goesOn_tickWhen s i fun _ => true
  | lifetimeThreshold i => exact goesOn_tickWhen s i Record.thresholdAtTick
  | leadExpiry i => exact goesOn_tickWhen s i fun r => r.leadAtTick s.timebase.tickCount
  | graceExpiry i => exact goesOn_tickWhen s i fun r => r.graceAtTick s.timebase.tickCount
  | overlapExpiry i => exact goesOn_tickWhen s i fun r => r.overlapAtTick s.timebase.tickCount
  | evidenceArrival | release | enqueue | queuedFrameWithdrawal | abandon | linePauseExpiry | refreshExpiry
  | deliveryStart | systemPauseExpiry =>
    exact goesOn_unlessResetting s (goesOn_ite (goesOn_takes _ _) (goesOn_next _))
  | linkEvent => exact goesOn_unlessResetting s (goesOn_ite (goesOn_next _) (goesOn_takes _ _))
  | allocationRequest | lookup | commit | egressReceiveCompletion | headTaken | allocationAnswer | transmissionCompletion
  | linePauseIndication | pauseFrameSend | lineFrameStart | systemPauseIndication | lookupAnswer | verificationCompletion
  | commitAnswer | deliveryCompletion =>
    refine goesOn_unlessResetting s ?_
    repeat' split
    all_goals simp only [goesOn_takes, goesOn_next]
  | ingressReceiveCompletion =>
    refine goesOn_unlessResetting s ?_
    split
    · exact goesOn_takes _ _
    · exact goesOn_next _
    · exact goesOn_completeLoop s _

/-- Settles O1: the second branch of the step. -/
theorem stepTakesFront : Obligations.StepTakesFront := by
  intro s c rest h
  simp only [step, h]

/-! ### The quantum -/

@[simp] theorem State.lane_quantum (s : State) (l : LaneId) : s.quantum.lane l = (s.lane l).quantum := by
  simp [State.lane, State.quantum, vget]

/-- Settles O2: `goesOn_exec`, and the quantum read lane by lane. -/
theorem nothingStopsAndIdleIsOneQuantum : Obligations.NothingStopsAndIdleIsOneQuantum := by
  refine ⟨goesOn_exec, fun s h => ⟨s.quantum, ?_, rfl, fun l => ?_⟩⟩
  · simp only [step, h]
  · rw [State.lane_quantum]
    rfl

/-! ### The state after reset -/

@[simp] theorem State.record_reset (i : Nat) : State.reset.record i = Record.free := rfl

@[simp] theorem State.lane_reset (l : LaneId) : State.reset.lane l = {} := by
  simp [State.lane, State.reset, vget]

/-- Settles O3: each field of the reset state by its default value. -/
theorem resetState : Obligations.ResetState := by
  refine ⟨fun i => rfl, rfl, rfl, rfl, rfl, rfl, rfl, rfl, fun l => ?_, rfl, rfl, ?_, rfl, rfl, rfl, rfl, rfl⟩
  · rw [State.lane_reset]
  · decide

theorem sound_reset : State.reset.Sound where
  manager := ⟨by decide, by decide, by decide, by decide, by decide⟩
  flows := ⟨by decide, by decide⟩
  lanes l := by
    rw [State.lane_reset]
    exact ⟨⟨by decide, by decide, by decide, by decide, by decide⟩, ⟨by decide, by decide⟩, by decide⟩
  port := ⟨by decide, by decide, by decide⟩
  turn := ⟨.inl rfl, by decide, fun _ h => nomatch h⟩
  timebase := ⟨by decide, by decide, by decide⟩

theorem referencesExact_reset : State.reset.ReferencesExact where
  named := fun _ h => nomatch h
  releasing := fun _ h => nomatch h
  flowCount := fun _ _ => rfl
  companion := fun _ _ h => nomatch h
  companionCount := fun _ _ => rfl
  tagged := fun _ _ h => nomatch h
  indexed := fun _ h => nomatch h
  tagRoom := by decide

theorem Slot.ok_erased (kind : Kind) : Slot.erased.Ok kind where
  absent := fun _ => rfl
  closing := fun h => nomatch h
  egress := fun _ => by decide
  ingress := fun _ => by decide

theorem Record.ok_free : Record.free.Ok where
  slot0 := Slot.ok_erased _
  slot1 := Slot.ok_erased _
  state := rfl
  triggers := fun h => nomatch h
  numbers := by decide
  next := by decide

theorem Slot.windowOk_erased (window : Nat) : Slot.erased.windowOk window :=
  ⟨.nil, fun _ => rfl, fun h => absurd h (Nat.lt_irrefl 0)⟩

theorem Record.windowOk_free (k : SlotNo) : Record.free.windowOk k := by
  cases k <;> exact Slot.windowOk_erased _

/-- Lanes that hold no frame, and no message in transit: no record is owed anything. -/
theorem State.countsExact_of_idle {s : State} (hr : ∀ i, s.record i = Record.free)
    (he : ∀ l, (s.lane l).egress = {}) (hi : ∀ l, (s.lane l).ingress = {}) (ht : s.transit = {}) : s.CountsExact := by
  have queued (l i) : s.queuedAt l i = 0 := by simp [State.queuedAt, State.queuedEntries, he, ht]
  have lanes (f : Lane → Nat) (hf : ∀ v : Lane, v.egress = {} → v.ingress = {} → f v = 0) :
      (s.lanes.toList.map f).sum = 0 := by
    refine List.sum_eq_zero fun n hn => ?_
    obtain ⟨v, hv, rfl⟩ := List.mem_map.mp hn
    obtain ⟨j, hj, rfl⟩ := List.mem_iff_getElem.mp hv
    have hj' : j < 4 := by simpa using hj
    exact hf _ (by simpa [State.lane, vget] using he ⟨j, hj'⟩) (by simpa [State.lane, vget] using hi ⟨j, hj'⟩)
  have egress (i k) : s.egressHeld i k = 0 := by
    rw [State.egressHeld, lanes _ fun v hv _ => by rw [hv]; rfl, ht]
    rfl
  have ingress (i k) : s.ingressHeld i k = 0 := by
    rw [State.ingressHeld, lanes _ fun v _ hv => by rw [hv]; rfl, ht]
    rfl
  have slots (i k) : ((s.record i).slot k).inFlight = 0 := by rw [hr]; cases k <;> rfl
  exact {
    requests := fun l => by rw [he]; exact ⟨by decide, by decide⟩
    receivers := fun l j h => by rw [hi] at h; cases h
    queued := fun i => by simp [queued, hr, ht, Record.free]
    enqueues := fun l i => by simp [ht]
    kept := fun l i h => by simp [ht] at h
    queuedRoom := fun i => by rw [hr]; exact Nat.zero_le _
    waiting := fun i _ => by rw [hr]; rfl
    egress := fun i k _ => by rw [slots, egress, ingress]; exact ⟨rfl, rfl⟩
    ingress := fun i k _ => by rw [slots, egress, ingress]; exact ⟨rfl, rfl⟩ }

/-- Settles O4: the invariants hold of a part whose records are FREE and whose engines hold no frame. -/
theorem resetMeetsInvariant : Obligations.ResetMeetsInvariant :=
  ⟨sound_reset, referencesExact_reset, fun _ => Record.ok_free,
    State.countsExact_of_idle (fun _ => rfl) (fun l => by rw [State.lane_reset]) (fun l => by rw [State.lane_reset]) rfl,
    fun _ => Record.windowOk_free⟩

/-! ### Resets -/

@[simp] theorem State.lane_fullReset (s : State) (links : LinkStates) (l : LaneId) :
    (s.fullReset links).lane l = Lane.cleared (links.system.getLsbD l.val) (links.line.getLsbD l.val) := by
  simp [State.lane, State.fullReset, State.resetBlocks, vget, linkUp]

@[simp] theorem State.lane_beginReset (s : State) (l : LaneId) :
    s.beginReset.lane l = Lane.cleared (s.lane l).control.systemUp (s.lane l).control.lineUp := by
  simp [State.lane, State.beginReset, State.resetBlocks, vget]

@[simp] theorem State.lane_endReset (s : State) (links : LinkStates) (l : LaneId) :
    (s.endReset links).lane l = (s.lane l).withLinks (links.system.getLsbD l.val) (links.line.getLsbD l.val) := by
  simp [State.lane, State.endReset, vget, linkUp]

/-- Settles O11: both resets are `State.fullReset`. -/
theorem fullResets : Obligations.FullResets := by
  intro s links c hc
  refine ⟨s.fullReset links, ?_, rfl, rfl, rfl, rfl, rfl, rfl, fun l => ?_, rfl, rfl, rfl⟩
  · rcases hc with rfl | rfl <;> rfl
  · rw [State.lane_fullReset, State.lane_reset]
    rfl

/-- While a Part Reset lasts an event that no block takes leaves the state (R163). -/
theorem State.unlessResetting_resetting {s : State} (h : s.port.resetting = true) (r : Result) :
    s.unlessResetting r = .next s :=
  if_pos h

/-- With no Part Reset an event is taken as its blocks take it. -/
theorem State.unlessResetting_running {s : State} (h : s.port.resetting = false) (r : Result) :
    s.unlessResetting r = r :=
  if_neg (by simp [h])

/-- Settles O12: the beginning of the reset, the closed window, and the reset's end. -/
theorem partReset : Obligations.PartReset := by
  intro s hold links w
  refine ⟨fun h => ?_, fun h => ?_, fun h => ?_⟩
  · refine ⟨s.beginReset, State.unlessResetting_running h _, rfl, rfl, rfl, rfl, rfl, rfl, fun l => ?_, rfl, rfl, rfl, rfl⟩
    rw [State.lane_beginReset, State.lane_reset]
    exact ⟨rfl, rfl, rfl, rfl, rfl, rfl, rfl⟩
  · have dropped (r : Result) : s.unlessResetting r = .next s := State.unlessResetting_resetting h r
    exact ⟨dropped _, dropped _, dropped _, dropped _, dropped _, dropped _, dropped _, if_pos h, fun _ => if_pos h⟩
  · refine ⟨s.endReset links, if_pos h, rfl, fun l => ?_⟩
    rw [State.lane_endReset]
    rfl

end Sys2Proof.Machine
end

section
/-!
PROOFS. The replay window (section 7.5): a number that has been accepted is never accepted again. And the round trip of a frame
through sealing and opening (sections 6.4, 7.3 and 7.6).
-/

namespace Sys2Proof.Machine

/-! ### The replay window -/

section Window

variable {sl : Slot} {window s x : Nat}

theorem mem_addMember {l : List Nat} : x ∈ addMember s l ↔ x = s ∨ x ∈ l := by
  induction l with
  | nil => simp [addMember]
  | cons a t ih =>
    unfold addMember
    split
    · simp
    · split
      next h => simp [h]
      next => simp only [List.mem_cons, ih, or_left_comm]

/-- A number added to a set in rising order leaves it so. -/
theorem addMember_rising {l : List Nat} (h : l.Pairwise (· < ·)) : (addMember s l).Pairwise (· < ·) := by
  induction l with
  | nil => simp [addMember]
  | cons a t ih =>
    obtain ⟨below, rising⟩ := List.pairwise_cons.mp h
    unfold addMember
    split
    next hs =>
      refine List.pairwise_cons.mpr ⟨fun y hy => ?_, h⟩
      rcases List.mem_cons.mp hy with rfl | hy
      · exact hs
      · exact hs.trans (below y hy)
    next hs =>
      split
      next => exact h
      next hne =>
        refine List.pairwise_cons.mpr ⟨fun y hy => ?_, ih rising⟩
        rcases mem_addMember.mp hy with rfl | hy
        · omega
        · exact below y hy

/-- A number is accepted above H, and in the window where it is not in A (R119). -/
theorem judge_eq_accept_iff {highest : Nat} {accepted : List Nat} : judge highest accepted window s = .accept ↔
    highest < s ∨ (max 1 (highest - window) ≤ s ∧ s ∉ accepted) := by
  unfold judge
  split
  next h => simp [h]
  next h =>
    split
    next hw =>
      split
      next hm => simp [h, hm]
      next hm => simp [hw, hm]
    next hw => simp [h, hw]

/-- A number that R119 does not accept again: at or below H, and in A or below the window. -/
def Slot.spent (sl : Slot) (window s : Nat) : Prop :=
  s ≤ sl.highest ∧ (s ∈ sl.accepted ∨ s < max 1 (sl.highest - window))

theorem judge_eq_accept_iff_not_spent : judge sl.highest sl.accepted window s = .accept ↔ ¬ sl.spent window s := by
  rw [judge_eq_accept_iff, Slot.spent]
  by_cases hm : s ∈ sl.accepted <;> simp only [hm, not_true, not_false_iff, and_false, and_true, true_or, false_or,
    or_false] <;> omega

theorem Slot.accept_highest : (sl.accept window s).highest = max sl.highest s := by
  unfold Slot.accept
  split
  · simp only; omega
  · simp only; omega

/-- A after an accepted number: it and what A held, less what falls below the window of a new H (R119). -/
theorem Slot.mem_accept_accepted : x ∈ (sl.accept window s).accepted ↔
    (x = s ∨ x ∈ sl.accepted) ∧ (sl.highest < s → s - window ≤ x) := by
  unfold Slot.accept
  split
  next h => simp [h, mem_addMember]
  next h => simp [h, mem_addMember]

/-- The number that a slot accepts is spent from then on. -/
theorem Slot.spent_accept_self : (sl.accept window s).spent window s := by
  refine ⟨?_, .inl (Slot.mem_accept_accepted.mpr ⟨.inl rfl, fun _ => Nat.sub_le _ _⟩)⟩
  rw [Slot.accept_highest]
  exact le_max_right _ _

/-- What is spent stays spent when another number is accepted: where it leaves A, it has fallen below the window. -/
theorem Slot.spent_accept (h : sl.spent window x) : (sl.accept window s).spent window x := by
  obtain ⟨hle, hx⟩ := h
  refine ⟨by rw [Slot.accept_highest]; omega, ?_⟩
  rw [Slot.mem_accept_accepted, Slot.accept_highest]
  rcases hx with hx | hx
  · by_cases hw : sl.highest < s → s - window ≤ x
    · exact .inl ⟨.inr hx, hw⟩
    · right
      omega
  · right
    omega

/-- No number that is spent is among those accepted later. -/
theorem Slot.not_mem_acceptedOf {arriving : List Nat} (h : sl.spent window x) : x ∉ sl.acceptedOf window arriving := by
  induction arriving generalizing sl with
  | nil => simp [Slot.acceptedOf]
  | cons s rest ih =>
    unfold Slot.acceptedOf
    cases hj : judge sl.highest sl.accepted window s with
    | accept =>
      have hne : x ≠ s := fun e => judge_eq_accept_iff_not_spent.mp hj (e ▸ h)
      simpa [hne] using ih (Slot.spent_accept h)
    | replay | late => exact ih h

/-- The accepted numbers differ: each is spent for those after it. -/
theorem Slot.nodup_acceptedOf (sl : Slot) (window : Nat) (arriving : List Nat) : (sl.acceptedOf window arriving).Nodup := by
  induction arriving generalizing sl with
  | nil => exact List.nodup_nil
  | cons s rest ih =>
    unfold Slot.acceptedOf
    cases judge sl.highest sl.accepted window s with
    | accept => exact List.nodup_cons.mpr ⟨Slot.not_mem_acceptedOf Slot.spent_accept_self, ih _⟩
    | replay | late => exact ih sl

/-- Settles O9: no premise on the window is needed. -/
theorem noNumberIsAcceptedTwice : Obligations.NoNumberIsAcceptedTwice :=
  fun window sl arriving _ => sl.nodup_acceptedOf window arriving

end Window

/-! ### Octets and numbers -/

@[simp] theorem toOctets_length (n v : Nat) : (toOctets n v).length = n := by
  induction n generalizing v with
  | zero => rfl
  | succ n ih => simp [toOctets, ih]

theorem ofOctets_append (a : List Byte) (b : Byte) : ofOctets (a ++ [b]) = ofOctets a * 256 + b.toNat := by
  simp [ofOctets]

/-- The octets of a number spell it, within their range. -/
theorem ofOctets_toOctets (n v : Nat) : ofOctets (toOctets n v) = v % 256 ^ n := by
  induction n generalizing v with
  | zero => simp [toOctets, ofOctets, Nat.mod_one]
  | succ n ih =>
    rw [toOctets, ofOctets_append, ih, BitVec.toNat_ofNat, pow_succ' 256 n, Nat.mod_mul]
    omega

section Fields

variable {a b : List Byte} {i n : Nat}

theorem fieldAt_append_left (h : i + n ≤ a.length) : fieldAt (a ++ b) i n = fieldAt a i n := by
  rw [fieldAt, fieldAt, List.drop_append_of_le_length (by omega), List.take_append_of_le_length (by simp; omega)]

theorem fieldAt_append_right (h : a.length ≤ i) : fieldAt (a ++ b) i n = fieldAt b (i - a.length) n := by
  rw [fieldAt, fieldAt, List.drop_append, List.drop_eq_nil_of_le h, List.nil_append]

theorem octet_append_right (h : a.length ≤ i) : octet (a ++ b) i = octet b (i - a.length) := by
  rw [octet, octet, List.getElem?_append_right h]

/-- A whole list of octets, read as one field from its first octet on. -/
theorem fieldAt_zero (h : a.length = n) : fieldAt (a ++ b) 0 n = ofOctets a := by
  rw [fieldAt, List.drop_zero, List.take_left' h]

end Fields

/-! ### The sealed frame -/

/-- Joining with the key stream twice gives the octets back: counter mode (log entry 4). -/
@[simp] theorem withKeyStream_withKeyStream (key : BitVec 256) (nonce : BitVec 96) (text : List Byte) :
    withKeyStream key nonce (withKeyStream key nonce text) = text := by
  refine List.ext_getElem (by simp [withKeyStream]) fun i _ _ => ?_
  simp [withKeyStream]

@[simp] theorem withKeyStream_length (key : BitVec 256) (nonce : BitVec 96) (text : List Byte) :
    (withKeyStream key nonce text).length = text.length := by
  simp [withKeyStream]

section Seal

variable {envelopeType : BitVec 16} {f : Frame} {h : EnvelopeFields}

/-- The control octet of an envelope header: version 1, C and the key number (section 11.1). -/
def EnvelopeFields.control (h : EnvelopeFields) : Byte :=
  BitVec.ofNat 8 (16 + (if h.confidential then 4 else 0) + h.keyNumber.toNat)

theorem EnvelopeFields.control_fields (h : EnvelopeFields) : h.control.toNat / 16 = 1 ∧ h.control.getLsbD 3 = false ∧
    h.control.getLsbD 2 = h.confidential ∧ h.control.setWidth 2 = h.keyNumber := by
  have fields : ∀ (c : Bool) (k : BitVec 2), let control : Byte := BitVec.ofNat 8 (16 + (if c then 4 else 0) + k.toNat)
      control.toNat / 16 = 1 ∧ control.getLsbD 3 = false ∧ control.getLsbD 2 = c ∧ control.setWidth 2 = k := by decide
  exact fields h.confidential h.keyNumber

theorem envelopeHeader_eq : envelopeHeader envelopeType h =
    toOctets 2 envelopeType.toNat ++ ([h.control] ++ (toOctets 3 h.tag.toNat ++ toOctets 6 h.sequence)) := by
  simp [envelopeHeader, EnvelopeFields.control]

@[simp] theorem envelopeHeader_length : (envelopeHeader envelopeType h).length = 12 := by
  simp [envelopeHeader_eq]

@[simp] theorem tagOctetsOf_length (t : BitVec 128) : (tagOctetsOf t).length = 16 := by
  simp [tagOctetsOf]

theorem tagOctets_le (f : Frame) : tagOctets f ≤ 4 := by
  unfold tagOctets
  split <;> omega

theorem clearPart_length (hf : 64 ≤ f.length) : (clearPart f).length = 12 + tagOctets f := by
  have := tagOctets_le f
  simp only [clearPart, List.length_take]
  omega

theorem protectedPart_length (hf : 64 ≤ f.length) : (protectedPart f).length = protectedCount f := by
  have := tagOctets_le f
  simp only [protectedPart, protectedCount, List.length_take, List.length_drop]
  omega

/-- The octets of an outbound frame are its clear part, its protected octets and its FCS. -/
theorem clearPart_append_protectedPart (hf : 64 ≤ f.length) : clearPart f ++ protectedPart f = f.take (f.length - 4) := by
  have := tagOctets_le f
  have hsplit : f.length - 4 = (12 + tagOctets f) + protectedCount f := by
    simp only [protectedCount]
    omega
  rw [hsplit, List.take_add]
  rfl

/-- A frame whose clear part is that of an outbound frame carries a VLAN tag exactly where that frame does: where it does not, the
envelope type stands in the place of the tag's type. -/
theorem vlanTagged_of_clearPart (hf : 64 ≤ f.length) (ht : envelopeType ≠ 0x8100) (rest : List Byte) :
    vlanTagged (clearPart f ++ (envelopeHeader envelopeType h ++ rest)) = vlanTagged f := by
  have hlen := clearPart_length hf
  by_cases hv : vlanTagged f = true
  · have h4 : tagOctets f = 4 := by simp [tagOctets, hv]
    have same : fieldAt (clearPart f) 12 2 = fieldAt f 12 2 := by
      rw [← List.take_append_drop (12 + tagOctets f) f, fieldAt_append_left (by rw [List.length_take]; omega)]
      simp [clearPart]
    rw [vlanTagged, fieldAt_append_left (by omega), same]
    rfl
  · have h0 : tagOctets f = 0 := by simp [tagOctets, hv]
    rw [vlanTagged, fieldAt_append_right (by omega), hlen, h0, envelopeHeader_eq, List.append_assoc, Nat.sub_self,
      fieldAt_zero (by simp), ofOctets_toOctets]
    have hne : envelopeType.toNat ≠ 0x8100 := fun e => ht (BitVec.eq_of_toNat_eq e)
    have hlt := envelopeType.isLt
    simp only [Bool.not_eq_true] at hv
    rw [hv, beq_eq_false_iff_ne]
    omega

/-- The parts of an enveloped frame: the clear part of the frame it protects, the envelope header, as many octets as are
protected, and the check tag, before the FCS (R99, R100). -/
structure Enveloped (envelopeType : BitVec 16) (f : Frame) (h : EnvelopeFields) (body tag : List Byte) (out : Frame) :
    Prop where
  frame : out = withFcs (clearPart f ++ (envelopeHeader envelopeType h ++ (body ++ tag)))
  long : 64 ≤ f.length
  type : envelopeType ≠ 0x8100
  body : body.length = protectedCount f
  tag : tag.length = 16

/-- An enveloped frame as octets from its envelope header on, behind the clear part. -/
theorem Enveloped.frame_eq {body tag : List Byte} {out : Frame} (e : Enveloped envelopeType f h body tag out) :
    ∃ fcs : List Byte, fcs.length = 4 ∧
      out = clearPart f ++ (envelopeHeader envelopeType h ++ (body ++ (tag ++ fcs))) :=
  ⟨fcsOctets (clearPart f ++ (envelopeHeader envelopeType h ++ (body ++ tag))), rfl,
    by rw [e.frame, withFcs]; simp only [List.append_assoc]⟩

theorem Enveloped.length {body tag : List Byte} {out : Frame} (e : Enveloped envelopeType f h body tag out) :
    out.length = f.length + 28 := by
  obtain ⟨fcs, hfcs, hout⟩ := e.frame_eq
  have hv := tagOctets_le f
  have hlong := e.long
  rw [hout]
  simp only [List.length_append, clearPart_length e.long, envelopeHeader_length, e.body, e.tag, hfcs, protectedCount]
  omega

theorem Enveloped.tagOctets {body tag : List Byte} {out : Frame} (e : Enveloped envelopeType f h body tag out) :
    tagOctets out = tagOctets f := by
  obtain ⟨fcs, -, hout⟩ := e.frame_eq
  rw [Sys2Proof.Machine.tagOctets, Sys2Proof.Machine.tagOctets, hout, vlanTagged_of_clearPart e.long e.type]

theorem Enveloped.headerAt {body tag : List Byte} {out : Frame} (e : Enveloped envelopeType f h body tag out) :
    headerAt out = (clearPart f).length := by
  rw [Sys2Proof.Machine.headerAt, e.tagOctets, clearPart_length e.long]

/-- The fields of the envelope header stand at their places behind the clear part (section 11.1). -/
theorem Enveloped.header {body tag : List Byte} {out : Frame} (e : Enveloped envelopeType f h body tag out)
    (hs : h.sequence < 2 ^ 48) : enveloped envelopeType out = true ∧ controlOctet out = h.control ∧ headerFields out = h := by
  obtain ⟨fcs, -, hout⟩ := e.frame_eq
  have type : fieldAt out (Sys2Proof.Machine.headerAt out) 2 = envelopeType.toNat := by
    rw [e.headerAt, hout, fieldAt_append_right (le_refl _), Nat.sub_self, envelopeHeader_eq]
    simp only [List.append_assoc]
    rw [fieldAt_zero (by simp), ofOctets_toOctets]
    exact Nat.mod_eq_of_lt envelopeType.isLt
  have control : controlOctet out = h.control := by
    rw [controlOctet, e.headerAt, hout, octet_append_right (by omega), Nat.add_sub_cancel_left, envelopeHeader_eq]
    simp only [List.append_assoc]
    rw [octet_append_right (by simp)]
    simp [octet]
  have tagField : fieldAt out (Sys2Proof.Machine.headerAt out + 3) 3 = h.tag.toNat := by
    rw [e.headerAt, hout, fieldAt_append_right (by omega), Nat.add_sub_cancel_left, envelopeHeader_eq]
    simp only [List.append_assoc]
    rw [fieldAt_append_right (by simp), fieldAt_append_right (by simp)]
    simp only [toOctets_length, List.length_singleton]
    rw [fieldAt_zero (by simp), ofOctets_toOctets]
    exact Nat.mod_eq_of_lt h.tag.isLt
  have sequence : fieldAt out (Sys2Proof.Machine.headerAt out + 6) 6 = h.sequence := by
    rw [e.headerAt, hout, fieldAt_append_right (by omega), Nat.add_sub_cancel_left, envelopeHeader_eq]
    simp only [List.append_assoc]
    rw [fieldAt_append_right (by simp), fieldAt_append_right (by simp), fieldAt_append_right (by simp)]
    simp only [toOctets_length, List.length_singleton]
    rw [fieldAt_zero (by simp), ofOctets_toOctets]
    exact Nat.mod_eq_of_lt hs
  obtain ⟨-, -, confidential, keyNumber⟩ := h.control_fields
  refine ⟨?_, control, ?_⟩
  · rw [enveloped, type, beq_self_eq_true]
  · rw [headerFields, tagField, sequence, control, confidential, keyNumber]
    simp

theorem Enveloped.parse {body tag : List Byte} {out : Frame} (e : Enveloped envelopeType f h body tag out)
    (hs : h.sequence < 2 ^ 48) (h1 : 1 ≤ h.sequence) : parseEnvelope out = .ok h := by
  obtain ⟨-, control, fields⟩ := e.header hs
  obtain ⟨version, zero, -, -⟩ := h.control_fields
  have hlong := e.long
  rw [parseEnvelope, fields, control, zero, e.length, if_neg (by simp only [Config.envelopedMin]; omega), if_neg (by omega),
    if_neg (by decide), if_neg (by omega)]

theorem Enveloped.deliveredCount {body tag : List Byte} {out : Frame} (e : Enveloped envelopeType f h body tag out) :
    deliveredCount out = protectedCount f := by
  rw [Sys2Proof.Machine.deliveredCount, deliveredLength, e.tagOctets, e.length, protectedCount]
  rfl

/-- The parts of an enveloped frame are read back as they were put together. -/
theorem Enveloped.parts {body tag : List Byte} {out : Frame} (e : Enveloped envelopeType f h body tag out) :
    clearPart out = clearPart f ∧ receivedHeader out = envelopeHeader envelopeType h ∧ envelopedBody out = body ∧
      receivedTag out = tag := by
  obtain ⟨fcs, hfcs, hout⟩ := e.frame_eq
  have hclear := clearPart_length e.long
  have hlong := e.long
  have clear : clearPart out = clearPart f := by
    rw [Sys2Proof.Machine.clearPart, e.tagOctets, hout, List.take_left' hclear]
  have behind : out.drop (Sys2Proof.Machine.headerAt out) = envelopeHeader envelopeType h ++ (body ++ (tag ++ fcs)) := by
    rw [e.headerAt, hout, List.drop_left]
  have header : receivedHeader out = envelopeHeader envelopeType h := by
    rw [receivedHeader, behind, List.take_left' envelopeHeader_length]
  have rest : out.drop (Sys2Proof.Machine.headerAt out + 12) = body ++ (tag ++ fcs) := by
    rw [← List.drop_drop, behind, List.drop_left' envelopeHeader_length]
  have hbody : envelopedBody out = body := by
    rw [envelopedBody, rest, e.deliveredCount, List.take_left' e.body]
  refine ⟨clear, header, hbody, ?_⟩
  have hat : out.length - 20 = (Sys2Proof.Machine.headerAt out + 12) + body.length := by
    have := e.length
    have := tagOctets_le f
    rw [e.headerAt, hclear, e.body, protectedCount]
    omega
  rw [receivedTag, hat, ← List.drop_drop, rest, List.drop_left, List.take_left' e.tag]

end Seal

section Grant

variable {envelopeType : BitVec 16} {g : EgressGrant} {f : Frame}

/-- What the header of a granted frame and its clear part give, with the protected octets where they are not enciphered: the
associated data of the cipher function (R100). -/
def EgressGrant.associated (g : EgressGrant) (envelopeType : BitVec 16) (f : Frame) : List Byte :=
  clearPart f ++ envelopeHeader envelopeType g.fields ++ if g.confidential then [] else protectedPart f

/-- The protected octets as a sealed frame carries them: enciphered where the grant is confidential (R100). -/
def EgressGrant.carried (g : EgressGrant) (f : Frame) : List Byte :=
  if g.confidential then withKeyStream g.key (nonceOf g.salt g.sequence) (protectedPart f) else protectedPart f

/-- The check tag of a sealed frame (R100). -/
def EgressGrant.checkTag (g : EgressGrant) (envelopeType : BitVec 16) (f : Frame) : List Byte :=
  tagOctetsOf (Config.checkTag g.key (nonceOf g.salt g.sequence) (g.associated envelopeType f)
    (if g.confidential then g.carried f else []))

theorem sealFrame_enveloped (hlong : 64 ≤ f.length) (ht : envelopeType ≠ 0x8100) :
    Enveloped envelopeType f g.fields (g.carried f) (g.checkTag envelopeType f) (sealFrame envelopeType g f) where
  frame := by
    unfold sealFrame EgressGrant.checkTag EgressGrant.associated EgressGrant.carried
    cases g.confidential <;> simp [sealPlaintext, withKeyStream]
  long := hlong
  type := ht
  body := by
    unfold EgressGrant.carried
    split
    · rw [withKeyStream_length, protectedPart_length hlong]
    · exact protectedPart_length hlong
  tag := tagOctetsOf_length _

/-- Opening an enveloped frame that carries what a grant seals gives the protected octets (R121). -/
theorem Enveloped.opens {out : Frame}
    (e : Enveloped envelopeType f g.fields (g.carried f) (g.checkTag envelopeType f) out) :
    openFrame g.key g.salt g.fields out = some (protectedPart f) := by
  obtain ⟨clear, header, body, tag⟩ := e.parts
  rw [openFrame, clear, header, body, tag]
  have hc : g.fields.confidential = g.confidential := rfl
  have hs : g.fields.sequence = g.sequence := rfl
  rw [hc, hs, openSealed, openSealed, EgressGrant.checkTag, EgressGrant.associated, EgressGrant.carried]
  cases g.confidential <;> simp

end Grant

/-- Settles O10: the sealed frame has the parts of an enveloped one, which are read back, opened and joined again. -/
theorem sealedFrameOpens : Obligations.SealedFrameOpens := by
  intro envelopeType g f hlong hfcs h1 hs ht out
  have e : Enveloped envelopeType f g.fields (g.carried f) (g.checkTag envelopeType f) out :=
    sealFrame_enveloped hlong ht
  have passes : fcsMatches out = true := by rw [e.frame, fcsMatches_withFcs]
  refine ⟨e.length, passes, (e.header hs).1, e.parse hs h1, e.deliveredCount, protectedPart f, e.opens, ?_⟩
  rw [stripFrame, e.parts.1, clearPart_append_protectedPart hlong, withFcs]
  rw [fcsMatches, beq_iff_eq] at hfcs
  rw [← hfcs, List.take_append_drop]

end Sys2Proof.Machine
end

section
/-!
PROOFS. Install Association (section 1.4): the checks of R8 as conditions on the words of the command, and the record that an
accepted Install makes of each kind.
-/

namespace Sys2Proof.Machine

section Install

variable {s : State} {c : Command}

theorem Command.installKind_eq_ingress_iff : c.installKind = .ingress ↔ flag (c.word 0) 16 = true := by
  unfold Command.installKind
  split
  next h => simp [h]
  next h => simp [h]

theorem Command.installKind_eq_egress_iff : c.installKind = .egress ↔ flag (c.word 0) 16 = false := by
  unfold Command.installKind
  split
  next h => simp [h]
  next h => simpa using h

/-- The soft threshold is 0 only where it is given by its words, and they are 0 (R8, section 11.4). -/
theorem Command.softThreshold_eq_zero_iff :
    c.softThreshold = 0 ↔ flag (c.word 0) 28 = false ∧ c.word 7 = 0 ∧ bits (c.word 8) 15 0 = 0 := by
  have hword : c.word 7 = 0 ↔ (c.word 7).toNat = 0 := BitVec.toNat_inj.symm
  unfold Command.softThreshold
  split
  next h => simp [h, Config.defaultT]
  next h =>
    simp only [Bool.not_eq_true] at h
    rw [h, hword]
    simp only [true_and]
    omega

theorem companionOutOfRange_iff {o : Option Nat} : companionOutOfRange o = true ↔ ∃ i, o = some i ∧ 8192 ≤ i := by
  cases o <;> simp [companionOutOfRange, Config.records]

theorem Command.installCompanion_eq_some_iff {i : Nat} :
    c.installCompanion = some i ↔ flag (c.word 0) 26 = true ∧ bits (c.word 2) 15 0 = i := by
  unfold Command.installCompanion
  split
  next h => simp [h]
  next h => simp [h]

theorem Command.installCompanion_isSome : c.installCompanion.isSome = flag (c.word 0) 26 := by
  unfold Command.installCompanion
  split
  next h => simp [h]
  next h => simp [h]

/-- Check 3 of R8 by the words of the command. -/
theorem Command.installBadValue_iff : c.installBadValue = true ↔
    bits (c.word 0) 23 20 = 0 ∨ (flag (c.word 0) 16 = true ∧ flag (c.word 0) 26 = true)
      ∨ (flag (c.word 0) 26 = true ∧ 8192 ≤ bits (c.word 2) 15 0)
      ∨ (flag (c.word 0) 16 = false ∧ flag (c.word 0) 28 = false ∧ c.word 7 = 0 ∧ bits (c.word 8) 15 0 = 0) := by
  simp only [Command.installBadValue, Bool.or_eq_true, Bool.and_eq_true, beq_iff_eq, Command.installKind_eq_ingress_iff,
    Command.installKind_eq_egress_iff, Command.installCompanion_isSome, companionOutOfRange_iff,
    Command.installCompanion_eq_some_iff, Command.softThreshold_eq_zero_iff, or_assoc]
  simp only [and_assoc, ↓existsAndEq, true_and]

theorem State.companionWrongKind_iff {o : Option Nat} : s.companionWrongKind o = true ↔
    ∃ i, o = some i ∧ (s.record i).state ≠ .free ∧ (s.record i).config.kind = .egress := by
  cases o <;> simp [State.companionWrongKind]

theorem State.companionNotPresent_iff {o : Option Nat} : s.companionNotPresent o = true ↔
    ∃ i, o = some i ∧ ((s.record i).state = .free ∨ (s.record i).state = .retiring) := by
  cases o <;> simp [State.companionNotPresent]

/-- The number of the 24-bit tag in word 1 is the field that holds it. -/
theorem toNat_tagField (w : Word) : (BitVec.ofNat 24 (bits w 23 0)).toNat = bits w 23 0 := by
  rw [BitVec.toNat_ofNat]
  exact Nat.mod_eq_of_lt (Nat.mod_lt _ (by decide))

theorem Command.installConfig_tag : c.installConfig.tag.toNat = bits (c.word 1) 23 0 := by
  rw [← toNat_tagField]
  unfold Command.installConfig
  dsimp only
  cases c.installKind <;> rfl

/-- The checks of R8, in their order, by the words of the command. -/
theorem State.installRefusal_eq (s : State) (c : Command) : s.installRefusal c =
    if 8192 ≤ bits (c.word 0) 15 0 then some .badIndex
    else if (s.record (bits (c.word 0) 15 0)).state ≠ .free then some .occupied
    else if bits (c.word 0) 23 20 = 0 ∨ (flag (c.word 0) 16 = true ∧ flag (c.word 0) 26 = true)
        ∨ (flag (c.word 0) 26 = true ∧ 8192 ≤ bits (c.word 2) 15 0)
        ∨ (flag (c.word 0) 16 = false ∧ flag (c.word 0) 28 = false ∧ c.word 7 = 0 ∧ bits (c.word 8) 15 0 = 0) then
      some .badValue
    else if flag (c.word 0) 26 = true ∧ (s.record (bits (c.word 2) 15 0)).state ≠ .free ∧
        (s.record (bits (c.word 2) 15 0)).config.kind = .egress then some .wrongKind
    else if flag (c.word 0) 26 = true ∧ ((s.record (bits (c.word 2) 15 0)).state = .free ∨
        (s.record (bits (c.word 2) 15 0)).state = .retiring) then some .notPresent
    else if flag (c.word 0) 16 = true ∧ (s.manager.tagIndex.find (bits (c.word 1) 23 0)).isSome = true then some .tagInUse
    else if c.framing = true then some .badFraming
    else none := by
  unfold State.installRefusal
  simp only [Command.installBadValue_iff, State.companionWrongKind_iff, State.companionNotPresent_iff,
    Command.installCompanion_eq_some_iff, Command.installKind_eq_ingress_iff, Command.installConfig_tag, and_assoc,
    ↓existsAndEq, true_and]
  rfl

/-- An Install that fails a check of R8 changes nothing. -/
theorem State.install_refused {st : Status} (h : s.offers c .installAssociation) (hst : s.installRefusal c = some st) :
    ∃ t, exec .installAssociation s = .next t ∧ s.answered s c { status := st } t :=
  State.serve_refuses h fun n => by
    have hst' : (s.freed n).installRefusal c = some st := hst
    simp only [installOwner, hst']

/-- Settles O13: the checks are those of `State.installRefusal`. -/
theorem installRefusedInOrder : Obligations.InstallRefusedInOrder := by
  intro s c st h ingress named companion hst
  refine State.install_refused h ?_
  rw [State.installRefusal_eq]
  exact hst

theorem State.gainCompanion_freed (s : State) (n : Nat) (o : Option Nat) :
    (s.freed n).gainCompanion o = (s.gainCompanion o).freed n := by
  cases o <;> rfl

@[simp] theorem State.gainCompanion_port (s : State) (o : Option Nat) : (s.gainCompanion o).port = s.port := by
  cases o <;> rfl

/-- The taking of a command and an Install can be told in either order. -/
theorem State.install_freed (s : State) (n : Nat) (c : Command) : (s.freed n).install c = (s.install c).freed n := by
  unfold State.install
  dsimp only
  cases c.installKind
  case egress => exact State.gainCompanion_freed (s.setRecord c.index c.installed) n _
  case ingress => rfl

@[simp] theorem State.install_port (s : State) (c : Command) : (s.install c).port = s.port := by
  unfold State.install
  dsimp only
  cases c.installKind
  case egress => exact State.gainCompanion_port _ _
  case ingress => rfl

/-- An Install that passes every check of R8 is one event, with CLAMPED or OK (R9). -/
theorem State.install_accepted (h : s.offers c .installAssociation) (hst : s.installRefusal c = none) :
    ∃ t, exec .installAssociation s = .next t ∧
      s.answered (s.install c) c { status := if c.installClamped then .clamped else .ok } t := by
  refine State.serve_answers h (by rw [State.install_port]) (by rw [State.install_port]) fun n => ?_
  have hst' : (s.freed n).installRefusal c = none := hst
  simp only [installOwner, hst', State.install_freed, status]

theorem State.install_egress (hk : c.installKind = .egress) :
    s.install c = (s.setRecord c.index c.installed).gainCompanion c.installCompanion := by
  simp only [State.install, hk]

theorem State.install_ingress (hk : c.installKind = .ingress) :
    s.install c = (s.setRecord c.index c.installed).insertTag c.installConfig.tag c.index := by
  simp only [State.install, hk]

/-- A word whose value is used as an interval is clamped where it is above the largest one (R9). -/
theorem Command.intervalClamped_iff {k : Nat} : c.intervalClamped k = true ↔ 1048575 < (c.word k).toNat :=
  decide_eq_true_iff

theorem Command.windowClamped_iff :
    c.windowClamped = true ↔ flag (c.word 0) 27 = false ∧ 255 < bits (c.word 2) 31 16 := by
  simp only [Command.windowClamped, Bool.and_eq_true, Bool.not_eq_true', decide_eq_true_eq]

/-- A Boolean is the decision of what it is true for. -/
theorem decide_eq_of_iff {b : Bool} {p : Prop} [Decidable p] (h : b = true ↔ p) : decide p = b :=
  Bool.eq_iff_iff.mpr (decide_eq_true_iff.trans h.symm)

/-- Settles O14: the installed record field by field; the companion is not the record installed, which was FREE. -/
theorem installEgressRecord : Obligations.InstallEgressRecord := by
  intro s c h hegress hi hfree hframing hmask hthreshold hcompanion i companion clamped placed
  have kind : c.installKind = .egress := Command.installKind_eq_egress_iff.mpr hegress
  have passes : s.installRefusal c = none := by
    have threshold : ¬ (flag (c.word 0) 28 = false ∧ c.word 7 = 0 ∧ bits (c.word 8) 15 0 = 0) := by
      rintro ⟨h28, h7, h8⟩
      rcases hthreshold with h' | h' | h'
      · exact absurd (h28.symm.trans h') (by decide)
      · exact h' h7
      · exact h' h8
    rw [State.installRefusal_eq, if_neg (by omega), if_neg (not_not_intro hfree)]
    by_cases named : flag (c.word 0) 26 = true
    · obtain ⟨inTable, ingress, inUse⟩ := hcompanion named
      have present : ¬ ((s.record (bits (c.word 2) 15 0)).state = .free ∨
          (s.record (bits (c.word 2) 15 0)).state = .retiring) := by
        rcases inUse with h' | h' | h' <;> simp [h']
      have right : (s.record (bits (c.word 2) 15 0)).config.kind ≠ .egress := by simp [ingress]
      have inRange : ¬ 8192 ≤ bits (c.word 2) 15 0 := by omega
      simp only [hegress, hmask, inRange, threshold, right, present, hframing, and_false, false_and, or_false, if_false,
        Bool.false_eq_true]
    · simp only [hegress, hmask, named, threshold, hframing, and_false, false_and, or_false, if_false, Bool.false_eq_true]
  have placed_eq : placed = s.setRecord c.index c.installed := by
    refine congrArg (s.setRecord i) ?_
    unfold Command.installed Command.installConfig
    dsimp only
    rw [kind]
    rfl
  have clamped_eq : clamped = c.installClamped := by
    refine decide_eq_of_iff ?_
    simp only [Command.installClamped, kind, Bool.or_eq_true, Command.intervalClamped_iff]
  have accepted := State.install_accepted h passes
  rw [State.install_egress kind, ← placed_eq, ← clamped_eq] at accepted
  by_cases named : flag (c.word 0) 26 = true
  · have apart : i ≠ companion := by
      intro e
      have free : (s.record companion).state = .free := e ▸ hfree
      obtain ⟨-, -, inUse⟩ := hcompanion named
      rcases inUse with h' | h' | h' <;> exact absurd (free.symm.trans h') (by decide)
    have link : c.installCompanion = some companion := Command.installCompanion_eq_some_iff.mpr ⟨named, rfl⟩
    rw [link, State.gainCompanion, State.record_setRecord_ne s _ apart] at accepted
    simp only [if_pos named]
    exact accepted
  · have link : c.installCompanion = none := if_neg named
    rw [link, State.gainCompanion] at accepted
    simp only [if_neg named]
    exact accepted

/-- Settles O15: the installed record field by field, and its tag inserted. -/
theorem installIngressRecord : Obligations.InstallIngressRecord := by
  intro s c h hingress hi hfree hframing hmask hcompanion htag i clamped placed
  have kind : c.installKind = .ingress := Command.installKind_eq_ingress_iff.mpr hingress
  have passes : s.installRefusal c = none := by
    rw [State.installRefusal_eq, if_neg (by omega), if_neg (not_not_intro hfree)]
    simp only [hingress, hcompanion, hmask, htag, hframing, and_false, false_and, or_false, if_false,
      Bool.false_eq_true, Bool.true_eq_false, Option.isSome_none]
  have placed_eq : placed = s.setRecord c.index c.installed := by
    refine congrArg (s.setRecord i) ?_
    unfold Command.installed Command.installConfig
    dsimp only
    rw [kind]
    rfl
  have clamped_eq : clamped = c.installClamped := by
    refine decide_eq_of_iff ?_
    simp only [Command.installClamped, kind, Bool.or_eq_true, Command.intervalClamped_iff, Command.windowClamped_iff]
  have accepted := State.install_accepted h passes
  rw [State.install_ingress kind, ← placed_eq, ← clamped_eq, State.insertTag, Command.installConfig_tag] at accepted
  exact accepted

end Install

end Sys2Proof.Machine
end

section
/-!
LAWS. The operations of Machine/Records.lean on one record, said once: what a slot reads back, and that the rollover operations
follow on from the record: they leave its configuration and its counts, and do to its slots what a slot rule allows.
-/

namespace Sys2Proof.Machine

/-! ### Slots read back -/

section Slots

variable (r : Record) (k j : SlotNo) (sl : Slot)

/-! #### `Record.setSlot` leaves every field but the slots -/

@[simp] theorem Record.setSlot_config : (r.setSlot k sl).config = r.config := by cases k <;> rfl
@[simp] theorem Record.setSlot_state : (r.setSlot k sl).state = r.state := by cases k <;> rfl
@[simp] theorem Record.setSlot_companionCount : (r.setSlot k sl).companionCount = r.companionCount := by cases k <;> rfl
@[simp] theorem Record.setSlot_flowReferences : (r.setSlot k sl).flowReferences = r.flowReferences := by cases k <;> rfl
@[simp] theorem Record.setSlot_queuedFrames : (r.setSlot k sl).queuedFrames = r.queuedFrames := by cases k <;> rfl
@[simp] theorem Record.setSlot_lifetimeCounter : (r.setSlot k sl).lifetimeCounter = r.lifetimeCounter := by cases k <;> rfl
@[simp] theorem Record.setSlot_octetRemainder : (r.setSlot k sl).octetRemainder = r.octetRemainder := by cases k <;> rfl
@[simp] theorem Record.setSlot_stage : (r.setSlot k sl).stage = r.stage := by cases k <;> rfl
@[simp] theorem Record.setSlot_stageTimer : (r.setSlot k sl).stageTimer = r.stageTimer := by cases k <;> rfl
@[simp] theorem Record.setSlot_graceTimer : (r.setSlot k sl).graceTimer = r.graceTimer := by cases k <;> rfl
@[simp] theorem Record.setSlot_triggerLatch : (r.setSlot k sl).triggerLatch = r.triggerLatch := by cases k <;> rfl
@[simp] theorem Record.setSlot_pendingTrigger : (r.setSlot k sl).pendingTrigger = r.pendingTrigger := by cases k <;> rfl
@[simp] theorem Record.setSlot_evidence : (r.setSlot k sl).evidence = r.evidence := by cases k <;> rfl
@[simp] theorem Record.setSlot_switchCapture : (r.setSlot k sl).switchCapture = r.switchCapture := by cases k <;> rfl
@[simp] theorem Record.setSlot_switchTick : (r.setSlot k sl).switchTick = r.switchTick := by cases k <;> rfl
@[simp] theorem Record.setSlot_switchCount : (r.setSlot k sl).switchCount = r.switchCount := by cases k <;> rfl
@[simp] theorem Record.setSlot_haltReason : (r.setSlot k sl).haltReason = r.haltReason := by cases k <;> rfl
@[simp] theorem Record.setSlot_causes : (r.setSlot k sl).causes = r.causes := by cases k <;> rfl
@[simp] theorem Record.setSlot_staleMark : (r.setSlot k sl).staleMark = r.staleMark := by cases k <;> rfl
@[simp] theorem Record.setSlot_currentSlot : (r.setSlot k sl).currentSlot = r.currentSlot := by cases k <;> rfl
@[simp] theorem Record.setSlot_counters : (r.setSlot k sl).counters = r.counters := by cases k <;> rfl

/-- A slot read after a slot is given. -/
theorem Record.slot_setSlot : (r.setSlot k sl).slot j = if k = j then sl else r.slot j := by
  cases k <;> cases j <;> rfl

@[simp] theorem Record.slot_setSlot_self : (r.setSlot k sl).slot k = sl := by cases k <;> rfl

@[simp] theorem Record.slot_setSlot_not : (r.setSlot k sl).slot (!k) = r.slot (!k) := by cases k <;> rfl

@[simp] theorem Record.slot_setSlot_of_not : (r.setSlot (!k) sl).slot k = r.slot k := by cases k <;> rfl

@[simp] theorem Record.setSlot_setSlot (sl' : Slot) : (r.setSlot k sl').setSlot k sl = r.setSlot k sl := by
  cases k <;> rfl

@[simp] theorem Record.setSlot_slot : r.setSlot k (r.slot k) = r := by cases k <;> rfl

end Slots

theorem Record.usableNext_iff (r : Record) : r.usableNext = true ↔ r.otherPosition.role = .next := beq_iff_eq

theorem Slot.close_of_idle {sl : Slot} (h : sl.inFlight = 0) : sl.close = Slot.erased := if_pos h

theorem Slot.close_of_held {sl : Slot} (h : sl.inFlight ≠ 0) : sl.close = { sl with role := .closing } := if_neg h

/-- Closing a slot ends no grant: an erased one had none. -/
@[simp] theorem Slot.close_inFlight (sl : Slot) : sl.close.inFlight = sl.inFlight := by
  unfold Slot.close
  split
  next h => exact h.symm
  next => rfl

/-! ### What may happen to a slot -/

/-- A rule for what a slot may become that covers the rollover operations: nothing, one after another, the end of its role, and a
NEXT that becomes CURRENT or is found damaged (R5, R63, R64). -/
structure SlotRule (R : Slot → Slot → Prop) : Prop where
  refl : ∀ a, R a a
  trans : ∀ a b c, R a b → R b c → R a c
  close : ∀ a, R a a.close
  switch : ∀ a, a.role = .next → R a { a with role := .current, nextSequence := 1 }
  damage : ∀ a, a.role = .next → R a a.damage

/-- The replay window stays, or is emptied. -/
def Slot.sameWindow (a b : Slot) : Prop :=
  (b.highest = a.highest ∧ b.accepted = a.accepted) ∨ (b.highest = 0 ∧ b.accepted = [])

theorem slotRule_sameWindow : SlotRule Slot.sameWindow where
  refl _ := .inl ⟨rfl, rfl⟩
  trans a b c hab hbc := by
    rcases hbc with ⟨hh, ha⟩ | hbc
    · rcases hab with ⟨hh', ha'⟩ | ⟨hh', ha'⟩
      · exact .inl ⟨hh.trans hh', ha.trans ha'⟩
      · exact .inr ⟨hh.trans hh', ha.trans ha'⟩
    · exact .inr hbc
  close a := by
    unfold Slot.close
    split
    · exact .inr ⟨rfl, rfl⟩
    · exact .inl ⟨rfl, rfl⟩
  switch _ _ := .inl ⟨rfl, rfl⟩
  damage _ _ := .inl ⟨rfl, rfl⟩

theorem Slot.windowOk_of_sameWindow {a b : Slot} {window : Nat} (h : a.sameWindow b) (ha : a.windowOk window) :
    b.windowOk window := by
  unfold Slot.windowOk at *
  rcases h with ⟨hh, hacc⟩ | ⟨hh, hacc⟩
  · rw [hh, hacc]
    exact ha
  · rw [hh, hacc]
    exact Slot.windowOk_erased window

/-- The slot stays as it is, changes its role with key, number and frames in flight kept, or is erased with none in flight. -/
inductive Slot.Carries (a b : Slot) : Prop where
  | same (h : b = a)
  | changed (key : b.key = a.key) (salt : b.salt = a.salt) (checkCode : b.checkCode = a.checkCode)
      (inFlight : b.inFlight = a.inFlight) (present : a ≠ Slot.erased)
      (number : b.nextSequence = a.nextSequence ∨ (a.role = .next ∧ b.nextSequence = 1))
      (next : b.role = .next → a.role = .next)
  | erased (idle : a.inFlight = 0) (h : b = Slot.erased)

theorem Slot.Carries.inFlight_eq {a b : Slot} (h : a.Carries b) : b.inFlight = a.inFlight := by
  cases h with
  | same h => rw [h]
  | changed _ _ _ inFlight => exact inFlight
  | erased idle h => rw [h, idle]; rfl

/-- A slot that changes its role keeps all that `Slot.Carries` asks for. -/
theorem Slot.carries_role {a : Slot} {role : Role} (h : a ≠ Slot.erased) (hn : role = .next → a.role = .next) :
    a.Carries { a with role := role } :=
  .changed rfl rfl rfl rfl h (.inl rfl) hn

theorem Slot.ne_erased_of_role {a : Slot} (h : a.role ≠ .absent) : a ≠ Slot.erased := fun e => h (by rw [e]; rfl)

theorem Slot.ne_erased_of_held {a : Slot} (h : a.inFlight ≠ 0) : a ≠ Slot.erased := fun e => h (by rw [e]; rfl)

theorem slotRule_carries : SlotRule Slot.Carries where
  refl _ := .same rfl
  trans a b c hab hbc := by
    cases hbc with
    | same h => exact h ▸ hab
    | erased idle h => exact .erased (hab.inFlight_eq ▸ idle) h
    | changed key salt code inFlight present number next =>
      cases hab with
      | same h =>
        subst h
        exact .changed key salt code inFlight present number next
      | erased _ h => exact absurd h present
      | changed key' salt' code' inFlight' present' number' next' =>
        refine .changed (key.trans key') (salt.trans salt') (code.trans code') (inFlight.trans inFlight') present' ?_
          fun h => next' (next h)
        rcases number with h | ⟨h, hc⟩
        · rw [h]
          exact number'
        · exact .inr ⟨next' h, hc⟩
  close a := by
    unfold Slot.close
    split
    next h => exact .erased h rfl
    next h => exact Slot.carries_role (Slot.ne_erased_of_held h) fun h => nomatch h
  switch a h := .changed rfl rfl rfl rfl (Slot.ne_erased_of_role (by simp [h])) (.inr ⟨h, rfl⟩) fun h => nomatch h
  damage a h := Slot.carries_role (Slot.ne_erased_of_role (by simp [h])) fun h => nomatch h

/-! ### Records that follow on from one another -/

/-- A record is what a rollover operation leaves of another: the configuration and the counts of what names and queues at it stay,
it is in its state or moves among STAGED, LIVE and HALTED, and its slots follow the rule. -/
structure Record.Follows (R : Slot → Slot → Prop) (r r' : Record) : Prop where
  config : r'.config = r.config
  companionCount : r'.companionCount = r.companionCount
  flowReferences : r'.flowReferences = r.flowReferences
  queuedFrames : r'.queuedFrames = r.queuedFrames
  state : r'.state = r.state ∨ (r.inUse ∧ r'.inUse)
  slots : ∀ k, R (r.slot k) (r'.slot k)

section Follows

variable {R : Slot → Slot → Prop} (rule : SlotRule R) {r r' r'' : Record} (n : Nat)

include rule

theorem Record.follows_refl (r : Record) : r.Follows R r := ⟨rfl, rfl, rfl, rfl, .inl rfl, fun _ => rule.refl _⟩

theorem Record.Follows.trans (h : r.Follows R r') (h' : r'.Follows R r'') : r.Follows R r'' where
  config := h'.config.trans h.config
  companionCount := h'.companionCount.trans h.companionCount
  flowReferences := h'.flowReferences.trans h.flowReferences
  queuedFrames := h'.queuedFrames.trans h.queuedFrames
  state := by
    rcases h'.state with e' | ⟨u', v'⟩
    · rcases h.state with e | ⟨u, v⟩
      · exact .inl (e'.trans e)
      · exact .inr ⟨u, by unfold Record.inUse at *; rw [e']; exact v⟩
    · rcases h.state with e | ⟨u, v⟩
      · exact .inr ⟨by unfold Record.inUse at *; rw [← e]; exact u', v'⟩
      · exact .inr ⟨u, v'⟩
  slots k := rule.trans _ _ _ (h.slots k) (h'.slots k)

/-- A slot given under the rule. -/
theorem Record.follows_setSlot (r : Record) {k : SlotNo} {sl : Slot} (h : R (r.slot k) sl) :
    r.Follows R (r.setSlot k sl) where
  config := Record.setSlot_config ..
  companionCount := Record.setSlot_companionCount ..
  flowReferences := Record.setSlot_flowReferences ..
  queuedFrames := Record.setSlot_queuedFrames ..
  state := .inl (Record.setSlot_state ..)
  slots j := by
    rw [Record.slot_setSlot]
    split
    next e => exact e ▸ h
    next => exact rule.refl _

/-- A change of fields that are neither configuration, counts, state nor slots. -/
theorem Record.follows_fields (h : r' = { r with
      lifetimeCounter := r'.lifetimeCounter, octetRemainder := r'.octetRemainder, stage := r'.stage
      stageTimer := r'.stageTimer, graceTimer := r'.graceTimer, triggerLatch := r'.triggerLatch
      pendingTrigger := r'.pendingTrigger, evidence := r'.evidence, switchCapture := r'.switchCapture
      switchTick := r'.switchTick, switchCount := r'.switchCount, haltReason := r'.haltReason, causes := r'.causes
      staleMark := r'.staleMark, currentSlot := r'.currentSlot, counters := r'.counters }) : r.Follows R r' := by
  rw [h]
  exact ⟨rfl, rfl, rfl, rfl, .inl rfl, fun _ => rule.refl _⟩

theorem Record.follows_enter (r : Record) (st : Stage) : r.Follows R (r.enter st) := Record.follows_fields rule rfl

theorem Record.follows_raiseKeyNeeded (r : Record) : r.Follows R r.raiseKeyNeeded := Record.follows_fields rule rfl

theorem Record.follows_raiseKeyFault (r : Record) : r.Follows R r.raiseKeyFault := Record.follows_fields rule rfl

theorem Record.follows_halt (h : r.inUse) (why : HaltReason) : r.Follows R (r.halt why) :=
  ⟨rfl, rfl, rfl, rfl, .inr ⟨h, .inr (.inr rfl)⟩, fun _ => rule.refl _⟩

theorem Record.follows_credit (r : Record) : r.Follows R (r.credit n) := by
  unfold Record.credit
  cases r.config.lifetimeSource
  case age => exact Record.follows_refl rule r
  case octets =>
    dsimp only
    split <;> exact Record.follows_fields rule rfl

theorem Record.follows_staleCheck (r : Record) : r.Follows R r.staleCheck := by
  unfold Record.staleCheck
  split
  · exact Record.follows_fields rule rfl
  · exact Record.follows_refl rule r

theorem Record.follows_switchTo (h : r.otherPosition.role = .next) : r.Follows R (r.switchTo n) := by
  have moved := (Record.follows_setSlot rule r (rule.switch _ h)).trans rule
    (Record.follows_setSlot rule _ (k := r.currentSlot) (sl := r.currentPosition.close)
      (by rw [Record.slot_setSlot_of_not]; exact rule.close _))
  refine moved.trans rule ⟨rfl, rfl, rfl, rfl, ?_, fun _ => rule.refl _⟩
  by_cases hs : r.state = .halted
  · refine .inr ⟨.inr (.inr ?_), .inr (.inl ?_)⟩
    · simp [hs]
    · simp [Record.switchTo, hs]
  · left
    simp [Record.switchTo, hs]

theorem Record.follows_nextFault (h : r.otherPosition.role = .next) : r.Follows R r.nextFault :=
  (Record.follows_setSlot rule r (rule.damage _ h)).trans rule (Record.follows_raiseKeyFault rule _)

theorem Record.follows_egressSwitch (r : Record) : r.Follows R (r.egressSwitch n) := by
  unfold Record.egressSwitch
  split
  next h =>
    have next := r.usableNext_iff.mp h
    split
    · exact Record.follows_switchTo rule n next
    · exact Record.follows_nextFault rule next
  next => exact Record.follows_refl rule r

theorem Record.follows_leadExpiry (r : Record) : r.Follows R (r.leadExpiry n) := by
  unfold Record.leadExpiry
  split
  · exact Record.follows_egressSwitch rule n r
  · exact Record.follows_enter rule r _

theorem Record.follows_enterLead (r : Record) : r.Follows R (r.enterLead n) := by
  unfold Record.enterLead
  split
  · exact (Record.follows_enter rule r _).trans rule (Record.follows_leadExpiry rule n _)
  · exact Record.follows_enter rule r _

theorem Record.follows_trigger (r : Record) : r.Follows R (r.trigger n) := by
  unfold Record.trigger
  cases r.stage
  case steady =>
    have latched : r.Follows R { r with triggerLatch := true, graceTimer := 0 } := Record.follows_fields rule rfl
    dsimp only
    split
    · exact latched.trans rule (Record.follows_enterLead rule n _)
    · exact (latched.trans rule (Record.follows_enter rule _ _)).trans rule (Record.follows_raiseKeyNeeded rule _)
  case drainOld => exact Record.follows_fields rule rfl
  all_goals exact Record.follows_refl rule r

theorem Record.follows_endDrain (r : Record) : r.Follows R (r.endDrain n) := by
  unfold Record.endDrain
  have steady := Record.follows_enter rule r .steady
  dsimp only
  split
  · have fired : (r.enter .steady).Follows R { r.enter .steady with pendingTrigger := false } :=
      Record.follows_fields rule rfl
    exact (steady.trans rule fired).trans rule (Record.follows_trigger rule n _)
  · exact steady

theorem Record.follows_endOverlap (r : Record) (k : SlotNo) : r.Follows R (r.endOverlap k) :=
  (Record.follows_setSlot rule r (rule.close _)).trans rule (Record.follows_enter rule _ _)

theorem Record.follows_lifetimeCheck (r : Record) : r.Follows R (r.lifetimeCheck n) := by
  unfold Record.lifetimeCheck
  cases r.config.kind
  case egress =>
    dsimp only
    split
    · exact Record.follows_trigger rule n r
    · exact Record.follows_refl rule r
  case ingress => exact Record.follows_staleCheck rule r

theorem Record.follows_advance (r : Record) : r.Follows R r.advance := Record.follows_fields rule rfl

theorem Record.follows_leadStep (r : Record) : r.Follows R (r.leadStep n) := by
  unfold Record.leadStep
  split
  · exact Record.follows_leadExpiry rule n r
  · exact Record.follows_refl rule r

theorem Record.follows_graceStep (h : r.inUse) : r.Follows R r.graceStep := by
  unfold Record.graceStep
  split
  · exact Record.follows_halt rule h _
  · exact Record.follows_refl rule r

theorem Record.follows_overlapStep (r : Record) : r.Follows R r.overlapStep := by
  unfold Record.overlapStep
  split
  · exact Record.follows_endOverlap rule r _
  · exact Record.follows_refl rule r

omit rule in
theorem Record.Follows.inUse (h : r.Follows R r') (hu : r.inUse) : r'.inUse := by
  rcases h.state with e | ⟨-, u⟩
  · unfold Record.inUse at *
    rw [e]
    exact hu
  · exact u

/-- A tick taken at a record (R46). -/
theorem Record.follows_tick (r : Record) : r.Follows R (r.tick n) := by
  unfold Record.tick
  split
  next live =>
    have led := ((Record.follows_advance rule r).trans rule (Record.follows_lifetimeCheck rule n _)).trans rule
      (Record.follows_leadStep rule n _)
    exact (led.trans rule (Record.follows_graceStep rule (led.inUse (.inr (.inl live))))).trans rule
      (Record.follows_overlapStep rule _)
  next => exact Record.follows_refl rule r

theorem Record.follows_thresholds (r : Record) (s : Nat) : r.Follows R (r.thresholds s n) := by
  unfold Record.thresholds
  split
  · exact Record.follows_trigger rule n r
  · exact Record.follows_refl rule r

theorem Record.follows_exhaust (h : r.inUse) : r.Follows R (r.exhaust n) := by
  unfold Record.exhaust
  split
  next hn =>
    have next := r.usableNext_iff.mp hn
    split
    · exact Record.follows_switchTo rule n next
    · have faulted := Record.follows_nextFault rule next
      exact faulted.trans rule (Record.follows_halt rule (faulted.inUse h) _)
  next => exact Record.follows_halt rule h _

theorem Record.follows_exhaustion (h : r.inUse) (k : SlotNo) (s : Nat) : r.Follows R (r.exhaustion k s n) := by
  unfold Record.exhaustion
  split
  · exact Record.follows_exhaust rule n h
  · exact Record.follows_refl rule r

theorem Record.follows_evidenceArrives (r : Record) (sender : Nat) : r.Follows R (r.evidenceArrives sender n) := by
  have flagged : r.Follows R { r with evidence := true } := Record.follows_fields rule rfl
  unfold Record.evidenceArrives
  split
  · dsimp only
    split
    · exact flagged.trans rule (Record.follows_egressSwitch rule n _)
    · exact flagged
  · exact Record.follows_refl rule r

/-- The ingress switch, where the rule allows the CURRENT slot to become OLD and the NEXT one CURRENT. -/
theorem Record.follows_ingressSwitch (capture : Nat)
    (hold : r.currentPosition.role ≠ .damaged → R r.currentPosition { r.currentPosition with role := .old })
    (hnew : R r.otherPosition { r.otherPosition with role := .current }) : r.Follows R (r.ingressSwitch capture n) := by
  have hdisplaced : R r.currentPosition (if (r.currentPosition.role != .damaged && r.config.overlap != 0) = true then
      { r.currentPosition with role := .old } else r.currentPosition.close) := by
    split
    next h =>
      simp only [Bool.and_eq_true, bne_iff_ne] at h
      obtain ⟨sound, -⟩ := h
      exact hold sound
    next => exact rule.close _
  have moved := (Record.follows_setSlot rule r hnew).trans rule
    (Record.follows_setSlot rule _ (k := r.currentSlot) (by rw [Record.slot_setSlot_of_not]; exact hdisplaced))
  refine moved.trans rule ⟨rfl, rfl, rfl, rfl, ?_, fun _ => rule.refl _⟩
  by_cases hs : r.state = .halted
  · refine .inr ⟨.inr (.inr ?_), .inr (.inl ?_)⟩
    · simp [hs]
    · simp [Record.ingressSwitch, hs]
  · left
    simp [Record.ingressSwitch, hs]

end Follows

end Sys2Proof.Machine
end

section
/-!
PROOFS. Modify Association (section 1.6): the checks of R11 as conditions on the words of the command, the record that an accepted
Modify makes of each kind, the one trigger it can fire, and the move of the companion's count.
-/

namespace Sys2Proof.Machine

/-! ### What an answered command leaves -/

section Answered

variable {s u t : State} {c : Command} {r : Reply}

theorem State.answered_manager (h : s.answered u c r t) : t.manager = u.manager := by
  unfold State.answered State.sameButMessages at h
  rw [h]

theorem State.answered_record (h : s.answered u c r t) (i : Nat) : t.record i = u.record i :=
  State.record_congr (State.answered_manager h) i

/-- Besides the Association Manager and the Command Port, an answered command leaves what its owner's effect does. -/
theorem State.answered_rest (h : s.answered u c r t) :
    t.flowMap = u.flowMap ∧ t.lanes = u.lanes ∧ t.timebase = u.timebase ∧ t.transit = u.transit := by
  unfold State.answered State.sameButMessages at h
  rw [h]
  exact ⟨rfl, rfl, rfl, rfl⟩

theorem State.answered_responses (h : s.answered u c r t) :
    t.port.responses = s.port.responses ++ responseWords (headerTag c.header) r := by
  unfold State.answered State.sameButMessages at h
  rw [h]

end Answered

/-! ### The checks of R11 -/

section Checks

variable {s : State} {c : Command}

theorem Command.namedCompanion_eq_some_iff {i : Nat} : c.namedCompanion = some i ↔
    (flag (c.word 0) 18 && flag (c.word 1) 7) = true ∧ bits (c.word 2) 15 0 = i := by
  unfold Command.namedCompanion Command.modifyCompanion Command.selects
  cases flag (c.word 0) 18 <;> cases flag (c.word 1) 7 <;> simp

/-- Check 4 of R11 by the words of the command and the kind of the record. -/
theorem Command.modifyBadValue_iff {kind : Kind} : c.modifyBadValue kind = true ↔
    (flag (c.word 0) 16 = true ∧ bits (c.word 1) 3 0 = 0) ∨ (flag (c.word 0) 18 = true ∧ kind = .ingress)
      ∨ ((flag (c.word 0) 18 && flag (c.word 1) 7) = true ∧ 8192 ≤ bits (c.word 2) 15 0)
      ∨ (flag (c.word 0) 26 = true ∧ kind = .egress ∧ c.softThreshold = 0) := by
  simp only [Command.modifyBadValue, Command.selects, Bool.or_eq_true, Bool.and_eq_true, beq_iff_eq, companionOutOfRange_iff,
    Command.namedCompanion_eq_some_iff, or_assoc]
  simp only [and_assoc, ↓existsAndEq, true_and]

/-- The checks of R11, in their order, by the words of the command and the record it names. -/
theorem State.modifyRefusal_eq (s : State) (c : Command) : s.modifyRefusal c =
    if 8192 ≤ bits (c.word 0) 15 0 then some .badIndex
    else if (s.record (bits (c.word 0) 15 0)).state = .free then some .notPresent
    else if (s.record (bits (c.word 0) 15 0)).state = .retiring then some .retiring
    else if (flag (c.word 0) 16 = true ∧ bits (c.word 1) 3 0 = 0)
        ∨ (flag (c.word 0) 18 = true ∧ (s.record (bits (c.word 0) 15 0)).config.kind = .ingress)
        ∨ ((flag (c.word 0) 18 && flag (c.word 1) 7) = true ∧ 8192 ≤ bits (c.word 2) 15 0)
        ∨ (flag (c.word 0) 26 = true ∧ (s.record (bits (c.word 0) 15 0)).config.kind = .egress ∧ c.softThreshold = 0) then
      some .badValue
    else if (flag (c.word 0) 18 && flag (c.word 1) 7) = true ∧ (s.record (bits (c.word 2) 15 0)).state ≠ .free ∧
        (s.record (bits (c.word 2) 15 0)).config.kind = .egress then some .wrongKind
    else if (flag (c.word 0) 18 && flag (c.word 1) 7) = true ∧ ((s.record (bits (c.word 2) 15 0)).state = .free ∨
        (s.record (bits (c.word 2) 15 0)).state = .retiring) then some .notPresent
    else none := by
  unfold State.modifyRefusal
  simp only [Command.modifyBadValue_iff, State.companionWrongKind_iff, State.companionNotPresent_iff,
    Command.namedCompanion_eq_some_iff, and_assoc, ↓existsAndEq, true_and]
  rfl

/-- A Modify that is not refused names a record in use, for which it carries no bad value. -/
theorem State.modifyRefusal_eq_none (h : s.modifyRefusal c = none) : c.index < 8192 ∧ (s.record c.index).inUse ∧
    c.modifyBadValue (s.record c.index).config.kind = false := by
  unfold State.modifyRefusal at h
  dsimp only at h
  split_ifs at h with hi hf hr hb
  refine ⟨Nat.lt_of_not_le hi, ?_, by simpa using hb⟩
  unfold Record.inUse
  cases hs : (s.record c.index).state <;> simp [hs] at hf hr ⊢

/-- A Modify that fails a check of R11 changes nothing. -/
theorem State.modify_refused {st : Status} (h : s.offers c .modifyAssociation) (hst : s.modifyRefusal c = some st) :
    ∃ t, exec .modifyAssociation s = .next t ∧ s.answered s c { status := st } t :=
  State.serve_refuses h fun n => by
    have hst' : (s.freed n).modifyRefusal c = some st := hst
    simp only [modifyOwner, hst']

/-- The state with the companion link of a Modify moved: the previous companion loses 1 and the new one gains 1 (R14). -/
def State.relink (s : State) (c : Command) : State :=
  if c.selects 18 then (s.loseCompanion (s.record c.index).config.companion).gainCompanion c.modifyCompanion else s

theorem State.modify_eq (s : State) (c : Command) : s.modify c =
    (s.relink c).setRecord c.index (((s.record c.index).reconfigure c).modifyFires c s.timebase.tickCount) := rfl

theorem State.relink_freed (s : State) (n : Nat) (c : Command) : (s.freed n).relink c = (s.relink c).freed n := by
  unfold State.relink
  split
  · rw [State.record_freed, State.loseCompanion_freed, State.gainCompanion_freed]
  · rfl

@[simp] theorem State.relink_port (s : State) (c : Command) : (s.relink c).port = s.port := by
  unfold State.relink
  split
  · rw [State.gainCompanion_port, State.loseCompanion_port]
  · rfl

/-- A Modify that passes every check of R11 is one event, with CLAMPED or OK. -/
theorem State.modify_accepted (h : s.offers c .modifyAssociation) (hst : s.modifyRefusal c = none) :
    ∃ t, exec .modifyAssociation s = .next t ∧ s.answered (s.modify c) c
      { status := if c.modifyClamped (s.record c.index).config.kind then .clamped else .ok } t := by
  have hport : (s.modify c).port = s.port := State.relink_port s c
  refine State.serve_answers h (by rw [hport]) (by rw [hport]) fun n => ?_
  have hst' : (s.freed n).modifyRefusal c = none := hst
  have hmodify : (s.freed n).modify c = (s.modify c).freed n := by
    rw [State.modify_eq, State.modify_eq, State.relink_freed]
    rfl
  simp only [modifyOwner, hst', hmodify, status]
  rfl

/-- A Modify that selects no companion touches one record. -/
theorem State.modify_eq_of_not_selects (h18 : flag (c.word 0) 18 = false) : s.modify c =
    s.setRecord c.index (((s.record c.index).reconfigure c).modifyFires c s.timebase.tickCount) := by
  rw [State.modify_eq, State.relink, Command.selects, h18]
  rfl

end Checks

/-! ### The record of an accepted Modify -/

section Stored

variable {r : Record} {c : Command} {n : Nat}

theorem Record.trigger_config (r : Record) (n : Nat) : (r.trigger n).config = r.config :=
  (Record.follows_trigger slotRule_carries n r).config

theorem Record.trigger_live (h : r.state = .live) : (r.trigger n).state = .live := by
  rw [Record.trigger_eq_rule h]
  unfold Record.ruleTrigger Record.ruleLead Record.ruleCall
  cases r.stage
  case steady =>
    dsimp only
    repeat' split
    all_goals simp [Record.ruleSwitch, h]
  all_goals exact h

/-- A switch begins a key: its CURRENT slot has given no number (R63). -/
theorem Record.switchTo_nextSequence (r : Record) (n : Nat) : (r.switchTo n).currentPosition.nextSequence = 1 := by
  have back : (r.switchTo n).currentPosition =
      ((r.setSlot (!r.currentSlot) { r.otherPosition with role := .current, nextSequence := 1 }).setSlot r.currentSlot
        r.currentPosition.close).slot (!r.currentSlot) := rfl
  rw [back, Record.slot_setSlot_not, Record.slot_setSlot_self]

/-- A trigger in STEADY sets the latch, unless its lead of 0 has made the switch, which begins a key (R55, R59, R63). -/
theorem Record.trigger_steady (hs : r.stage = .steady) :
    (r.trigger n).triggerLatch = true ∨ (r.trigger n).currentPosition.nextSequence = 1 := by
  unfold Record.trigger Record.enterLead Record.leadExpiry Record.egressSwitch
  simp only [hs]
  repeat' split
  all_goals first
    | exact .inr (Record.switchTo_nextSequence _ _)
    | exact .inl (by simp [Record.enter, Record.raiseKeyNeeded, Record.nextFault, Record.raiseKeyFault])

/-- A trigger taken is not taken a second time by a threshold of at least 1: the latch is set, or a key begins, or the trigger
is pending already. -/
theorem Record.trigger_once (hT : 1 ≤ r.config.softThreshold) (hp : (r.trigger n).thresholdPassed = true) :
    (r.trigger n).trigger n = r.trigger n := by
  simp only [Record.thresholdPassed, Bool.and_eq_true, Bool.not_eq_true', decide_eq_true_eq, Record.trigger_config] at hp
  obtain ⟨unlatched, passed⟩ := hp
  cases hs : r.stage with
  | steady =>
    rcases Record.trigger_steady (n := n) hs with latched | begun
    · exact absurd (latched.symm.trans unlatched) (by decide)
    · rw [begun] at passed
      omega
  | drainOld =>
    have pending : r.trigger n = { r with pendingTrigger := true } := by simp only [Record.trigger, hs]
    rw [pending]
    simp only [Record.trigger, hs]
  | awaitKey | lead | awaitEvidence | armed | overlap =>
    have stays : r.trigger n = r := by simp only [Record.trigger, hs]
    rw [stays, stays]

theorem Command.modifyConfig_egress {g : RecordConfig} (hk : g.kind = .egress) : c.modifyConfig g = { g with
    laneMask := if flag (c.word 0) 16 then BitVec.ofNat 4 (bits (c.word 1) 3 0) else g.laneMask
    confidential := if flag (c.word 0) 17 then flag (c.word 1) 4 else g.confidential
    companion := if flag (c.word 0) 18 then c.modifyCompanion else g.companion
    switchMode := if flag (c.word 0) 20 then SwitchMode.ofBit (flag (c.word 1) 5) else g.switchMode
    lead := if flag (c.word 0) 21 then c.interval 3 else g.lead
    grace := if flag (c.word 0) 22 then c.interval 4 else g.grace
    lifetimeSource := if flag (c.word 0) 24 then LifetimeSource.ofBit (flag (c.word 1) 6) else g.lifetimeSource
    lifetimeValue := if flag (c.word 0) 25 then (c.word 6).toNat else g.lifetimeValue
    softThreshold := if flag (c.word 0) 26 then c.softThreshold else g.softThreshold } := by
  simp only [Command.modifyConfig, hk, Command.selects]
  rfl

theorem Command.modifyConfig_ingress {g : RecordConfig} (hk : g.kind = .ingress) : c.modifyConfig g = { g with
    laneMask := if flag (c.word 0) 16 then BitVec.ofNat 4 (bits (c.word 1) 3 0) else g.laneMask
    confidential := if flag (c.word 0) 17 then flag (c.word 1) 4 else g.confidential
    window := if flag (c.word 0) 19 then c.windowSize else g.window
    overlap := if flag (c.word 0) 23 then c.interval 5 else g.overlap
    lifetimeSource := if flag (c.word 0) 24 then LifetimeSource.ofBit (flag (c.word 1) 6) else g.lifetimeSource
    lifetimeValue := if flag (c.word 0) 25 then (c.word 6).toNat else g.lifetimeValue } := by
  simp only [Command.modifyConfig, hk, Command.selects]
  rfl

theorem Command.modifyConfig_kind (g : RecordConfig) : (c.modifyConfig g).kind = g.kind := by
  cases hk : g.kind <;> simp only [Command.modifyConfig, hk]

/-- An EGRESS record with its new configuration stored: no window is trimmed. -/
theorem Record.reconfigure_egress (hk : r.config.kind = .egress) : r.reconfigure c = { r with
    config := c.modifyConfig r.config
    lifetimeCounter := if (c.modifyConfig r.config).lifetimeSource = r.config.lifetimeSource then r.lifetimeCounter else 0
    octetRemainder := if (c.modifyConfig r.config).lifetimeSource = r.config.lifetimeSource then r.octetRemainder else 0
    evidence := if flag (c.word 0) 18 then false else r.evidence } := by
  have window : (c.modifyConfig r.config).window = r.config.window := by simp only [Command.modifyConfig, hk]
  by_cases same : (c.modifyConfig r.config).lifetimeSource = r.config.lifetimeSource
  · simp only [Record.reconfigure, window, same, Command.selects, lt_irrefl, decide_false, bne_self_eq_false,
      Bool.false_eq_true, if_false, if_true]
    rfl
  · simp only [Record.reconfigure, window, bne_iff_ne.mpr same, same, Command.selects, lt_irrefl, decide_false,
      Bool.false_eq_true, if_false, if_true]
    rfl

theorem Record.lifetimeCheck_egress (hk : r.config.kind = .egress) :
    r.lifetimeCheck n = if r.lifetimeReached = true ∧ r.triggerLatch = false then r.trigger n else r := by
  simp only [Record.lifetimeCheck, hk, Bool.and_eq_true, Bool.not_eq_true']

theorem Record.thresholdPassed_iff : r.thresholdPassed = true ↔
    r.triggerLatch = false ∧ r.config.softThreshold ≤ r.currentPosition.nextSequence - 1 := by
  simp only [Record.thresholdPassed, Bool.and_eq_true, Bool.not_eq_true', decide_eq_true_eq]

/-- The record of a Modify once its new lifetime value has been compared (R13). -/
def Record.agedBy (r : Record) (c : Command) (n : Nat) : Record :=
  if flag (c.word 0) 25 = true then r.lifetimeCheck n else r

theorem Record.modifyFires_of_live (live : r.state = .live) : r.modifyFires c n =
    if (flag (c.word 0) 26 && (r.agedBy c n).config.kind == .egress && (r.agedBy c n).thresholdPassed) = true then
      (r.agedBy c n).trigger n else r.agedBy c n :=
  if_pos live

/-- The condition under which the new values of a Modify fire one trigger at an EGRESS record (R13). -/
def Record.firesBy (r : Record) (c : Command) : Prop :=
  r.state = .live ∧ r.triggerLatch = false ∧ ((flag (c.word 0) 25 = true ∧ r.lifetimeReached = true) ∨
    (flag (c.word 0) 26 = true ∧ r.config.softThreshold ≤ r.currentPosition.nextSequence - 1))

/-- What the new values of a Modify bring about at a LIVE EGRESS record: one trigger, where a selected lifetime value or a
selected T of at least 1 is met and the latch is clear (R13). -/
theorem Record.modifyFires_egress (hk : r.config.kind = .egress)
    (hT : flag (c.word 0) 26 = true → 1 ≤ r.config.softThreshold) :
    (r.firesBy c → r.modifyFires c n = r.trigger n) ∧ (¬ r.firesBy c → r.modifyFires c n = r) := by
  by_cases live : r.state = .live
  swap
  · exact ⟨fun h => absurd h.1 live, fun _ => if_neg live⟩
  rw [Record.modifyFires_of_live live]
  by_cases aged : flag (c.word 0) 25 = true ∧ r.lifetimeReached = true ∧ r.triggerLatch = false
  · obtain ⟨picked, reached, clear⟩ := aged
    have fired : r.agedBy c n = r.trigger n := by
      rw [Record.agedBy, if_pos picked, Record.lifetimeCheck_egress hk, if_pos ⟨reached, clear⟩]
    refine ⟨fun _ => ?_, fun h => absurd ⟨live, clear, .inl ⟨picked, reached⟩⟩ h⟩
    rw [fired]
    split
    next again =>
      simp only [Bool.and_eq_true] at again
      obtain ⟨⟨selected, -⟩, past⟩ := again
      exact Record.trigger_once (hT selected) past
    next => rfl
  · have kept : r.agedBy c n = r := by
      rw [Record.agedBy]
      split
      next picked => rw [Record.lifetimeCheck_egress hk, if_neg fun h => aged ⟨picked, h⟩]
      next => rfl
    rw [kept]
    refine ⟨fun fires => if_pos ?_, fun calm => if_neg fun h => calm ?_⟩
    · obtain ⟨-, clear, ⟨picked, reached⟩ | ⟨selected, past⟩⟩ := fires
      · exact absurd ⟨picked, reached, clear⟩ aged
      · simp only [selected, hk, beq_self_eq_true, Bool.and_self, Bool.true_and]
        exact Record.thresholdPassed_iff.mpr ⟨clear, past⟩
    · simp only [Bool.and_eq_true] at h
      obtain ⟨⟨selected, -⟩, passed⟩ := h
      obtain ⟨clear, past⟩ := Record.thresholdPassed_iff.mp passed
      exact ⟨live, clear, .inr ⟨selected, past⟩⟩

/-- A Modify leaves a record in its state (R11). -/
theorem Record.modifyFires_state : (r.modifyFires c n).state = r.state := by
  by_cases live : r.state = .live
  · have aged : (r.agedBy c n).state = .live := by
      unfold Record.agedBy Record.lifetimeCheck Record.staleCheck
      cases r.config.kind <;> dsimp only <;> repeat' split
      all_goals first | exact live | exact Record.trigger_live live
    rw [Record.modifyFires_of_live live, live]
    split
    · exact Record.trigger_live aged
    · exact aged
  · rw [Record.modifyFires, if_neg live]

end Stored

/-- Settles O17: the checks by `State.modifyRefusal_eq`, the stored fields by `Record.reconfigure_egress`, and the one trigger
by `Record.modifyFires_egress`. -/
theorem modifyStoresEgressFields : Obligations.ModifyStoresEgressFields := by
  intro s c h i r g picks named new threshold source clamped refusal stored fires
  have refused : refusal = s.modifyRefusal c := (State.modifyRefusal_eq s c).symm
  refine ⟨fun st hst => State.modify_refused h (refused ▸ hst), fun passes kind => ?_⟩
  have stored_eq : r.reconfigure c = stored := by
    rw [Record.reconfigure_egress kind, Command.modifyConfig_egress kind]
    rfl
  rw [refused] at passes
  obtain ⟨t, ht, answered⟩ := State.modify_accepted h passes
  have clamped_eq : clamped = c.modifyClamped (s.record c.index).config.kind := by
    have kind' : (s.record c.index).config.kind = .egress := kind
    rw [kind']
    rfl
  rw [← clamped_eq] at answered
  obtain ⟨-, inUse, goodValue⟩ := State.modifyRefusal_eq_none passes
  have T_pos : flag (c.word 0) 26 = true → 1 ≤ stored.config.softThreshold := by
    intro selected
    have hT : stored.config.softThreshold = c.softThreshold := if_pos selected
    have good : c.softThreshold ≠ 0 := fun e => by
      have bad : c.modifyBadValue (s.record c.index).config.kind = true :=
        Command.modifyBadValue_iff.mpr (.inr (.inr (.inr ⟨selected, kind, e⟩)))
      exact absurd (bad.symm.trans goodValue) (by decide)
    omega
  have fires_iff : stored.firesBy c ↔ fires := by
    have reached : flag (c.word 0) 25 = true → (stored.lifetimeReached = true ↔
        (c.word 6).toNat ≠ 0 ∧ (c.word 6).toNat ≤ stored.lifetimeCounter) := by
      intro picked
      have value : stored.config.lifetimeValue = (c.word 6).toNat := if_pos picked
      simp only [Record.lifetimeReached, value, Bool.and_eq_true, bne_iff_ne, decide_eq_true_eq]
    have past : flag (c.word 0) 26 = true → stored.config.softThreshold = threshold := fun selected => if_pos selected
    refine and_congr_right fun _ => and_congr_right fun _ => or_congr ?_ ?_
    · exact and_congr_right reached
    · exact and_congr_right fun selected => by rw [past selected]; rfl
  have not_free : (stored.modifyFires c s.timebase.tickCount).state ≠ .free := by
    have held : stored.state = (s.record c.index).state := rfl
    rw [Record.modifyFires_state, held]
    rcases inUse with e | e | e <;> simp [e]
  have record_eq : t.record i = stored.modifyFires c s.timebase.tickCount := by
    rw [State.answered_record answered, State.modify_eq, ← stored_eq]
    exact State.record_setRecord_self _ _ (stored_eq ▸ not_free)
  obtain ⟨fired, calm⟩ := Record.modifyFires_egress (n := s.timebase.tickCount) (r := stored) kind T_pos
  refine ⟨t, ht, fun hf => ?_, fun hf => ?_, fun h18 => ?_, State.answered_responses answered⟩
  · rw [record_eq, fired (fires_iff.mpr hf), Record.trigger_eq_rule]
    exact hf.1
  · rw [record_eq, calm (mt fires_iff.mp hf)]
  · have whole := State.modify_eq_of_not_selects (s := s) h18
    rw [record_eq, ← stored_eq]
    rw [whole] at answered
    exact answered

/-! ### The companion's count -/

section Companion

variable {s : State} {o : Option Nat}

/-- The records after a companion's count is lowered: a named record that is not FREE loses 1 (R18). -/
theorem State.record_loseCompanion (h : ∀ j, o = some j → (s.record j).state ≠ .free) (j : Nat) :
    (s.loseCompanion o).record j =
      { s.record j with companionCount := (s.record j).companionCount - if o = some j then 1 else 0 } := by
  cases o with
  | none => rfl
  | some k =>
    rw [State.loseCompanion, State.record_setRecord, if_neg (h k rfl)]
    split
    next e =>
      subst e
      simp
    next e => simp [e]

/-- The records after a companion's count is raised: a named record that is not FREE gains 1 (R18). -/
theorem State.record_gainCompanion (h : ∀ j, o = some j → (s.record j).state ≠ .free) (j : Nat) :
    (s.gainCompanion o).record j =
      { s.record j with companionCount := (s.record j).companionCount + if o = some j then 1 else 0 } := by
  cases o with
  | none => rfl
  | some k =>
    rw [State.gainCompanion, State.record_setRecord, if_neg (h k rfl)]
    split
    next e =>
      subst e
      simp
    next e => simp [e]

theorem Record.inUse_ne_free {r : Record} (h : r.inUse) : r.state ≠ .free := by
  rcases h with e | e | e <;> simp [e]

theorem State.loseCompanion_rest (s : State) (o : Option Nat) : s.loseCompanion o =
    { s with manager := { s.manager with records := (s.loseCompanion o).manager.records } } := by
  cases o <;> rfl

theorem State.gainCompanion_rest (s : State) (o : Option Nat) : s.gainCompanion o =
    { s with manager := { s.manager with records := (s.gainCompanion o).manager.records } } := by
  cases o <;> rfl

/-- A Modify changes nothing outside the Association Table. -/
theorem State.modify_rest (s : State) (c : Command) : s.modify c =
    { s with manager := { s.manager with records := (s.modify c).manager.records } } := by
  rw [State.modify_eq, State.relink]
  split
  · rw [State.gainCompanion_rest, State.loseCompanion_rest]
    rfl
  · rfl

/-- A bit of a word within a field is that bit of the field. -/
theorem flag_eq_testBit_bits (w : Word) {lo hi j : Nat} (h : lo + j ≤ hi) : flag w (lo + j) = (bits w hi lo).testBit j := by
  have inside : j < hi + 1 - lo := by omega
  rw [bits, Nat.testBit_mod_two_pow, Nat.testBit_div_two_pow, flag, BitVec.getLsbD, Nat.add_comm]
  simp [inside]

theorem Record.trigger_evidence {r : Record} {n : Nat} (h : r.evidence = false) : (r.trigger n).evidence = false := by
  unfold Record.trigger Record.enterLead Record.leadExpiry Record.egressSwitch
  cases r.stage
  case steady =>
    dsimp only
    repeat' split
    all_goals simp [Record.switchTo, Record.nextFault, Record.enter, Record.raiseKeyFault, Record.raiseKeyNeeded, h]
  all_goals exact h

theorem Record.modifyFires_evidence {r : Record} {c : Command} {n : Nat} (h : r.evidence = false) :
    (r.modifyFires c n).evidence = false := by
  by_cases live : r.state = .live
  · have aged : (r.agedBy c n).evidence = false := by
      unfold Record.agedBy Record.lifetimeCheck Record.staleCheck
      cases r.config.kind <;> dsimp only <;> repeat' split
      all_goals first | exact h | exact Record.trigger_evidence h
    rw [Record.modifyFires_of_live live]
    split
    · exact Record.trigger_evidence aged
    · exact aged
  · rw [Record.modifyFires, if_neg live]
    exact h

theorem Record.modifyFires_config (r : Record) (c : Command) (n : Nat) : (r.modifyFires c n).config = r.config := by
  by_cases live : r.state = .live
  · have aged : (r.agedBy c n).config = r.config := by
      unfold Record.agedBy
      split
      · exact (Record.follows_lifetimeCheck slotRule_carries n r).config
      · rfl
    rw [Record.modifyFires_of_live live]
    split
    · rw [Record.trigger_config, aged]
    · exact aged
  · rw [Record.modifyFires, if_neg live]

end Companion

theorem Command.modifyCompanion_eq (c : Command) :
    c.modifyCompanion = if flag (c.word 1) 7 then some (bits (c.word 2) 15 0) else none := rfl

/-- A Modify that selects nothing but the companion (R14). -/
theorem Record.reconfigure_companion {r : Record} {c : Command} (hk : r.config.kind = .egress)
    (h : bits (c.word 0) 26 16 = 4) : r.reconfigure c =
      { r with config := { r.config with companion := c.modifyCompanion }, evidence := false } := by
  have picks (j : Nat) (hj : j ≤ 10) : flag (c.word 0) (16 + j) = Nat.testBit 4 j := by
    rw [flag_eq_testBit_bits _ (hi := 26) (by omega), h]
  have h16 : flag (c.word 0) 16 = false := picks 0 (by omega)
  have h17 : flag (c.word 0) 17 = false := picks 1 (by omega)
  have h18 : flag (c.word 0) 18 = true := picks 2 (by omega)
  have h20 : flag (c.word 0) 20 = false := picks 4 (by omega)
  have h21 : flag (c.word 0) 21 = false := picks 5 (by omega)
  have h22 : flag (c.word 0) 22 = false := picks 6 (by omega)
  have h24 : flag (c.word 0) 24 = false := picks 8 (by omega)
  have h25 : flag (c.word 0) 25 = false := picks 9 (by omega)
  have h26 : flag (c.word 0) 26 = false := picks 10 (by omega)
  rw [Record.reconfigure_egress hk, Command.modifyConfig_egress hk]
  simp [h16, h17, h18, h20, h21, h22, h24, h25, h26]

theorem Record.modifyFires_of_not_selects {r : Record} {c : Command} {n : Nat} (h25 : flag (c.word 0) 25 = false)
    (h26 : flag (c.word 0) 26 = false) : r.modifyFires c n = r := by
  by_cases live : r.state = .live
  · rw [Record.modifyFires_of_live live, Record.agedBy, h25, h26]
    simp
  · rw [Record.modifyFires, if_neg live]

/-- Settles O18: the link is moved record by record; the record named itself is neither its previous nor its new companion, which
are INGRESS records. -/
theorem modifyMovesCompanion : Obligations.ModifyMovesCompanion := by
  intro s c h i r new named hi inUse kind h18 hmask hthreshold hnew references
  have passes : s.modifyRefusal c = none := by
    have threshold : ¬ (flag (c.word 0) 26 = true ∧ r.config.kind = .egress ∧ c.softThreshold = 0) := by
      rintro ⟨selected, -, zero⟩
      obtain ⟨h28, h7, h8⟩ := Command.softThreshold_eq_zero_iff.mp zero
      rcases hthreshold selected with h' | h' | h'
      · exact absurd (h28.symm.trans h') (by decide)
      · exact h' h7
      · exact h' h8
    have free : r.state ≠ .free := Record.inUse_ne_free inUse
    have retiring : r.state ≠ .retiring := by rcases inUse with e | e | e <;> simp [e]
    have mask : ¬ (flag (c.word 0) 16 = true ∧ bits (c.word 1) 3 0 = 0) := fun ⟨picked, zero⟩ => hmask picked zero
    have ingress : ¬ (flag (c.word 0) 18 = true ∧ r.config.kind = .ingress) := fun ⟨_, k⟩ => by rw [kind] at k; cases k
    rw [State.modifyRefusal_eq, if_neg (by omega), if_neg free, if_neg retiring]
    by_cases hn : flag (c.word 1) 7 = true
    · obtain ⟨inTable, ingress', inUse'⟩ := hnew hn
      have present : ¬ ((s.record new).state = .free ∨ (s.record new).state = .retiring) := by
        rcases inUse' with e | e | e <;> simp [e]
      rw [if_neg (by rintro (e | e | ⟨-, e⟩ | e) <;> first | exact mask e | exact ingress e | exact threshold e | omega),
        if_neg (by rintro ⟨-, -, e⟩; exact absurd (e.symm.trans ingress') (by decide)), if_neg (fun e => present e.2)]
    · rw [h18]
      simp only [hn, Bool.and_false, Bool.false_eq_true, false_and, if_false, false_or]
      rw [if_neg (by rintro (e | ⟨-, e⟩ | e) <;> first | exact mask e | exact ingress ⟨h18, e⟩ | exact threshold e)]
  obtain ⟨t, ht, answered⟩ := State.modify_accepted h passes
  have recordIs : t.record i = (r.reconfigure c).modifyFires c s.timebase.tickCount := by
    rw [State.answered_record answered, State.modify_eq]
    refine State.record_setRecord_self _ _ ?_
    rw [Record.modifyFires_state]
    exact Record.inUse_ne_free inUse
  have link : (r.reconfigure c).config.companion = c.modifyCompanion ∧ (r.reconfigure c).evidence = false := by
    rw [Record.reconfigure_egress kind, Command.modifyConfig_egress kind]
    simp [h18]
  have companions : ∀ j, j ≠ i → (s.relink c).record j = { s.record j with companionCount :=
      (s.record j).companionCount - (if r.config.companion = some j then 1 else 0)
        + (if flag (c.word 1) 7 = true ∧ j = new then 1 else 0) } := by
    intro j _
    have lowered := State.record_loseCompanion (s := s) (o := r.config.companion)
      fun k hk => Record.inUse_ne_free (references.companion i k hk).2.2.2
    rw [State.relink, Command.selects, if_pos h18, State.record_gainCompanion]
    · have gains : (c.modifyCompanion = some j) ↔ (flag (c.word 1) 7 = true ∧ j = new) := by
        rw [Command.modifyCompanion_eq]
        cases flag (c.word 1) 7 <;> simp [new, eq_comm]
      have lowered_j : (s.loseCompanion (s.record c.index).config.companion).record j = _ := lowered j
      rw [lowered_j, if_congr gains rfl rfl]
    · intro k hk
      have lowered_k : (s.loseCompanion (s.record c.index).config.companion).record k = _ := lowered k
      rw [Command.modifyCompanion_eq] at hk
      split at hk
      next hn =>
        cases hk
        rw [lowered_k]
        exact Record.inUse_ne_free (hnew hn).2.2
      next => cases hk
  obtain ⟨flowMap, lanes, timebase, transit⟩ := State.answered_rest answered
  have rest := State.modify_rest s c
  refine ⟨t, ht, ?_, ?_, fun only => ?_, fun j hj => ?_, ?_, ?_, ?_, ?_, ?_, ?_, ?_, _, ?_, State.answered_responses answered⟩
  · rw [recordIs, Record.modifyFires_config, link.1]
    rfl
  · rw [recordIs, Record.modifyFires_evidence link.2]
  · have picks (k : Nat) (hk : k ≤ 10) : flag (c.word 0) (16 + k) = Nat.testBit 4 k := by
      rw [flag_eq_testBit_bits _ (hi := 26) (by omega), only]
    rw [recordIs, Record.modifyFires_of_not_selects (picks 9 (by omega)) (picks 10 (by omega)),
      Record.reconfigure_companion kind only]
    rfl
  · rw [State.answered_record answered, State.modify_eq, State.record_setRecord_ne _ _ (show c.index ≠ j from Ne.symm hj), companions j hj]
  · rw [State.answered_manager answered, rest]
  · rw [State.answered_manager answered, rest]
  · rw [State.answered_manager answered, rest]
  · rw [flowMap, rest]
  · rw [lanes, rest]
  · rw [timebase, rest]
  · rw [transit, rest]
  · split
    · exact .inr rfl
    · exact .inl rfl

/-! ### The window of an INGRESS record -/

/-- An INGRESS record with its new configuration stored: a lowered W trims both slots' accepted sets (R12), and the evidence flag
stands where no companion is selected. -/
theorem Record.reconfigure_ingress {r : Record} {c : Command} (h18 : flag (c.word 0) 18 = false) :
    r.reconfigure c = { r with
      config := c.modifyConfig r.config
      lifetimeCounter := if (c.modifyConfig r.config).lifetimeSource = r.config.lifetimeSource then r.lifetimeCounter else 0
      octetRemainder := if (c.modifyConfig r.config).lifetimeSource = r.config.lifetimeSource then r.octetRemainder else 0
      slot0 := if (c.modifyConfig r.config).window < r.config.window then r.slot0.trim (c.modifyConfig r.config).window
        else r.slot0
      slot1 := if (c.modifyConfig r.config).window < r.config.window then r.slot1.trim (c.modifyConfig r.config).window
        else r.slot1 } := by
  unfold Record.reconfigure
  by_cases same : (c.modifyConfig r.config).lifetimeSource = r.config.lifetimeSource <;>
    simp [same, Command.selects, h18]

theorem Record.lifetimeReached_iff {r : Record} : r.lifetimeReached = true ↔
    r.config.lifetimeValue ≠ 0 ∧ r.config.lifetimeValue ≤ r.lifetimeCounter := by
  simp only [Record.lifetimeReached, Bool.and_eq_true, bne_iff_ne, decide_eq_true_eq]

/-- What the new values of a Modify bring about at an INGRESS record: STALE_KEY, where a selected lifetime value is met (R13). -/
theorem Record.modifyFires_ingress {r : Record} {c : Command} {n : Nat} (hk : r.config.kind = .ingress) :
    r.modifyFires c n = if r.state = .live ∧ r.staleMark = false ∧ flag (c.word 0) 25 = true ∧ r.lifetimeReached = true then
      { r with staleMark := true, causes := { r.causes with staleKey := true } } else r := by
  by_cases live : r.state = .live
  · rw [Record.modifyFires_of_live live]
    have aged : r.agedBy c n = if r.state = .live ∧ r.staleMark = false ∧ flag (c.word 0) 25 = true ∧ r.lifetimeReached = true then
        { r with staleMark := true, causes := { r.causes with staleKey := true } } else r := by
      unfold Record.agedBy Record.lifetimeCheck Record.staleCheck
      cases flag (c.word 0) 25 <;> cases r.staleMark <;> cases r.lifetimeReached <;> simp [hk, live]
    have kind : (r.agedBy c n).config.kind = .ingress := by
      rw [aged]
      split <;> exact hk
    rw [kind, ← aged]
    simp
  · rw [Record.modifyFires, if_neg live, if_neg fun h => live h.1]

/-- Settles O19: no check of R11 fails, no companion is selected, and the record made is `Record.reconfigure_ingress`. -/
theorem modifyTrimsWindows : Obligations.ModifyTrimsWindows := by
  intro s c h i r g picks w source trimmed stored stale hi inUse kind hmask h18
  have passes : s.modifyRefusal c = none := by
    have mask : ¬ (picks 16 = true ∧ bits (c.word 1) 3 0 = 0) := fun ⟨picked, zero⟩ => hmask picked zero
    have retiring : r.state ≠ .retiring := by rcases inUse with e | e | e <;> simp [e]
    have companion : flag (c.word 0) 18 = false := h18
    have good : ¬ ((picks 16 = true ∧ bits (c.word 1) 3 0 = 0) ∨ (picks 18 = true ∧ g.kind = .ingress)
        ∨ ((picks 18 && flag (c.word 1) 7) = true ∧ 8192 ≤ bits (c.word 2) 15 0)
        ∨ (picks 26 = true ∧ g.kind = .egress ∧ c.softThreshold = 0)) := by
      rw [h18, kind]
      simpa using hmask
    rw [State.modifyRefusal_eq, if_neg (by omega), if_neg (Record.inUse_ne_free inUse), if_neg retiring, if_neg good, companion]
    simp
  obtain ⟨t, ht, answered⟩ := State.modify_accepted h passes
  have stored_eq : r.reconfigure c = stored := by
    rw [Record.reconfigure_ingress h18, Command.modifyConfig_ingress kind]
    rfl
  have stale_iff : stale ↔ stored.state = .live ∧ stored.staleMark = false ∧ flag (c.word 0) 25 = true ∧
      stored.lifetimeReached = true := by
    refine and_congr_right fun _ => and_congr_right fun _ => and_congr_right fun picked => ?_
    have value : stored.config.lifetimeValue = (c.word 6).toNat := if_pos picked
    rw [Record.lifetimeReached_iff, value]
  have whole := State.modify_eq_of_not_selects (s := s) h18
  have made : (s.record c.index).reconfigure c = stored := stored_eq
  rw [made, Record.modifyFires_ingress (r := stored) kind, ← if_congr stale_iff rfl rfl] at whole
  have clamped_iff : c.modifyClamped (s.record c.index).config.kind = true ↔
      (picks 19 = true ∧ picks 27 = false ∧ 255 < bits (c.word 2) 31 16) ∨ (picks 23 = true ∧ 1048575 < (c.word 5).toNat) := by
    have kind' : (s.record c.index).config.kind = .ingress := kind
    simp only [Command.modifyClamped, kind', Command.selects, Bool.or_eq_true, Bool.and_eq_true, Command.windowClamped_iff,
      Command.intervalClamped_iff]
    rfl
  rw [whole, if_congr clamped_iff rfl rfl] at answered
  exact ⟨t, ht, answered⟩

end Sys2Proof.Machine
end

section
/-!
PROOFS. The rollover commands (chapter 4): the checks of Load Next Key, Roll Now and Force Switch as conditions on the record named,
and the record that each makes, by the rules of `Safety.lean`.
-/

namespace Sys2Proof.Machine

/-! ### Each command is refused by its first failing check, or has its one effect -/

section Turns

variable {s : State} {c : Command}

theorem execLoadNextKey_answers (h : s.offers c .loadNextKey) : ∃ t, exec .loadNextKey s = .next t ∧
    (match s.loadRefusal c with
      | some st => s.answered s c { status := st } t
      | none => s.answered (s.setRecord c.index ((s.record c.index).loadNext (c.keyAt 1) (c.saltAt 9) s.timebase.tickCount)) c
          { status := .ok } t) := by
  cases passes : s.loadRefusal c with
  | some st =>
    refine State.serve_refuses h fun n => ?_
    have passes' : (s.freed n).loadRefusal c = some st := passes
    simp only [loadNextKeyOwner, passes']
  | none =>
    refine State.serve_answers h rfl rfl fun n => ?_
    have passes' : (s.freed n).loadRefusal c = none := passes
    simp only [loadNextKeyOwner, passes']
    rfl

theorem execRollNow_answers (h : s.offers c .rollNow) : ∃ t, exec .rollNow s = .next t ∧
    (match s.rollRefusal c with
      | some st => s.answered s c { status := st } t
      | none => s.answered (s.setRecord c.index ((s.record c.index).trigger s.timebase.tickCount)) c { status := .ok } t) := by
  cases passes : s.rollRefusal c with
  | some st =>
    refine State.serve_refuses h fun n => ?_
    have passes' : (s.freed n).rollRefusal c = some st := passes
    simp only [rollNowOwner, passes']
  | none =>
    refine State.serve_answers h rfl rfl fun n => ?_
    have passes' : (s.freed n).rollRefusal c = none := passes
    simp only [rollNowOwner, passes']
    rfl

theorem execForceSwitch_answers (h : s.offers c .forceSwitch) : ∃ t, exec .forceSwitch s = .next t ∧
    (match s.forceRefusal c with
      | some st => s.answered s c { status := st } t
      | none => match (s.record c.index).config.kind with
        | .egress => s.answered (s.setRecord c.index ((s.record c.index).egressSwitch s.timebase.tickCount)) c
            { status := if (s.record c.index).otherPosition.keyPasses then .ok else .noNextKey } t
        | .ingress => s.answered
            ((s.setRecord c.index ((s.record c.index).ingressSwitch 0 s.timebase.tickCount)).sendEvidence c.index) c
            { status := .ok } t) := by
  cases passes : s.forceRefusal c with
  | some st =>
    refine State.serve_refuses h fun n => ?_
    have passes' : (s.freed n).forceRefusal c = some st := passes
    simp only [forceSwitchOwner, passes']
  | none =>
    cases kind : (s.record c.index).config.kind with
    | egress | ingress =>
      refine State.serve_answers h rfl rfl fun n => ?_
      have passes' : (s.freed n).forceRefusal c = none := passes
      have kind' : ((s.freed n).record c.index).config.kind = _ := kind
      simp only [forceSwitchOwner, passes', kind']
      rfl

end Turns

/-! ### The checks -/

section Checks

variable {r : Record}

theorem Record.slotBusy_egress (h : r.config.kind = .egress) : r.slotBusy = true ↔ r.otherPosition.role = .closing ∨
    r.otherPosition.role = .next ∨ (r.otherPosition.role = .damaged ∧ r.otherPosition.inFlight ≠ 0) := by
  simp only [Record.slotBusy, h, Bool.or_eq_true, Bool.and_eq_true, beq_iff_eq, bne_iff_ne, or_assoc]

theorem Record.slotBusy_live (h : r.config.kind = .ingress) (live : r.state = .live) : r.slotBusy = true ↔
    r.stage = .overlap ∨ r.stage = .drainOld ∨ (r.stage = .armed ∧ (r.otherPosition.role = .next ∨
      (r.otherPosition.role = .damaged ∧ r.otherPosition.inFlight ≠ 0))) := by
  simp only [Record.slotBusy, h, live, Bool.or_eq_true, Bool.and_eq_true, beq_iff_eq, bne_iff_ne, or_assoc]

theorem Record.slotBusy_halted (h : r.config.kind = .ingress) (halted : r.state = .halted) : r.slotBusy = true ↔
    r.otherPosition.role = .closing ∨ r.otherPosition.role = .next ∨
      ((r.otherPosition.role = .old ∨ r.otherPosition.role = .damaged) ∧ r.otherPosition.inFlight ≠ 0) := by
  simp only [Record.slotBusy, h, halted, Bool.or_eq_true, Bool.and_eq_true, beq_iff_eq, bne_iff_ne]
  tauto

end Checks

/-! ### The records made -/

section Made

variable {r : Record} {n : Nat} {key : BitVec 256} {salt : BitVec 48}

/-- A switch called for at a record whose NEXT key passes its check is made (R63). -/
theorem Record.ruleCall_of_ready (role : r.otherPosition.role = .next) (passes : r.otherPosition.keyPasses = true) :
    r.ruleCall n = r.ruleSwitch n := by
  have good : r.otherPosition.checkCode = Config.checkCode r.otherPosition.key r.otherPosition.salt := by
    simpa only [Slot.keyPasses, beq_iff_eq] using passes
  unfold Record.ruleCall
  exact (if_neg (not_not.mpr role)).trans (if_pos good)

theorem Slot.written_keyPasses (role : Role) (k : BitVec 2) (key : BitVec 256) (salt : BitVec 48) :
    (Slot.written role k key salt).keyPasses = true := beq_self_eq_true _

theorem Record.otherPosition_withNext (key : BitVec 256) (salt : BitVec 48) :
    (r.withNext key salt).otherPosition = Slot.written .next (r.currentPosition.keyNumber + 1) key salt := by
  unfold Record.withNext Record.otherPosition
  rw [Record.setSlot_currentSlot, Record.slot_setSlot_self]

/-- The key written by a Load Next Key passes its check: a switch called for next is made. -/
theorem Record.ruleCall_loaded {l : Record} (next : l.otherPosition = Slot.written .next (r.currentPosition.keyNumber + 1) key salt) :
    l.ruleCall n = l.ruleSwitch n :=
  Record.ruleCall_of_ready (by rw [next]; rfl) (by rw [next]; exact Slot.written_keyPasses ..)

/-- A switch sets the stage and its timer anew. -/
theorem Record.ruleSwitch_enter (stage : Stage) : (r.enter stage).ruleSwitch n = r.ruleSwitch n := by
  cases h : r.currentSlot <;> simp [Record.ruleSwitch, Record.enter, Record.setSlot, Record.slot, h]

/-- The EGRESS record after a Load Next Key, by its stage (R58, R59): `loaded` is the record with its NEXT written and KEY_NEEDED
removed. -/
theorem Record.loadedEgress_eq {loaded : Record} (key : BitVec 256) (salt : BitVec 48)
    (made : loaded = { r.withNext key salt with causes := { r.causes with keyNeeded := false } }) :
    (r.withNext key salt).loadedEgress n =
      if r.state = .live ∧ r.stage = .awaitKey ∧ r.config.lead ≠ 0 then { loaded with stage := .lead, stageTimer := 0 }
      else if r.state = .live ∧ r.stage = .awaitKey ∧ r.config.switchMode = .evidence ∧ r.evidence = false then
        { loaded with stage := .awaitEvidence, stageTimer := 0 }
      else if r.state = .live ∧ (r.stage = .awaitKey ∨ (r.stage = .awaitEvidence ∧ r.evidence = true)) then loaded.ruleSwitch n
      else loaded := by
  have state : loaded.state = r.state := by rw [made]; exact Record.setSlot_state ..
  have stage : loaded.stage = r.stage := by rw [made]; exact Record.setSlot_stage ..
  have config : loaded.config = r.config := by rw [made]; exact Record.setSlot_config ..
  have evidence : loaded.evidence = r.evidence := by rw [made]; exact Record.setSlot_evidence ..
  have next : loaded.otherPosition = Slot.written .next (r.currentPosition.keyNumber + 1) key salt := by
    rw [made]; exact Record.otherPosition_withNext key salt
  have begun : (r.withNext key salt).loadedEgress n = if loaded.state = .live then
      match loaded.stage with
      | .awaitKey => loaded.enterLead n
      | .awaitEvidence => if loaded.evidence then loaded.egressSwitch n else loaded
      | _ => loaded
    else loaded := by
    have causes : (r.withNext key salt).causes = r.causes := Record.setSlot_causes ..
    rw [made, Record.loadedEgress, causes] <;> rfl
  rw [begun, state, stage, evidence]
  by_cases live : r.state = .live
  swap
  · simp [live]
  have live' : loaded.state = .live := state.trans live
  have lead : loaded.enterLead n = if r.config.lead = 0 then
      (if r.config.switchMode = .timed ∨ r.evidence = true then loaded.ruleSwitch n
        else loaded.enter .awaitEvidence) else loaded.enter .lead := by
    rw [Record.enterLead, config]
    split
    · rw [Record.leadExpiry_eq_rule (show (loaded.enter .lead).state = .live from live'), Record.ruleLead,
        Record.ruleCall_loaded (l := loaded.enter .lead) next, Record.ruleSwitch_enter]
      exact if_congr (by rw [← config, ← evidence]; rfl) rfl rfl
    · rfl
  have call : loaded.egressSwitch n = loaded.ruleSwitch n := by
    rw [Record.egressSwitch_eq_rule (.inl live'), Record.ruleCall_loaded next]
  cases hs : r.stage
  case awaitKey =>
    rw [lead]
    by_cases zero : r.config.lead = 0 <;> cases mode : r.config.switchMode <;> cases flagged : r.evidence <;>
      simp [live, live', zero, evidence, flagged, Record.enter]
  case awaitEvidence =>
    rw [call]
    cases flagged : r.evidence <;> simp [live]
  all_goals simp [live]

end Made

/-! ### The obligations -/

/-- Settles O21: the checks are those of `State.loadRefusal`, and the record made is `Record.loadedEgress_eq`. -/
theorem loadNextKeyEgress : Obligations.LoadNextKeyEgress := by
  intro s c h i r other next loaded kind
  obtain ⟨t, ht, answered⟩ := execLoadNextKey_answers h
  have busy : (s.record c.index).slotBusy = true ↔
      other.role = .closing ∨ other.role = .next ∨ (other.role = .damaged ∧ other.inFlight ≠ 0) := Record.slotBusy_egress kind
  have refusal : s.loadRefusal c = if 8192 ≤ i then some .badIndex else if r.state = .free then some .notPresent
      else if r.state = .retiring then some .retiring else if r.state = .staged then some .badState
      else if other.role = .closing ∨ other.role = .next ∨ (other.role = .damaged ∧ other.inFlight ≠ 0) then some .slotBusy
      else if c.framing = true then some .badFraming else none := by
    simp only [State.loadRefusal, busy]
    rfl
  have made : r.loadNext (c.keyAt 1) (c.saltAt 9) s.timebase.tickCount = _ :=
    Eq.trans (by rw [Record.loadNext, kind])
      (Record.loadedEgress_eq (r := r) (n := s.timebase.tickCount) (loaded := loaded) (c.keyAt 1) (c.saltAt 9) rfl)
  have kept : (s.record c.index).loadNext (c.keyAt 1) (c.saltAt 9) s.timebase.tickCount = _ := made
  rw [refusal, kept] at answered
  refine ⟨t, ht, ?_⟩
  split_ifs at answered ⊢ <;> exact answered

/-- Settles O22: the same turn at an INGRESS record, whose checks read the slot and the stage by the record's state. -/
theorem loadNextKeyIngress : Obligations.LoadNextKeyIngress := by
  intro s c h i r other next hi kind
  obtain ⟨t, ht, answered⟩ := execLoadNextKey_answers h
  have made : (s.record c.index).loadNext (c.keyAt 1) (c.saltAt 9) s.timebase.tickCount =
      { (r.setSlot (!r.currentSlot) next) with stage := .armed, stageTimer := 0 } := by
    have kind' : (s.record c.index).config.kind = .ingress := kind
    rw [Record.loadNext, kind']
    rfl
  have refusal : s.loadRefusal c = if r.state = .free then some .notPresent
      else if r.state = .retiring then some .retiring else if r.state = .staged then some .badState
      else if r.slotBusy = true then some .slotBusy else if c.framing = true then some .badFraming else none :=
    if_neg (Nat.not_le_of_lt hi)
  rw [refusal, made] at answered
  refine ⟨t, ht, ?_⟩
  rcases hr : r.state with _ | _ | _ | _ | _
  case free | staged | retiring =>
    rw [hr] at answered
    exact answered
  case live =>
    have busy : r.slotBusy = true ↔ r.stage = .overlap ∨ r.stage = .drainOld ∨ (r.stage = .armed ∧
      (other.role = .next ∨ (other.role = .damaged ∧ other.inFlight ≠ 0))) := Record.slotBusy_live kind hr
    rw [hr, if_congr busy rfl rfl] at answered
    simp only [reduceCtorEq, if_false, true_and, false_and] at answered ⊢
    split_ifs at answered ⊢ <;> exact answered
  case halted =>
    have busy : r.slotBusy = true ↔ other.role = .closing ∨ other.role = .next ∨
      ((other.role = .old ∨ other.role = .damaged) ∧ other.inFlight ≠ 0) := Record.slotBusy_halted kind hr
    rw [hr, if_congr busy rfl rfl] at answered
    simp only [reduceCtorEq, if_false, true_and, false_and] at answered ⊢
    split_ifs at answered ⊢ <;> exact answered

theorem RecordState.ne_live_iff {x : RecordState} (hf : x ≠ .free) (hr : x ≠ .retiring) :
    x ≠ .live ↔ x = .staged ∨ x = .halted := by
  cases x <;> simp_all

/-- The checks of R57 in their order. -/
theorem State.rollRefusal_eq (s : State) (c : Command) : s.rollRefusal c =
    if 8192 ≤ c.index then some .badIndex else if (s.record c.index).state = .free then some .notPresent
    else if (s.record c.index).state = .retiring then some .retiring
    else if (s.record c.index).config.kind = .ingress then some .wrongKind
    else if (s.record c.index).state ≠ .live then some .badState
    else if (s.record c.index).stage ≠ .steady then some .alreadyRolling else none := by
  by_cases hf : (s.record c.index).state = .free
  · simp only [State.rollRefusal, hf]
    rfl
  by_cases hr : (s.record c.index).state = .retiring
  · simp only [State.rollRefusal, hr]
    rfl
  rw [if_congr (RecordState.ne_live_iff hf hr) rfl rfl]
  rfl

/-- A trigger at a LIVE record in STEADY, by its NEXT and its lead (R55, R59). -/
theorem Record.trigger_of_steady {r : Record} {n : Nat} (live : r.state = .live) (steady : r.stage = .steady)
    {latched : Record} (hl : latched = { r with triggerLatch := true, graceTimer := 0, stageTimer := 0 }) :
    r.trigger n = if r.otherPosition.role = .next ∧ r.config.lead ≠ 0 then { latched with stage := .lead }
      else if r.otherPosition.role = .next then { latched with stage := .lead }.ruleLead n
      else { latched with stage := .awaitKey, causes := { r.causes with keyNeeded := true } } := by
  subst hl
  rw [Record.trigger_eq_rule live, Record.ruleTrigger, steady, Record.otherPosition]
  by_cases next : (r.slot (!r.currentSlot)).role = .next <;> by_cases zero : r.config.lead = 0 <;> simp [next, zero]

/-- Settles O23: the trigger is `Record.trigger_eq_rule`, in STEADY. -/
theorem rollNowTriggers : Obligations.RollNowTriggers := by
  intro s c h i r latched
  obtain ⟨t, ht, answered⟩ := execRollNow_answers h
  have refusal : s.rollRefusal c = if 8192 ≤ i then some .badIndex else if r.state = .free then some .notPresent
      else if r.state = .retiring then some .retiring else if r.config.kind = .ingress then some .wrongKind
      else if r.state ≠ .live then some .badState else if r.stage ≠ .steady then some .alreadyRolling else none :=
    State.rollRefusal_eq s c
  have fired (live : r.state = .live) (steady : r.stage = .steady) : (s.record c.index).trigger s.timebase.tickCount =
      if (r.slot (!r.currentSlot)).role = .next ∧ r.config.lead ≠ 0 then { latched with stage := .lead }
      else if (r.slot (!r.currentSlot)).role = .next then { latched with stage := .lead }.ruleLead s.timebase.tickCount
      else { latched with stage := .awaitKey, causes := { r.causes with keyNeeded := true } } :=
    Record.trigger_of_steady live steady rfl
  refine ⟨t, ht, ?_⟩
  rw [refusal] at answered
  by_cases started : r.state = .live ∧ r.stage = .steady
  · rw [fired started.1 started.2, started.1, started.2] at answered
    rw [started.1, started.2]
    split_ifs at answered ⊢ <;> exact answered
  · split_ifs at answered ⊢ <;> try exact answered
    all_goals exact absurd ⟨not_not.mp ‹_›, not_not.mp ‹_›⟩ started

theorem Record.state_of_switchable {r : Record} (hf : r.state ≠ .free) (hr : r.state ≠ .retiring) (hs : r.state ≠ .staged) :
    r.state = .live ∨ r.state = .halted := by
  cases state : r.state <;> simp_all

/-- A switch takes nothing from the latch, the stage or the grace timer that stood before it. -/
theorem Record.ruleSwitch_latched {r : Record} {n : Nat} :
    { r with triggerLatch := true, graceTimer := 0, stageTimer := 0, stage := .lead }.ruleSwitch n = r.ruleSwitch n := by
  cases h : r.currentSlot <;> simp [Record.ruleSwitch, Record.setSlot, Record.slot, h]

/-- A trigger in STEADY, with a NEXT whose key passes, a lead of 0 and mode TIMED, makes the switch (R55, R59, R60). -/
theorem Record.trigger_switches {r : Record} {n : Nat} (live : r.state = .live) (steady : r.stage = .steady)
    (next : r.otherPosition.role = .next) (lead : r.config.lead = 0) (timed : r.config.switchMode = .timed)
    (passes : r.otherPosition.keyPasses = true) : r.trigger n = r.ruleSwitch n := by
  rw [Record.trigger_of_steady live steady rfl, if_neg (fun h => h.2 lead), if_pos next]
  exact (if_pos (.inl timed)).trans
    ((Record.ruleCall_of_ready (r := { r with triggerLatch := true, graceTimer := 0, stageTimer := 0, stage := .lead })
      next passes).trans Record.ruleSwitch_latched)

/-- Settles O24: the switch called for is `Record.egressSwitch_eq_rule`. -/
theorem egressSwitch : Obligations.EgressSwitch := by
  intro s c name i r k old new switched faulted h kind
  refine ⟨fun named => ?_, fun named hi live steady next lead timed passes => ?_⟩
  · subst named
    obtain ⟨t, ht, answered⟩ := execForceSwitch_answers h
    have kind' : (s.record c.index).config.kind = .egress := kind
    have refusal : s.forceRefusal c = if 8192 ≤ i then some .badIndex else if r.state = .free then some .notPresent
        else if r.state = .retiring then some .retiring else if r.state = .staged then some .badState
        else if new.role = .next then none else some .noNextKey := by
      have usable : (s.record c.index).usableNext = true ↔ new.role = .next := Record.usableNext_iff r
      simp only [State.forceRefusal, kind', usable]
      rfl
    have passes : (s.record c.index).otherPosition.keyPasses = true ↔ new.checkCode = Config.checkCode new.key new.salt :=
      beq_iff_eq
    have called (hs : r.state = .live ∨ r.state = .halted) : (s.record c.index).egressSwitch s.timebase.tickCount =
        if new.role ≠ .next then r else if new.checkCode = Config.checkCode new.key new.salt then switched else faulted :=
      Record.egressSwitch_eq_rule hs _
    refine ⟨t, ht, ?_⟩
    rw [refusal, kind', if_congr passes rfl rfl] at answered
    by_cases made : (r.state = .live ∨ r.state = .halted) ∧ new.role = .next
    · rw [called made.1, if_neg (not_not.mpr made.2), if_pos made.2] at answered
      rw [if_neg (not_not.mpr made.2)]
      split_ifs at answered ⊢ <;> exact answered
    · rw [ite_not]
      split_ifs at answered ⊢ <;> try exact answered
      all_goals exact absurd ⟨Record.state_of_switchable (r := r) ‹_› ‹_› ‹_›, ‹_›⟩ made
  · subst named
    obtain ⟨t, ht, answered⟩ := execRollNow_answers h
    have refusal : s.rollRefusal c = none := by
      have live' : (s.record c.index).state = .live := live
      have steady' : (s.record c.index).stage = .steady := steady
      have kind' : (s.record c.index).config.kind = .egress := kind
      rw [State.rollRefusal_eq, if_neg (show ¬ 8192 ≤ c.index from Nat.not_le_of_lt hi), live', steady', kind']
      rfl
    have fired : (s.record c.index).trigger s.timebase.tickCount = r.ruleSwitch s.timebase.tickCount :=
      Record.trigger_switches live steady next lead timed (beq_iff_eq.mpr passes)
    rw [refusal, fired] at answered
    exact ⟨t, ht, answered⟩

/-- The ingress switch of a LIVE or HALTED record, as R70 and R74 say. -/
theorem Record.ingressSwitch_eq {r : Record} {n : Nat} (h : r.state = .live ∨ r.state = .halted) (capture : Nat) :
    r.ingressSwitch capture n =
      let old := r.slot r.currentSlot
      let keeps : Bool := decide (old.role ≠ .damaged ∧ r.config.overlap ≠ 0)
      { ((r.setSlot (!r.currentSlot) { r.slot (!r.currentSlot) with role := .current }).setSlot r.currentSlot
          (if keeps then { old with role := .old }
           else if old.inFlight = 0 then Slot.erased else { old with role := .closing })) with
        currentSlot := !r.currentSlot, switchCapture := capture, switchTick := n % 2 ^ 32, lifetimeCounter := 0
        octetRemainder := 0, staleMark := false, stageTimer := 0, switchCount := min 65535 (r.switchCount + 1)
        causes := { r.causes with switched := true }
        stage := if keeps then .overlap else if old.inFlight = 0 then .steady else .drainOld
        state := .live
        haltReason := if r.state = .halted then .none else r.haltReason } := by
  have keeps : (r.currentPosition.role != .damaged && r.config.overlap != 0) =
      decide ((r.slot r.currentSlot).role ≠ .damaged ∧ r.config.overlap ≠ 0) := by
    rw [Bool.decide_and, decide_not, decide_not]
    rfl
  have state : (if r.state = .halted then RecordState.live else r.state) = .live := by
    rcases h with e | e <;> simp [e]
  unfold Record.ingressSwitch
  simp only [keeps, state]
  rfl

/-- Settles O25: the switch is `Record.ingressSwitch_eq`, and evidence goes to the records that name this one once it stands. -/
theorem forceSwitchIngress : Obligations.ForceSwitchIngress := by
  intro s c h i r k old new keeps switched placed named hi kind
  obtain ⟨t, ht, answered⟩ := execForceSwitch_answers h
  have kind' : (s.record c.index).config.kind = .ingress := kind
  have refusal : s.forceRefusal c = if r.state = .free then some .notPresent
      else if r.state = .retiring then some .retiring else if r.state = .staged then some .badState
      else if new.role = .next ∧ ((r.state = .live ∧ r.stage = .armed) ∨ r.state = .halted) then none else some .noNextKey := by
    have switchable : (s.record c.index).ingressSwitchable = true ↔
        new.role = .next ∧ ((r.state = .live ∧ r.stage = .armed) ∨ r.state = .halted) := by
      simp only [Record.ingressSwitchable, Bool.and_eq_true, Bool.or_eq_true, beq_iff_eq, Record.usableNext_iff]
      rfl
    simp only [State.forceRefusal, kind', switchable]
    exact if_neg (Nat.not_le_of_lt hi)
  refine ⟨t, ht, ?_⟩
  rw [refusal, kind'] at answered
  dsimp only at answered
  split_ifs at answered ⊢ with hf hr hs ready <;> try exact answered
  have made : (s.record c.index).ingressSwitch 0 s.timebase.tickCount = switched :=
    Record.ingressSwitch_eq (Record.state_of_switchable hf hr hs) 0
  rw [made] at answered
  exact answered

end Sys2Proof.Machine
end

section
/-!
PROOFS. Sums over the four lanes, and what the engines of one lane hold under a slot: at most 8 egress frames and at most 16 ingress
frames over the whole part, fewer while a store waits.
-/

namespace Sys2Proof.Machine

/-! ### Sums over the lanes -/

theorem fin_four_cases (l : Fin 4) : l = 0 ∨ l = 1 ∨ l = 2 ∨ l = 3 := by omega

theorem State.lanes_toList (s : State) : s.lanes.toList = (List.finRange 4).map s.lane := by
  refine List.ext_getElem (by simp) fun i h _ => ?_
  have hi : i < 4 := by simpa using h
  simp [State.lane, vget]

theorem sum_four (f : Fin 4 → Nat) : ((List.finRange 4).map f).sum = f 0 + f 1 + f 2 + f 3 := by
  simp [List.finRange, List.ofFn, Fin.foldr, Fin.foldr.loop]
  omega

/-- A count over the lanes, lane by lane. -/
theorem State.sum_lanes (s : State) (f : Lane → Nat) :
    (s.lanes.toList.map f).sum = f (s.lane 0) + f (s.lane 1) + f (s.lane 2) + f (s.lane 3) := by
  rw [s.lanes_toList, List.map_map, sum_four]
  rfl

/-- What a count over four loses and gains where one of the four changes. -/
theorem sum_four_change {f g : Fin 4 → Nat} (l : Fin 4) (h : ∀ m, m ≠ l → g m = f m) :
    ((List.finRange 4).map g).sum + f l = ((List.finRange 4).map f).sum + g l := by
  rw [sum_four, sum_four]
  have m (j : Fin 4) := h j
  obtain rfl | rfl | rfl | rfl := fin_four_cases l <;> simp_all [m 0, m 1, m 2, m 3] <;> omega

/-! ### The egress grants that an engine holds -/

/-- An egress grant is one of a slot of a record. -/
def EgressGrant.under (g : EgressGrant) (i : Nat) (k : SlotNo) : Nat := if g.record = i ∧ g.slot = k then 1 else 0

/-- The egress grants of a slot that a transmit store holds. -/
def TransmitStore.holds (t : TransmitStore) (i : Nat) (k : SlotNo) : Nat :=
  match t with
  | .held f | .sending f => (f.grant.map fun g => g.under i k).getD 0
  | .free | .reserved _ => 0

/-- The egress grants of a slot in an answer on its way. -/
def AllocationAnswer.holds (a : Option AllocationAnswer) (i : Nat) (k : SlotNo) : Nat :=
  match a with
  | some (.granted g) => g.under i k
  | _ => 0

theorem EgressEngine.holds_eq (e : EgressEngine) (i : Nat) (k : SlotNo) :
    e.holds i k = AllocationAnswer.holds e.answer i k + e.store0.holds i k + e.store1.holds i k := rfl

theorem EgressGrant.under_le (g : EgressGrant) (i : Nat) (k : SlotNo) : g.under i k ≤ 1 := by
  unfold EgressGrant.under
  split <;> omega

/-- A transmit store holds one grant at most, and none while it is RESERVED. -/
theorem TransmitStore.holds_le (t : TransmitStore) (i : Nat) (k : SlotNo) :
    t.holds i k ≤ if t.isReserved then 0 else 1 := by
  cases t with
  | free | reserved _ => exact Nat.zero_le _
  | held f | sending f =>
    change (f.grant.map fun g => g.under i k).getD 0 ≤ 1
    cases f.grant with
    | none => exact Nat.zero_le _
    | some g => exact g.under_le i k

theorem AllocationAnswer.holds_le (a : Option AllocationAnswer) (i : Nat) (k : SlotNo) :
    AllocationAnswer.holds a i k ≤ if a.isSome then 1 else 0 := by
  rcases a with _ | _ | g
  · exact Nat.zero_le _
  · exact Nat.zero_le _
  · exact g.under_le i k

/-- An Egress Engine holds at most two grants, and one fewer while a request of its has no answer yet: its store is RESERVED. -/
theorem EgressEngine.holds_le {e : EgressEngine} (h : e.requestOk) (i : Nat) (k : SlotNo) :
    e.holds i k + (if e.request.isSome ∧ e.answer = none then 1 else 0) ≤ 2 := by
  obtain ⟨answered, reserved⟩ := h
  have h0 := e.store0.holds_le i k
  have h1 := e.store1.holds_le i k
  have ha := AllocationAnswer.holds_le e.answer i k
  rw [EgressEngine.holds_eq]
  cases hr : e.request <;> cases hq : e.answer <;> simp [hr, hq] at * <;> split_ifs at * <;> omega

/-! ### The ingress grants that an engine holds -/

/-- The ingress grants of a slot that a store holds. -/
def FrameStore.holds (x : Option FrameStore) (i : Nat) (k : SlotNo) : Nat :=
  match x.bind FrameStore.openGrant with
  | some g => if g.record = i ∧ g.slot = k then 1 else 0
  | none => 0

theorem FrameStore.holds_le (x : Option FrameStore) (i : Nat) (k : SlotNo) : FrameStore.holds x i k ≤ 1 := by
  unfold FrameStore.holds
  split
  · split <;> omega
  · omega

theorem IngressEngine.stores_toList (g : IngressEngine) : g.stores.toList = (List.finRange 4).map g.store := by
  refine List.ext_getElem (by simp) fun i h _ => ?_
  have hi : i < 4 := by simpa using h
  simp [IngressEngine.store, vget]

/-- What an Ingress Engine holds under a slot, store by store. -/
theorem IngressEngine.holds_eq (g : IngressEngine) (i : Nat) (k : SlotNo) :
    g.holds i k = ((List.finRange 4).map fun j => FrameStore.holds (g.store j) i k).sum := by
  have count : ∀ xs : List (Option FrameStore), (xs.filter (fun x => match x.bind FrameStore.openGrant with
      | some h => h.record == i && h.slot == k
      | none => false)).length = (xs.map fun x => FrameStore.holds x i k).sum := by
    intro xs
    induction xs with
    | nil => rfl
    | cons x xs ih =>
      rw [List.filter_cons, List.map_cons, List.sum_cons, ← ih]
      cases hx : x.bind FrameStore.openGrant with
      | none => simp [FrameStore.holds, hx]
      | some h =>
        simp only [FrameStore.holds, hx, Bool.and_eq_true, beq_iff_eq]
        split <;> simp [Nat.add_comm]
  refine (count g.stores.toList).trans ?_
  rw [g.stores_toList, List.map_map]
  rfl

/-- An Ingress Engine holds at most four grants, and one fewer where a store holds none. -/
theorem IngressEngine.holds_le (g : IngressEngine) (i : Nat) (k : SlotNo) (j : StoreId) :
    g.holds i k ≤ 3 + FrameStore.holds (g.store j) i k := by
  rw [IngressEngine.holds_eq, sum_four]
  have h0 := FrameStore.holds_le (g.store 0) i k
  have h1 := FrameStore.holds_le (g.store 1) i k
  have h2 := FrameStore.holds_le (g.store 2) i k
  have h3 := FrameStore.holds_le (g.store 3) i k
  obtain rfl | rfl | rfl | rfl := fin_four_cases j <;> omega

/-! ### A full slot has a message in transit -/

/-- With 8 frames in flight under a slot while a lane waits for an allocation answer, a release under the slot is in transit. -/
theorem State.release_in_transit {s : State} (h : s.CountsExact) {l : LaneId} (asked : (s.lane l).egress.request.isSome)
    (waits : (s.lane l).egress.answer = none) {i : Nat} {k : SlotNo} (kind : (s.record i).config.kind = .egress)
    (full : 8 ≤ ((s.record i).slot k).inFlight) : ∃ m ∈ s.transit.releases, m.record = i ∧ m.slot = k := by
  have held := (h.egress i k kind).1
  rw [State.egressHeld, State.sum_lanes] at held
  have lane (m : LaneId) := EgressEngine.holds_le (h.requests m) i k
  have h0 := lane 0
  have h1 := lane 1
  have h2 := lane 2
  have h3 := lane 3
  have hl : (s.lane l).egress.holds i k ≤ 1 := by
    have := lane l
    rw [if_pos ⟨asked, waits⟩] at this
    omega
  have some_release : 0 < (s.transit.releases.filter (fun m => m.record == i && m.slot == k)).length := by
    obtain rfl | rfl | rfl | rfl := fin_four_cases l <;> omega
  obtain ⟨m, hm⟩ := List.exists_mem_of_length_pos some_release
  rw [List.mem_filter, Bool.and_eq_true, beq_iff_eq, beq_iff_eq] at hm
  exact ⟨m, hm⟩

/-- With 16 frames in flight under a slot while a store holds no grant, an abandon under the slot is in transit. -/
theorem State.abandon_in_transit {s : State} (h : s.CountsExact) {l : LaneId} {j : StoreId} {i : Nat} {k : SlotNo}
    (none_held : FrameStore.holds ((s.lane l).ingress.store j) i k = 0) (kind : (s.record i).config.kind = .ingress)
    (full : 16 ≤ ((s.record i).slot k).inFlight) : ∃ m ∈ s.transit.abandons, m.record = i ∧ m.slot = k := by
  have held := (h.ingress i k kind).1
  rw [State.ingressHeld, State.sum_lanes] at held
  have lane (m : LaneId) : (s.lane m).ingress.holds i k ≤ 4 := by
    have := IngressEngine.holds_le (s.lane m).ingress i k 0
    have := FrameStore.holds_le ((s.lane m).ingress.store 0) i k
    omega
  have h0 := lane 0
  have h1 := lane 1
  have h2 := lane 2
  have h3 := lane 3
  have hl : (s.lane l).ingress.holds i k ≤ 3 := by
    have := IngressEngine.holds_le (s.lane l).ingress i k j
    omega
  have some_abandon : 0 < (s.transit.abandons.filter (fun m => m.record == i && m.slot == k)).length := by
    obtain rfl | rfl | rfl | rfl := fin_four_cases l <;> omega
  obtain ⟨m, hm⟩ := List.exists_mem_of_length_pos some_abandon
  rw [List.mem_filter, Bool.and_eq_true, beq_iff_eq, beq_iff_eq] at hm
  exact ⟨m, hm⟩

end Sys2Proof.Machine
end

section
/-!
PROOFS. Requests and messages at the records, egress side: enqueues and withdrawals (section 1.9), allocation requests (sections 2.1
and 2.2) and the ends of grants (section 2.6).
-/

namespace Sys2Proof.Machine

/-! ### Enqueues and withdrawals -/

/-- Settles O43. -/
theorem enqueueAndWithdrawal : Obligations.EnqueueAndWithdrawal := by
  intro s l i running r less sent others
  refine ⟨fun inTransit room => ?_, fun full => ?_, fun inTransit due => ?_, fun early => ?_⟩
  · have taken : exec (.enqueue l i) s = .next (s.notify (s.takeEnqueue l i)) :=
      (State.unlessResetting_running running _).trans (if_pos ⟨inTransit, room⟩)
    rw [taken, State.takeEnqueue]
    rcases s.flowTurn with _ | _ | _ <;> rfl
  · exact (State.unlessResetting_running running _).trans (if_neg fun h => Nat.not_lt_of_le full h.2)
  · exact (State.unlessResetting_running running _).trans (if_pos ⟨inTransit, due⟩)
  · exact (State.unlessResetting_running running _).trans (if_neg fun h => Nat.not_lt_of_le early h.2)

/-! ### Allocation requests -/

section Allocation

variable {s : State} {l : LaneId} {i n : Nat}

/-- An allocation request that is due is judged at its record, and its answer goes to the engine. -/
theorem execAllocationRequest_gives (running : s.port.resetting = false) (asked : (s.lane l).egress.request = some ⟨i, n⟩)
    (waits : (s.lane l).egress.answer = none) (sent : s.transit.enqueues.count (l, i) ≤ s.queuedEntries l i)
    (room : s.allocationOverfills l ⟨i, n⟩ = false) {a : AllocationAnswer} {r' : Record}
    (judged : (s.record i).allocate i l n s.timebase.tickCount = (r', a)) :
    exec (.allocationRequest l) s = .next (s.notify ({ s with lanes := s.lanes.set l { s.lane l with
      egress := { (s.lane l).egress with answer := some a } } }.setRecord i r')) := by
  have due : s.allocationDue l ⟨i, n⟩ = true := by
    rw [State.allocationDue, room, decide_eq_true sent]
    rfl
  refine (State.unlessResetting_running running _).trans ?_
  rw [EgressEngine.openRequest, waits, asked]
  refine (if_pos due).trans ?_
  simp only [State.takes, State.takeAllocation, judged]
  rfl

/-- An allocation request that is not due waits. -/
theorem execAllocationRequest_waits (running : s.port.resetting = false) (asked : (s.lane l).egress.request = some ⟨i, n⟩)
    (waits : (s.lane l).egress.answer = none) (early : s.allocationDue l ⟨i, n⟩ = false) :
    exec (.allocationRequest l) s = .next s := by
  refine (State.unlessResetting_running running _).trans ?_
  rw [EgressEngine.openRequest, waits, asked]
  exact if_neg (by rw [early]; exact Bool.false_ne_true)

/-- A request that is refused fills no slot. -/
theorem State.allocationOverfills_of_refused {why : AllocationRefusal} {r' : Record}
    (judged : (s.record i).allocate i l n s.timebase.tickCount = (r', .refused why)) : s.allocationOverfills l ⟨i, n⟩ = false := by
  rw [State.allocationOverfills, judged]

theorem Record.allocate_of_check {r : Record} {why : AllocationRefusal} (h : r.allocationCheck l = some why) (t : Nat) :
    r.allocate i l n t = (r.refuse.freeWhenDrained, .refused why) := by
  rw [Record.allocate, h]

theorem Record.allocationCheck_passes {r : Record} (live : r.state = .live) (lane : r.config.laneMask.getLsbD l.val = true) :
    r.allocationCheck l = none := by
  simp only [Record.allocationCheck, live, lane]
  rfl

theorem Record.freeWhenDrained_of_not_retiring {r : Record} (h : r.state ≠ .retiring) : r.freeWhenDrained = r :=
  if_neg fun h' => h h'.1

end Allocation

/-- Settles O44: the refusals are those of `Record.allocate`, none of which can overfill a slot. -/
theorem allocationRefused : Obligations.AllocationRefused := by
  intro s l i n running v r sl refused gives asked waits
  have gives_of (why : AllocationRefusal) (r' : Record) (sent : s.transit.enqueues.count (l, i) ≤ s.queuedEntries l i)
      (judged : r.allocate i l n s.timebase.tickCount = (r', .refused why)) : gives why r' :=
    execAllocationRequest_gives running asked waits sent (State.allocationOverfills_of_refused judged) judged
  have gives_refused (why : AllocationRefusal) (sent : s.transit.enqueues.count (l, i) ≤ s.queuedEntries l i)
      (check : r.allocationCheck l = some why) (here : r.state ≠ .retiring) : gives why refused :=
    gives_of why refused sent ((Record.allocate_of_check check _).trans
      (congrArg (·, _) (Record.freeWhenDrained_of_not_retiring (r := r.refuse) here)))
  refine ⟨fun early => ?_, fun sent => ⟨fun retiring => ?_, fun staged => ?_, fun halted => ?_, fun live lane => ?_,
    fun live lane damaged => ?_⟩⟩
  · refine execAllocationRequest_waits running asked waits ?_
    rw [State.allocationDue, decide_eq_false (Nat.not_le_of_lt early)]
    rfl
  · refine gives_of .retired _ sent ((Record.allocate_of_check (if_pos retiring) _).trans (congrArg (·, _) ?_))
    exact if_congr (and_iff_right retiring) rfl rfl
  · exact gives_refused .notReady sent (by simp [Record.allocationCheck, staged]) (by rw [staged]; decide)
  · exact gives_refused .halted sent (by simp [Record.allocationCheck, halted]) (by rw [halted]; decide)
  · exact gives_refused .wrongLane sent (by simp only [Record.allocationCheck, live, lane]; rfl) (by rw [live]; decide)
  · refine gives_of .keyFault _ sent ?_
    have check : r.allocationCheck l = none := Record.allocationCheck_passes live lane
    have fails : r.currentPosition.keyPasses = false := beq_eq_false_iff_ne.mpr damaged
    rw [Record.allocate, check, fails]
    refine congrArg (·, _) ?_
    unfold Record.currentFault Record.refuse Record.halt
    cases hk : r.currentSlot <;> simp [refused, sl, hk, Record.setSlot, Record.currentPosition, Record.slot, Slot.damage,
      Record.loseQueued, satAdd, Config.max32]

/-! ### Grants -/

section Grants

variable {r : Record} {n t : Nat}

/-- The slot in the CURRENT position after a trigger is CURRENT exactly where no switch was made (R55, R63). -/
theorem Record.trigger_current (role : r.currentPosition.role = .current) :
    ((r.trigger t).slot r.currentSlot).role = .current ↔ (r.trigger t).currentSlot = r.currentSlot := by
  have same {q : Record} (hs : q.slot r.currentSlot = r.currentPosition) (hc : q.currentSlot = r.currentSlot) :
      (q.slot r.currentSlot).role = .current ↔ q.currentSlot = r.currentSlot := by
    rw [hs, hc]
    exact iff_of_true role rfl
  have switched {q : Record} (hs : q.slot r.currentSlot = r.currentPosition.close) (hc : q.currentSlot = !r.currentSlot) :
      (q.slot r.currentSlot).role = .current ↔ q.currentSlot = r.currentSlot := by
    rw [hs, hc]
    refine iff_of_false (fun h => ?_) (by cases r.currentSlot <;> decide)
    unfold Slot.close at h
    split at h <;> cases h
  unfold Record.trigger Record.enterLead Record.leadExpiry Record.egressSwitch
  cases r.stage with
  | steady =>
    dsimp only
    repeat' split
    all_goals first
      | exact same rfl rfl
      | exact switched (Record.slot_setSlot_self ..) rfl
      | exact same (Record.slot_setSlot_of_not ..) (Record.setSlot_currentSlot ..)
  | _ => exact same rfl rfl

/-- A grant takes the number and the queued frame, and credits n octets (R28, R29, R51). -/
theorem Record.assign_eq (r : Record) (n : Nat) : r.assign n =
    { (r.setSlot r.currentSlot { r.currentPosition with
        nextSequence := r.currentPosition.nextSequence + 1, inFlight := r.currentPosition.inFlight + 1 }) with
      queuedFrames := r.queuedFrames - 1
      lifetimeCounter := if r.config.lifetimeSource = .octets ∧ 65536 ≤ r.octetRemainder + n then
          min 4294967295 (r.lifetimeCounter + 1) else r.lifetimeCounter
      octetRemainder := match r.config.lifetimeSource with
        | .octets => if 65536 ≤ r.octetRemainder + n then r.octetRemainder + n - 65536 else r.octetRemainder + n
        | .age => r.octetRemainder } := by
  unfold Record.assign Record.credit
  cases source : r.config.lifetimeSource with
  | age => cases hk : r.currentSlot <;> simp [Record.setSlot, source]
  | octets =>
    by_cases filled : 65536 ≤ r.octetRemainder + n <;> cases hk : r.currentSlot <;>
      simp [Record.setSlot, source, filled, Config.lifeBlock, Config.max32, satAdd]

theorem Record.assign_live (live : r.state = .live) : (r.assign n).state = .live := by
  rw [Record.assign_eq]
  exact (Record.setSlot_state ..).trans live

/-- Step 5 of a grant at a LIVE record, as R30 says. -/
theorem Record.thresholds_eq (live : r.state = .live) (number : Nat) : r.thresholds number t =
    if (r.config.softThreshold ≤ number ∨ r.lifetimeReached = true) ∧ r.triggerLatch = false then r.ruleTrigger t else r := by
  rw [Record.thresholds, Record.trigger_eq_rule live]
  simp only [Bool.and_eq_true, Bool.or_eq_true, decide_eq_true_eq, Bool.not_eq_true']

/-- Exhaustion at a LIVE record (R31, R32). -/
theorem Record.exhaust_eq (live : r.state = .live) : r.exhaust t =
    if r.otherPosition.role ≠ .next then r.halt .seqExhausted
    else if r.otherPosition.checkCode = Config.checkCode r.otherPosition.key r.otherPosition.salt then r.ruleSwitch t
    else { (r.setSlot (!r.currentSlot) { r.otherPosition with role := .damaged }) with
      causes := { r.causes with keyFault := true } }.halt .seqExhausted := by
  rw [Record.exhaust, Record.switchTo_eq_rule (.inl live), ite_not, Record.usableNext]
  simp only [beq_iff_eq, Slot.keyPasses]
  have causes : (r.setSlot (!r.currentSlot) r.otherPosition.damage).causes = r.causes := Record.setSlot_causes ..
  rw [Record.nextFault, Record.raiseKeyFault, causes]
  rfl

end Grants

/-- Settles O45: the number and the credit are `Record.assign_eq`, the trigger `Record.thresholds_eq`, and the last number's
exhaustion `Record.exhaust_eq`; a full slot's request waits, and seven of the eight frames at most are in the engines. -/
theorem allocationGranted : Obligations.AllocationGranted := by
  intro s l i n running v r g k sl tick number filled counter assigned met triggered halted exhausted gives asked waits sent live
    lane good
  have check : r.allocationCheck l = none := Record.allocationCheck_passes live lane
  have passes : r.currentPosition.keyPasses = true := beq_iff_eq.mpr good
  have judged : r.allocate i l n tick = (r.grant n tick, .granted ⟨i, k, sl.keyNumber, number, g.tag, g.confidential, sl.key, sl.salt⟩) := by
    rw [Record.allocate, check, passes]
    rfl
  have assigned_eq : r.assign n = assigned := Record.assign_eq r n
  have assigned_live : assigned.state = .live := assigned_eq ▸ Record.assign_live live
  have triggered_eq : (r.assign n).thresholds number tick = triggered := by
    have hmet : (assigned.config.softThreshold ≤ number ∨ assigned.lifetimeReached = true) ↔ met = true := by
      have config : assigned.config = g := Record.setSlot_config ..
      rw [Record.lifetimeReached_iff, config]
      exact decide_eq_true_iff.symm
    have latch : assigned.triggerLatch = r.triggerLatch := Record.setSlot_triggerLatch ..
    rw [assigned_eq, Record.thresholds_eq assigned_live, latch, if_congr (and_congr_left' hmet) rfl rfl]
  have triggered_eq' : (r.assign n).thresholds r.currentPosition.nextSequence tick = triggered := triggered_eq
  have room (h : sl.inFlight < 8) : s.allocationOverfills l ⟨i, n⟩ = false := by
    rw [← Bool.not_eq_true, State.allocationOverfills_iff]
    exact fun h' => absurd h'.2.2 (Nat.not_le_of_lt h)
  have granted (h : sl.inFlight < 8) : gives (r.grant n tick) :=
    execAllocationRequest_gives running asked waits sent (room h) judged
  refine ⟨fun few notLast => ?_, fun few last current => ?_, fun full => ⟨?_, fun exact' kind => ?_⟩⟩
  · have made : r.grant n tick = triggered := by
      rw [Record.grant, Record.exhaustion, if_neg fun h => notLast h.1]
      exact triggered_eq
    exact made ▸ granted few
  · have made : r.grant n tick = if triggered.currentSlot = k then exhausted triggered else triggered := by
      have current' : assigned.currentPosition.role = .current := by
        have position : assigned.currentPosition = { sl with nextSequence := number + 1, inFlight := sl.inFlight + 1 } := by
          have slot : assigned.currentSlot = k := Record.setSlot_currentSlot ..
          rw [Record.currentPosition, slot]
          exact Record.slot_setSlot_self ..
        rw [position]
        exact current
      have slot : assigned.currentSlot = k := Record.setSlot_currentSlot ..
      have facts : triggered.state = .live ∧ ((triggered.slot k).role = .current ↔ triggered.currentSlot = k) := by
        by_cases fires : met = true ∧ r.triggerLatch = false
        · have fired : triggered = assigned.trigger tick := (if_pos fires).trans (Record.trigger_eq_rule assigned_live tick).symm
          rw [fired]
          exact ⟨Record.trigger_live assigned_live, slot ▸ Record.trigger_current current'⟩
        · have calm : triggered = assigned := if_neg fires
          rw [calm]
          exact ⟨assigned_live, iff_of_true (slot ▸ current') slot⟩
      have last' : r.currentPosition.nextSequence = Config.seqMax := last
      rw [Record.grant, triggered_eq', Record.exhaustion]
      by_cases kept : triggered.currentSlot = k
      · rw [if_pos ⟨last', facts.2.mpr kept⟩, if_pos kept, Record.exhaust_eq facts.1, Record.otherPosition, kept]
        rfl
      · rw [if_neg fun h => kept (facts.2.mp h.2), if_neg kept]
    exact made ▸ granted few
  · refine execAllocationRequest_waits running asked waits ?_
    have overfills : s.allocationOverfills l ⟨i, n⟩ = true := (State.allocationOverfills_iff ..).mpr ⟨check, passes, full⟩
    rw [State.allocationDue, overfills, Bool.not_true, Bool.and_false]
  · exact State.release_in_transit exact' (by rw [asked]; rfl) waits kind full

/-! ### Releases and abandons -/

/-- The end of a grant, as R5, R37, R65 and R73 say. -/
theorem Record.endGrant_eq (r : Record) (k : SlotNo) (t : Nat) : r.endGrant k t =
    if (r.slot k).role = .closing ∧ (r.slot k).inFlight - 1 = 0 then
      if r.stage ≠ .drainOld then r.setSlot k Slot.erased
      else if r.config.kind = .egress ∧ r.state = .live ∧ r.pendingTrigger = true then
        { (r.setSlot k Slot.erased) with stage := .steady, stageTimer := 0, pendingTrigger := false }.ruleTrigger t
      else { (r.setSlot k Slot.erased) with stage := .steady, stageTimer := 0 }
    else r.setSlot k { r.slot k with inFlight := (r.slot k).inFlight - 1 } := by
  have ended : (r.setSlot k Slot.erased).endDrain t =
      if r.config.kind = .egress ∧ r.state = .live ∧ r.pendingTrigger = true then
        { (r.setSlot k Slot.erased) with stage := .steady, stageTimer := 0, pendingTrigger := false }.ruleTrigger t
      else { (r.setSlot k Slot.erased) with stage := .steady, stageTimer := 0 } := by
    have fires_iff : ((r.setSlot k Slot.erased).config.kind = .egress ∧ (r.setSlot k Slot.erased).state = .live ∧
        (r.setSlot k Slot.erased).pendingTrigger = true) ↔
        (r.config.kind = .egress ∧ r.state = .live ∧ r.pendingTrigger = true) := by
      rw [Record.setSlot_config, Record.setSlot_state, Record.setSlot_pendingTrigger]
    by_cases fires : r.config.kind = .egress ∧ r.state = .live ∧ r.pendingTrigger = true
    · rw [if_pos fires]
      exact (if_pos (fires_iff.mpr fires)).trans (Record.trigger_eq_rule
        (r := { (r.setSlot k Slot.erased) with stage := .steady, stageTimer := 0, pendingTrigger := false })
        ((Record.setSlot_state ..).trans fires.2.1) t)
    · rw [if_neg fires]
      exact if_neg (mt fires_iff.mp fires)
  simp only [Record.endGrant, ended, ite_not]

/-- Settles O46: what ends the grant is `Record.endGrant_eq`, at the record with the counter of the outcome raised. -/
theorem releaseAndAbandon : Obligations.ReleaseAndAbandon := by
  intro s k i n outcome why running r left ended drained
  have ended_eq (counters : RecordCounters) : { r with counters := counters }.endGrant k s.timebase.tickCount =
      ended { r with counters := counters } := by
    rw [Record.endGrant_eq]
    cases k <;> rfl
  refine ⟨fun inTransit => ?_, fun inTransit => ?_⟩
  · have taken : exec (.release ⟨i, k, outcome, n⟩) s = .next (s.notify (s.takeRelease ⟨i, k, outcome, n⟩)) :=
      (State.unlessResetting_running running _).trans (if_pos inTransit)
    have made : r.release ⟨i, k, outcome, n⟩ s.timebase.tickCount =
        drained (ended { r with counters := r.counters.released ⟨i, k, outcome, n⟩ }) := by
      rw [← ended_eq]
      rfl
    rw [taken, State.takeRelease]
    exact congrArg (fun q => Host.Outcome.next (s.notify (State.setRecord _ i q))) made
  · have taken : exec (.abandon ⟨i, k, why⟩) s = .next (s.notify (s.takeAbandon ⟨i, k, why⟩)) :=
      (State.unlessResetting_running running _).trans (if_pos inTransit)
    have made : r.abandon ⟨i, k, why⟩ s.timebase.tickCount = drained (ended { r with counters := r.counters.abandoned why }) := by
      rw [← ended_eq]
      rfl
    rw [taken, State.takeAbandon]
    exact congrArg (fun q => Host.Outcome.next (s.notify (State.setRecord _ i q))) made

end Sys2Proof.Machine
end

section
/-!
PROOFS. Requests and messages at the records, ingress side: lookups (section 7.4), commits (section 7.7) and evidence (section 4.5).
-/

namespace Sys2Proof.Machine

/-! ### The turn of a lookup -/

section Lookup

variable {s u : State} {l : LaneId} {j : StoreId} {f : FrameStore} {octets : Frame} {h : EnvelopeFields} {a : LookupAnswer}

theorem execLookup_eq (running : s.port.resetting = false) (store : (s.lane l).ingress.store j = some f)
    (status : f.status = .lookup octets h none) : exec (.lookup l j) s =
      if s.lookupOverfills l h then .next s else s.takes (s.takeLookup l j f octets h) := by
  refine (State.unlessResetting_running running _).trans ?_
  simp only [store, status]

/-- A lookup that fills no slot too far is judged at its record, and its answer goes to the store. -/
theorem execLookup_gives (running : s.port.resetting = false) (store : (s.lane l).ingress.store j = some f)
    (status : f.status = .lookup octets h none) (room : s.lookupOverfills l h = false) (judged : s.judgeLookup l h = (u, a)) :
    exec (.lookup l j) s = .next (s.notify (u.giveLookup l j f octets h a)) := by
  rw [execLookup_eq running store status, room, State.takeLookup, judged]
  rfl

theorem State.lookupOverfills_of_refused {why : LookupRefusal} (judged : s.judgeLookup l h = (u, .refused why)) :
    s.lookupOverfills l h = false := by
  rw [State.lookupOverfills, judged]

end Lookup

/-! ### The judgment of a lookup -/

section Judgment

variable {s : State} {r : Record} {l : LaneId} {h : EnvelopeFields} {i : Nat}

theorem State.tagged_of_absent (absent : s.manager.tagIndex.find h.tag.toNat = none) : s.tagged h.tag = none := by
  rw [State.tagged, absent]

theorem State.tagged_of_inUse (found : s.manager.tagIndex.find h.tag.toNat = some i) (inUse : (s.record i).inUse) :
    s.tagged h.tag = some i := by
  rw [State.tagged, found]
  refine if_neg ?_
  rcases inUse with e | e | e <;> simp [e]

theorem State.judgeLookup_of_tagged (ht : s.tagged h.tag = some i) :
    s.judgeLookup l h = (s.setRecord i ((s.record i).lookup i l h).1, ((s.record i).lookup i l h).2) := by
  rw [State.judgeLookup, ht]

/-- The roles under which a record's slot may take a lookup (R117). -/
theorem Record.eligible_iff (r : Record) (role : Role) : r.eligible role = true ↔
    (r.state = .live ∧ (role = .current ∨ (r.stage = .armed ∧ role = .next) ∨ (r.stage = .overlap ∧ role = .old)))
      ∨ (r.state = .halted ∧ role = .next) := by
  unfold Record.eligible
  cases r.state with
  | free | staged | retiring => simp
  | halted => cases role <;> simp
  | live => cases role <;> cases r.stage <;> simp

/-- A slot that a key number selects, if no other does. -/
def Record.offersKey (r : Record) (keyNumber : BitVec 2) (k : SlotNo) : Prop :=
  (r.slot k).keyNumber = keyNumber ∧ r.eligible (r.slot k).role = true

theorem Record.selectSlot_eq_none {n : BitVec 2} (none_ : ∀ k, ¬ r.offersKey n k) : r.selectSlot n = none := by
  unfold Record.selectSlot
  exact (if_neg (none_ false)).trans (if_neg (none_ true))

theorem Record.selectSlot_eq_some {n : BitVec 2} {k : SlotNo} (this : r.offersKey n k) (other : ¬ r.offersKey n (!k)) :
    r.selectSlot n = some k := by
  unfold Record.selectSlot
  cases k with
  | false => exact if_pos this
  | true => exact (if_neg other).trans (if_pos this)

/-- The eligible slots of a lookup, with the roles written out (R117). -/
theorem Record.offersKey_iff (r : Record) (n : BitVec 2) (k : SlotNo) : r.offersKey n k ↔ (r.slot k).keyNumber = n ∧
    ((r.state = .live ∧ ((r.slot k).role = .current ∨ (r.stage = .armed ∧ (r.slot k).role = .next)
        ∨ (r.stage = .overlap ∧ (r.slot k).role = .old))) ∨ (r.state = .halted ∧ (r.slot k).role = .next)) :=
  and_congr_right' (Record.eligible_iff r _)

theorem Record.lookup_of_check {why : LookupRefusal} (hc : r.lookupCheck l h = some why) : r.lookup i l h = (r, .refused why) := by
  rw [Record.lookup, hc]

theorem Record.lookup_of_noKey (hc : r.lookupCheck l h = none) (hk : r.selectSlot h.keyNumber = none) :
    r.lookup i l h = (r.countNoKey, .refused .noKey) := by
  rw [Record.lookup, hc, hk]

theorem Record.lookup_of_slot {k : SlotNo} (hc : r.lookupCheck l h = none) (hk : r.selectSlot h.keyNumber = some k) :
    r.lookup i l h = r.lookupSlot i k h.sequence := by
  rw [Record.lookup, hc, hk]

theorem Record.lookupCheck_passes (staged : r.state ≠ .staged) (lane : r.config.laneMask.getLsbD l.val = true)
    (confidential : h.confidential = r.config.confidential) : r.lookupCheck l h = none := by
  rw [Record.lookupCheck, if_neg staged, lane, confidential]
  simp

theorem judge_eq_late {highest window s : Nat} {accepted : List Nat} (below : s ≤ highest) (low : s < max 1 (highest - window)) :
    judge highest accepted window s = .late := by
  rw [judge, if_neg (by omega), if_neg (by omega)]

theorem judge_eq_replay {highest window s : Nat} {accepted : List Nat} (below : s ≤ highest)
    (within : max 1 (highest - window) ≤ s) (again : s ∈ accepted) : judge highest accepted window s = .replay := by
  rw [judge, if_neg (by omega), if_pos within, if_pos again]

end Judgment

/-- Settles O47: each refusal is one branch of `Record.lookup` at the record that the tag leads to. -/
theorem lookupRefused : Obligations.LookupRefused := by
  intro s l j f octets h i running canonical store status v r g found gives eligible
  have gives_of (why : LookupRefusal) (u : State) (lanes : u.lanes = s.lanes) (judged : s.judgeLookup l h = (u, .refused why)) :
      gives why u := by
    have lane : u.lane l = s.lane l := State.lane_congr lanes l
    have given := execLookup_gives running store status (State.lookupOverfills_of_refused judged) judged
    rw [State.giveLookup, lane, State.setLane, lanes] at given
    exact given
  have judged_of (inUse : r.inUse) (hf : found = some i) (r' : Record) (a : LookupAnswer) (hl : r.lookup i l h = (r', a)) :
      s.judgeLookup l h = (s.setRecord i r', a) := by
    rw [State.judgeLookup_of_tagged (State.tagged_of_inUse hf inUse)]
    exact congrArg (fun p : Record × LookupAnswer => (s.setRecord i p.1, p.2)) hl
  have checked (inUse : r.inUse) (hf : found = some i) (why : LookupRefusal) (hc : r.lookupCheck l h = some why) : gives why s :=
    gives_of why s rfl ((judged_of inUse hf r _ (Record.lookup_of_check hc)).trans
      (congrArg (·, _) (State.setRecord_same canonical i)))
  refine ⟨fun absent => ?_, fun hf staged => ?_, fun hf active => ?_⟩
  · refine gives_of .unknownTag s rfl ?_
    rw [State.judgeLookup, State.tagged_of_absent absent]
  · exact checked (.inl staged) hf .notReady (if_pos staged)
  have inUse : r.inUse := .inr active
  have staged : r.state ≠ .staged := by rcases active with e | e <;> simp [e]
  refine ⟨fun lane => ?_, fun lane differs => ?_, fun lane same nobody => ?_, fun lane same k this other => ⟨fun below low => ?_,
    fun below within again => ?_⟩⟩
  · exact checked inUse hf .wrongLane ((if_neg staged).trans (if_pos lane))
  · have lane' : ¬ r.config.laneMask.getLsbD l.val = false := fun e => by rw [lane] at e; cases e
    exact checked inUse hf .badHeader ((if_neg staged).trans ((if_neg lane').trans (if_pos differs)))
  · exact gives_of .noKey _ rfl (judged_of inUse hf _ _ (Record.lookup_of_noKey (Record.lookupCheck_passes staged lane same)
      (Record.selectSlot_eq_none fun k hk => nobody k ((Record.offersKey_iff r _ k).mp hk))))
  all_goals
    have selected : r.selectSlot h.keyNumber = some k := Record.selectSlot_eq_some ((Record.offersKey_iff r _ k).mpr this)
      fun hk => other ((Record.offersKey_iff r _ _).mp hk)
    have slot : r.lookup i l h = r.lookupSlot i k h.sequence :=
      Record.lookup_of_slot (Record.lookupCheck_passes staged lane same) selected
  · refine gives_of .late _ rfl (judged_of inUse hf _ _ (slot.trans ?_))
    rw [Record.lookupSlot, judge_eq_late below low]
    rfl
  · refine gives_of .replay _ rfl (judged_of inUse hf _ _ (slot.trans ?_))
    rw [Record.lookupSlot, judge_eq_replay below within again]
    rfl

/-! ### Lookups granted, or refused on a damaged key -/

/-- A damaged key found at the slot that a lookup selected, with the lookup counted as NO_KEY (R22, R23). -/
theorem Record.lookupFault_countNoKey (r : Record) (k : SlotNo) : r.countNoKey.lookupFault k =
    { r.lookupFault k with counters := { r.counters with noKey := min 4294967295 (r.counters.noKey + 1) } } := by
  cases k <;> simp only [Record.lookupFault, Record.slot, Record.countNoKey] <;> split <;> rfl

/-- Settles O48: the checks pass and one slot is selected, whose judgment is `Record.lookupSlot`. -/
theorem lookupGranted : Obligations.LookupGranted := by
  intro s l j f octets h i k running store status found v r sl gives counted eligible lane same this other fresh
  have offers : r.offersKey h.keyNumber k := (Record.offersKey_iff r _ k).mpr this
  have active : r.state = .live ∨ r.state = .halted := this.2.imp And.left And.left
  have staged : r.state ≠ .staged := by rcases active with e | e <;> simp [e]
  have selected : r.selectSlot h.keyNumber = some k :=
    Record.selectSlot_eq_some offers fun hk => other ((Record.offersKey_iff r _ _).mp hk)
  have check : r.lookupCheck l h = none := Record.lookupCheck_passes staged lane same
  have accepts : judge sl.highest sl.accepted r.config.window h.sequence = .accept := judge_eq_accept_iff.mpr fresh
  have tagged : s.tagged h.tag = some i := State.tagged_of_inUse found (.inr active)
  have gives_of (a : LookupAnswer) (r' : Record) (room : s.lookupOverfills l h = false) (hl : r.lookup i l h = (r', a)) :
      gives a r' := by
    have judged : s.judgeLookup l h = (s.setRecord i r', a) := by
      rw [State.judgeLookup_of_tagged tagged]
      exact congrArg (fun p : Record × LookupAnswer => (s.setRecord i p.1, p.2)) hl
    have given := execLookup_gives running store status room judged
    rw [State.giveLookup, State.lane_setRecord, State.setLane] at given
    exact given
  have slot : r.lookup i l h = if sl.keyPasses then (r.gainInFlight k, .granted (r.ingressGrant i k))
      else (r.countNoKey.lookupFault k, .refused .noKey) := by
    rw [Record.lookup_of_slot check selected, Record.lookupSlot, accepts]
  have faulty (damaged : sl.checkCode ≠ Config.checkCode sl.key sl.salt) :
      gives (.refused .noKey) { r.lookupFault k with counters := { r.counters with noKey := min 4294967295 (r.counters.noKey + 1) } } := by
    have fails : sl.keyPasses = false := beq_eq_false_iff_ne.mpr damaged
    rw [fails] at slot
    have judged : s.judgeLookup l h = (s.setRecord i (r.countNoKey.lookupFault k), .refused .noKey) := by
      rw [State.judgeLookup_of_tagged tagged]
      exact congrArg (fun p : Record × LookupAnswer => (s.setRecord i p.1, p.2)) slot
    exact gives_of _ _ (State.lookupOverfills_of_refused judged) (slot.trans (congrArg (·, _) (Record.lookupFault_countNoKey r k)))
  refine ⟨fun good few => ?_, fun good full => ⟨?_, fun exact' kind => ?_⟩, fun damaged role => ?_, fun damaged role => ?_,
    fun damaged role => ?_⟩
  · rw [if_pos (show sl.keyPasses = true from beq_iff_eq.mpr good)] at slot
    refine gives_of _ _ ?_ slot
    rw [← Bool.not_eq_true, State.lookupOverfills_iff]
    rintro ⟨i', k', ht, -, hk, -, -, full⟩
    obtain rfl : i = i' := Option.some.inj (tagged.symm.trans ht)
    obtain rfl : k = k' := Option.some.inj (selected.symm.trans hk)
    exact absurd full (Nat.not_le_of_lt few)
  · rw [execLookup_eq running store status, if_pos]
    exact (State.lookupOverfills_iff ..).mpr ⟨i, k, tagged, check, selected, accepts, beq_iff_eq.mpr good, full⟩
  · refine State.abandon_in_transit exact' (l := l) (j := j) ?_ kind full
    rw [store]
    simp [FrameStore.holds, FrameStore.openGrant, status]
  all_goals
    have faulted := faulty damaged
    have role' : (r.slot k).role = _ := role
    simp only [Record.lookupFault, role'] at faulted
    cases k <;> exact faulted

/-! ### The turn of a commit -/

section Commit

variable {s : State} {l : LaneId} {j : StoreId} {f : FrameStore} {octets : Frame} {h : EnvelopeFields} {grant : IngressGrant}
  {plaintext : List Byte}

theorem execCommit_eq (running : s.port.resetting = false) (store : (s.lane l).ingress.store j = some f)
    (status : f.status = .committing octets h grant plaintext none) : exec (.commit l j) s =
      .next (s.notify (s.takeCommit l j f octets h grant plaintext)) := by
  refine (State.unlessResetting_running running _).trans ?_
  simp only [store, status, State.takes]

/-- A commit is judged at its record, which counts the answer and the end of the grant; the answer goes to the store. -/
theorem execCommit_gives (running : s.port.resetting = false) (store : (s.lane l).ingress.store j = some f)
    (status : f.status = .committing octets h grant plaintext none) {a : CommitAnswer} {r' : Record} {evidence : List (Nat × Nat)}
    (judged : (s.record grant.record).judgeCommit grant.slot h.sequence = a)
    (made : (s.record grant.record).commit grant.slot h.sequence (deliveredCount octets) s.timebase.tickCount = r')
    (sent : evidence = if a = .accepted ∧ ((s.record grant.record).slot grant.slot).role = .next then
      ((s.setRecord grant.record r').companionsOf grant.record).map (fun e => (grant.record, e)) else []) :
    exec (.commit l j) s = .next (s.notify ({ s with
      transit := { s.transit with evidence := s.transit.evidence ++ evidence }
      lanes := s.lanes.set l { s.lane l with ingress := { (s.lane l).ingress with
        stores := (s.lane l).ingress.stores.set j (some { f with
          status := .committing octets h grant plaintext (some a) }) } } }.setRecord grant.record r')) := by
  rw [execCommit_eq running store status]
  simp only [State.takeCommit, judged, made]
  have switches : (a == .accepted && (s.record grant.record).commitSwitches grant.slot) = true ↔
      a = .accepted ∧ ((s.record grant.record).slot grant.slot).role = .next := by
    simp only [Bool.and_eq_true, beq_iff_eq, Record.commitSwitches]
  by_cases sends : a = .accepted ∧ ((s.record grant.record).slot grant.slot).role = .next
  · rw [if_pos sends] at sent
    rw [switches.mpr sends, sent]
    rfl
  · rw [if_neg sends] at sent
    rw [Bool.eq_false_iff.mpr (mt switches.mp sends), sent, List.append_nil]
    rfl

end Commit

section GrantEnds

variable {r : Record} {k : SlotNo} {t : Nat}

/-- What the end of a grant leaves where it fires no pending trigger (R5, R73). -/
def Record.grantEnded (r : Record) (k : SlotNo) : Record :=
  if (r.slot k).role = .closing ∧ (r.slot k).inFlight - 1 = 0 then
    if r.stage = .drainOld then { (r.setSlot k Slot.erased) with stage := .steady, stageTimer := 0 }
    else r.setSlot k Slot.erased
  else r.setSlot k { r.slot k with inFlight := (r.slot k).inFlight - 1 }

theorem Record.endGrant_of_calm (calm : (r.slot k).role = .closing → ¬ (r.config.kind = .egress ∧ r.state = .live)) :
    r.endGrant k t = r.grantEnded k := by
  rw [Record.endGrant_eq, Record.grantEnded]
  by_cases empties : (r.slot k).role = .closing ∧ (r.slot k).inFlight - 1 = 0
  · have idle : ¬ (r.config.kind = .egress ∧ r.state = .live ∧ r.pendingTrigger = true) := fun h => calm empties.1 ⟨h.1, h.2.1⟩
    rw [if_pos empties, if_pos empties, if_neg idle, ite_not]
  · rw [if_neg empties, if_neg empties]

theorem Record.grantEnded_counters (c : RecordCounters) :
    { r with counters := c }.grantEnded k = { r.grantEnded k with counters := c } := by
  cases k <;> simp only [Record.grantEnded, Record.slot, Record.setSlot, Bool.false_eq_true, if_false, if_true] <;>
    split <;> [split; skip; split; skip] <;> rfl

theorem Record.grantEnded_state : (r.grantEnded k).state = r.state := by
  rw [Record.grantEnded]
  repeat' split
  all_goals exact Record.setSlot_state ..

end GrantEnds

/-- Settles O49: a refused commit counts its refusal, and the frame's grant ends. -/
theorem commitRefused : Obligations.CommitRefused := by
  intro s l j f octets h grant plaintext running store status v k r sl ended gives above inWindow
  have gives_of (a : CommitAnswer) (r' : Record) (refused : a ≠ .accepted) (judged : r.judgeCommit k h.sequence = a)
      (made : r.commit k h.sequence (deliveredCount octets) s.timebase.tickCount = r') : gives a r' := by
    have given := execCommit_gives running store status (evidence := []) judged made (if_neg fun h => refused h.1).symm
    rw [List.append_nil] at given
    exact given
  have counted (a : CommitAnswer) (c : RecordCounters) (here : r.state ≠ .retiring) (refused : a ≠ .accepted)
      (calm : sl.role = .closing → ¬ (r.config.kind = .egress ∧ r.state = .live)) (judged : r.judgeCommit k h.sequence = a)
      (counts : r.answerCommit a k h.sequence (deliveredCount octets) s.timebase.tickCount = { r with counters := c }) :
      gives a { ended with counters := c } := by
    refine gives_of a _ refused judged ?_
    rw [Record.commit, judged, counts, Record.endGrant_of_calm, Record.grantEnded_counters, Record.freeWhenDrained_of_not_retiring]
    · rfl
    · exact fun e => here (Record.grantEnded_state.symm.trans e)
    · cases hk : k <;> simp only [sl, hk] at calm <;> exact calm
  have closing_calm (hk : sl.role = .closing → r.config.kind = .ingress) :
      sl.role = .closing → ¬ (r.config.kind = .egress ∧ r.state = .live) := fun closing egress =>
    absurd ((hk closing).symm.trans egress.1) (by decide)
  refine ⟨fun retiring => ?_, fun here damaged => ?_, fun here intact kind below low => ?_,
    fun here intact kind below within again => ?_⟩
  · have judged : r.judgeCommit k h.sequence = .retired := if_pos retiring
    refine gives_of .retired _ (by decide) judged ?_
    rw [Record.commit, judged]
    have ends : r.endGrant k s.timebase.tickCount = ended :=
      Record.endGrant_of_calm fun _ h => by rw [retiring] at h; exact absurd h.2 (by decide)
    have state : ended.state = .retiring := (Record.grantEnded_state (r := r) (k := k)).trans retiring
    exact (congrArg Record.freeWhenDrained ends).trans (if_congr (and_iff_right state) rfl rfl)
  · exact counted .noKey _ here (by decide) (fun e => absurd (damaged.symm.trans e) (by decide))
      ((if_neg here).trans (if_pos damaged)) rfl
  · refine counted .late _ here (by decide) (closing_calm kind) ?_ rfl
    rw [Record.judgeCommit, if_neg here, if_neg intact, judge_eq_late (Nat.le_of_not_lt below) (Nat.lt_of_not_le low)]
  · refine counted .replay _ here (by decide) (closing_calm kind) ?_ rfl
    rw [Record.judgeCommit, if_neg here, if_neg intact, judge_eq_replay (Nat.le_of_not_lt below) within again]

/-! ### Commits accepted -/

section Accepted

variable {r : Record} {k : SlotNo} {n t number : Nat}

/-- The octets of an accepted frame credited at a record: under source OCTETS, with STALE_KEY where the credit meets the lifetime
(R51, R53). -/
def Record.creditFrame (r : Record) (n : Nat) : Record :=
  match r.config.lifetimeSource with
  | .age => r
  | .octets =>
    let filled := r.octetRemainder + n
    let counter := if 65536 ≤ filled then min 4294967295 (r.lifetimeCounter + 1) else r.lifetimeCounter
    let credit := { r with lifetimeCounter := counter, octetRemainder := if 65536 ≤ filled then filled - 65536 else filled }
    if r.config.lifetimeValue ≠ 0 ∧ r.config.lifetimeValue ≤ counter ∧ r.staleMark = false then
      { credit with staleMark := true, causes := { r.causes with staleKey := true } }
    else credit

theorem Record.commitCredit_of_current (live : r.state = .live) (role : (r.slot k).role = .current) :
    r.commitCredit k n = r.creditFrame n := by
  rw [Record.commitCredit, if_pos ⟨live, role⟩, Record.creditFrame]
  cases source : r.config.lifetimeSource with
  | age => rfl
  | octets =>
    by_cases filled : 65536 ≤ r.octetRemainder + n <;>
      simp [Record.credit, source, filled, Record.staleCheck, Record.lifetimeReached, Config.lifeBlock, Config.max32, satAdd,
        and_assoc]

theorem Record.commitCredit_of_not_current (role : (r.slot k).role ≠ .current) : r.commitCredit k n = r :=
  if_neg fun h => role h.2

theorem Record.creditFrame_setSlot (sl : Slot) : (r.setSlot k sl).creditFrame n = (r.creditFrame n).setSlot k sl := by
  unfold Record.creditFrame
  rw [Record.setSlot_config]
  cases r.config.lifetimeSource with
  | age => rfl
  | octets =>
    simp only [Record.setSlot_octetRemainder, Record.setSlot_lifetimeCounter, Record.setSlot_staleMark]
    split_ifs <;> cases k <;> rfl

theorem Record.creditFrame_slot : (r.creditFrame n).slot k = r.slot k := by
  unfold Record.creditFrame
  cases r.config.lifetimeSource with
  | age => rfl
  | octets =>
    dsimp only
    split_ifs <;> rfl

theorem Record.creditFrame_state : (r.creditFrame n).state = r.state := by
  unfold Record.creditFrame
  cases r.config.lifetimeSource with
  | age => rfl
  | octets =>
    dsimp only
    split_ifs <;> rfl

theorem Record.creditFrame_config : (r.creditFrame n).config = r.config := by
  unfold Record.creditFrame
  cases r.config.lifetimeSource with
  | age => rfl
  | octets =>
    dsimp only
    split_ifs <;> rfl

theorem Record.creditFrame_counters : (r.creditFrame n).counters = r.counters := by
  unfold Record.creditFrame
  cases r.config.lifetimeSource with
  | age => rfl
  | octets =>
    dsimp only
    split_ifs <;> rfl

/-- The end of a grant under a slot that is not CLOSING takes one frame from it. -/
theorem Record.endGrant_of_open (role : (r.slot k).role ≠ .closing) :
    r.endGrant k t = r.setSlot k { r.slot k with inFlight := (r.slot k).inFlight - 1 } := by
  rw [Record.endGrant_eq, if_neg fun h => role h.1]

theorem Record.setSlot_counters_comm (sl : Slot) (c : RecordCounters) :
    { r with counters := c }.setSlot k sl = { r.setSlot k sl with counters := c } := by
  cases k <;> rfl

theorem Slot.accept_role (sl : Slot) (window s : Nat) : (sl.accept window s).role = sl.role := by
  unfold Slot.accept
  split <;> rfl

theorem Slot.accept_inFlight (sl : Slot) (window s : Nat) : (sl.accept window s).inFlight = sl.inFlight := by
  unfold Slot.accept
  split <;> rfl

/-- The slot of an accepted frame whose grant has ended (R119, R122). -/
def Slot.committed (sl : Slot) (window s : Nat) : Slot := { sl.accept window s with inFlight := sl.inFlight - 1 }

/-- An accepted frame enters the window, and takes its grant from the slot (R119). -/
theorem Slot.committed_windowed (sl : Slot) (window s : Nat) :
    (sl.committed window s).highest = max sl.highest s ∧
    (∀ x, x ∈ (sl.committed window s).accepted ↔ (x = s ∨ x ∈ sl.accepted) ∧ (sl.highest < s → s - window ≤ x)) ∧
    sl.committed window s = { sl with
      highest := (sl.committed window s).highest
      accepted := (sl.committed window s).accepted
      inFlight := sl.inFlight - 1 } := by
  refine ⟨Slot.accept_highest, fun x => Slot.mem_accept_accepted, ?_⟩
  unfold Slot.committed Slot.accept
  split <;> rfl

theorem Record.judgeCommit_accepted (here : r.state ≠ .retiring) (intact : (r.slot k).role ≠ .damaged)
    (accepts : judge (r.slot k).highest (r.slot k).accepted r.config.window number = .accept) :
    r.judgeCommit k number = .accepted := by
  rw [Record.judgeCommit, if_neg here, if_neg intact, accepts]

/-- An accepted commit at a slot that is not NEXT makes no switch (R122). -/
theorem Record.acceptCommit_of_not_next (role : (r.slot k).role ≠ .next) : r.acceptCommit k number n t =
    { (r.setSlot k ((r.slot k).accept r.config.window number)).commitCredit k n with
      counters := ((r.setSlot k ((r.slot k).accept r.config.window number)).commitCredit k n).counters.acceptedFrame n } := by
  have stays : r.commitSwitches k = false := beq_eq_false_iff_ne.mpr role
  rw [Record.acceptCommit, stays]
  rfl

/-- An accepted commit under the CURRENT slot of a LIVE record (R122). -/
theorem Record.commit_current (live : r.state = .live) (role : (r.slot k).role = .current)
    (judged : r.judgeCommit k number = .accepted) : r.commit k number n t =
      { (r.setSlot k ((r.slot k).committed r.config.window number)).creditFrame n with
        counters := r.counters.acceptedFrame n } := by
  set acc := (r.slot k).accept r.config.window number with hacc
  have role' : acc.role = .current := (Slot.accept_role ..).trans role
  have slot : (r.setSlot k acc).slot k = acc := Record.slot_setSlot_self ..
  have credited : (r.setSlot k acc).commitCredit k n = (r.creditFrame n).setSlot k acc := by
    rw [Record.commitCredit_of_current ((Record.setSlot_state ..).trans live) (by rw [slot, role']), Record.creditFrame_setSlot]
  have counters : ((r.creditFrame n).setSlot k acc).counters = r.counters :=
    (Record.setSlot_counters ..).trans Record.creditFrame_counters
  rw [Record.commit, judged, Record.answerCommit, Record.acceptCommit_of_not_next (by rw [role]; decide), ← hacc, credited, counters,
    ← Record.setSlot_counters_comm, Record.endGrant_of_open (by rw [Record.slot_setSlot_self, role']; decide),
    Record.slot_setSlot_self, Record.setSlot_setSlot, Record.setSlot_counters_comm, Record.freeWhenDrained_of_not_retiring,
    Record.creditFrame_setSlot, hacc, Slot.accept_inFlight]
  · rfl
  · intro e
    have state := (Record.setSlot_state (r.creditFrame n) k { acc with inFlight := acc.inFlight - 1 }).symm.trans e
    rw [Record.creditFrame_state, live] at state
    cases state

/-- An accepted commit under a slot that is neither NEXT nor CURRENT, before its grant ends (R122). -/
theorem Record.commit_uncredited (here : r.state ≠ .retiring) (next : (r.slot k).role ≠ .next) (current : (r.slot k).role ≠ .current)
    (calm : (r.slot k).role = .closing → ¬ (r.config.kind = .egress ∧ r.state = .live)) (judged : r.judgeCommit k number = .accepted) :
    r.commit k number n t = { (r.setSlot k ((r.slot k).accept r.config.window number)).grantEnded k with
      counters := r.counters.acceptedFrame n } := by
  set acc := (r.slot k).accept r.config.window number with hacc
  have role : acc.role = (r.slot k).role := Slot.accept_role ..
  have slot : (r.setSlot k acc).slot k = acc := Record.slot_setSlot_self ..
  have counters : (r.setSlot k acc).counters = r.counters := Record.setSlot_counters ..
  have config : (r.setSlot k acc).config = r.config := Record.setSlot_config ..
  have state : (r.setSlot k acc).state = r.state := Record.setSlot_state ..
  rw [Record.commit, judged, Record.answerCommit, Record.acceptCommit_of_not_next next, ← hacc,
    Record.commitCredit_of_not_current (by rw [slot, role]; exact current), counters, Record.endGrant_of_calm,
    Record.grantEnded_counters, Record.freeWhenDrained_of_not_retiring]
  · rw [show ({ (r.setSlot k acc).grantEnded k with counters := r.counters.acceptedFrame n } : Record).state =
      ((r.setSlot k acc).grantEnded k).state from rfl, Record.grantEnded_state, state]
    exact here
  · intro closing
    have closing' : ((r.setSlot k acc).slot k).role = .closing := by cases k <;> exact closing
    rw [slot, role] at closing'
    rw [config, state]
    exact calm closing'

/-- The record after an accepted commit under a slot that keeps its role, or that its last frame leaves CLOSING no more. -/
theorem Record.grantEnded_accepted (W : Nat) : (r.setSlot k ((r.slot k).accept W number)).grantEnded k =
    if (r.slot k).role = .closing ∧ (r.slot k).inFlight - 1 = 0 then
      if r.stage = .drainOld then { (r.setSlot k Slot.erased) with stage := .steady, stageTimer := 0 }
      else r.setSlot k Slot.erased
    else r.setSlot k ((r.slot k).committed W number) := by
  rw [Record.grantEnded, Record.slot_setSlot_self, Slot.accept_role, Slot.accept_inFlight, Record.setSlot_stage,
    Record.setSlot_setSlot, Record.setSlot_setSlot]
  rfl

/-- The record of an ingress switch that an accepted frame makes, `sl` being the slot that it makes CURRENT (R70, R122). -/
def Record.acceptedSwitch (r : Record) (k : SlotNo) (sl : Slot) (number t : Nat) : Record :=
  let old := r.slot (!k)
  let keeps : Bool := decide (old.role ≠ .damaged ∧ r.config.overlap ≠ 0)
  { ((r.setSlot k { sl with role := .current }).setSlot (!k)
      (if keeps then { old with role := .old } else if old.inFlight = 0 then Slot.erased else { old with role := .closing })) with
    currentSlot := k, switchCapture := number, switchTick := t % 2 ^ 32, lifetimeCounter := 0
    octetRemainder := 0, staleMark := false, stageTimer := 0, switchCount := min 65535 (r.switchCount + 1)
    causes := { r.causes with switched := true }
    stage := if keeps then .overlap else if old.inFlight = 0 then .steady else .drainOld
    state := .live, haltReason := if r.state = .halted then .none else r.haltReason }

theorem Record.ingressSwitch_accepted (active : r.state = .live ∨ r.state = .halted) (hk : r.currentSlot = !k) (acc : Slot) :
    (r.setSlot k acc).ingressSwitch number t = r.acceptedSwitch k acc number t := by
  have active' : (r.setSlot k acc).state = .live ∨ (r.setSlot k acc).state = .halted := by
    rw [Record.setSlot_state]
    exact active
  rw [Record.ingressSwitch_eq active' number, Record.acceptedSwitch]
  cases k <;> simp [Record.setSlot, Record.slot, hk] at *

theorem Record.acceptedSwitch_slot (sl : Slot) : (r.acceptedSwitch k sl number t).slot k = { sl with role := .current } := by
  cases k <;> rfl

theorem Record.acceptedSwitch_setSlot (sl sl' : Slot) : (r.acceptedSwitch k sl number t).setSlot k { sl' with role := .current } =
    r.acceptedSwitch k sl' number t := by
  cases k <;> rfl

theorem Record.acceptedSwitch_counters (sl : Slot) : (r.acceptedSwitch k sl number t).counters = r.counters := by
  cases k <;> rfl

theorem Record.acceptedSwitch_config (sl : Slot) : (r.acceptedSwitch k sl number t).config = r.config := by
  cases k <;> rfl

/-- An accepted commit under NEXT: the ingress switch is made with the frame's number, and the octets are credited (R122). -/
theorem Record.commit_next (active : r.state = .live ∨ r.state = .halted) (role : (r.slot k).role = .next)
    (hk : r.currentSlot = !k) (judged : r.judgeCommit k number = .accepted) : r.commit k number n t =
      { (r.acceptedSwitch k ((r.slot k).committed r.config.window number) number t).creditFrame n with
        counters := r.counters.acceptedFrame n } := by
  set acc := (r.slot k).accept r.config.window number with hacc
  have switches : r.commitSwitches k = true := beq_iff_eq.mpr role
  have slot : (r.acceptedSwitch k acc number t).slot k = { acc with role := .current } := Record.acceptedSwitch_slot acc
  have made : r.acceptCommit k number n t = { (r.acceptedSwitch k acc number t).creditFrame n with
      counters := r.counters.acceptedFrame n } := by
    rw [Record.acceptCommit, switches, if_pos rfl, Record.ingressSwitch_accepted active hk,
      Record.commitCredit_of_current (r := r.acceptedSwitch k acc number t) rfl (by rw [slot]), Record.creditFrame_counters,
      Record.acceptedSwitch_counters]
  have slot' : ({ (r.acceptedSwitch k acc number t).creditFrame n with counters := r.counters.acceptedFrame n } : Record).slot k =
      { acc with role := .current } := by
    have kept : ((r.acceptedSwitch k acc number t).creditFrame n).slot k = _ := Record.creditFrame_slot.trans slot
    rw [← kept]
    cases k <;> rfl
  have ended : r.acceptedSwitch k ((r.slot k).committed r.config.window number) number t =
      (r.acceptedSwitch k acc number t).setSlot k { acc with role := .current, inFlight := acc.inFlight - 1 } := by
    rw [hacc, Slot.accept_inFlight]
    exact (Record.acceptedSwitch_setSlot ((r.slot k).accept r.config.window number) _).symm
  rw [Record.commit, judged, Record.answerCommit, made, Record.endGrant_of_open (by rw [slot']; exact nofun), slot',
    Record.setSlot_counters_comm, ← Record.creditFrame_setSlot, ended, Record.freeWhenDrained_of_not_retiring]
  rw [Record.creditFrame_setSlot]
  intro e
  have state := (Record.setSlot_state _ k _).symm.trans e
  rw [Record.creditFrame_state] at state
  cases state

theorem KeyedList.filter_insert_of_not {α : Type} {p : Nat × α → Bool} {i : Nat} {v : α} (hv : p (i, v) = false) :
    ∀ {m : KeyedList α}, (∀ w, m.find i = some w → p (i, w) = false) → (m.insert i v).filter p = m.filter p
  | [], _ => by simp [KeyedList.insert, hv]
  | (a, b) :: m, h => by
    unfold KeyedList.insert
    split
    · simp [hv]
    · split
      next e =>
        subst e
        have hb : p (i, b) = false := h b (by simp [KeyedList.find])
        simp [hv, hb]
      next ne =>
        have ih := KeyedList.filter_insert_of_not hv (m := m) fun w hw => h w (by
          rw [KeyedList.find, if_neg (Ne.symm ne)]
          exact hw)
        rw [List.filter_cons, List.filter_cons, ih]

/-- An INGRESS record that stays one changes nothing about who names it. -/
theorem State.companionsOf_setRecord {s : State} {i : Nat} {r' : Record} (j : Nat) (kind : (s.record i).config.kind = .ingress)
    (kind' : r'.config.kind = .ingress) (free : r'.state ≠ .free) : (s.setRecord i r').companionsOf j = s.companionsOf j := by
  have records : (s.setRecord i r').manager.records = s.manager.records.insert i r' := if_neg free
  rw [State.companionsOf, State.companionsOf, records]
  refine congrArg (List.map Prod.fst) (KeyedList.filter_insert_of_not ?_ fun w hw => ?_)
  · simp [kind']
  · have here : s.record i = w := by rw [State.record, hw]; rfl
    rw [here] at kind
    simp [kind]

end Accepted

/-- Settles O50: one lemma for the record under each role, and no evidence but under NEXT. -/
theorem commitAccepted : Obligations.CommitAccepted := by
  intro s l j f octets h grant plaintext running store status v i k r sl old n counted windowed credited keeps named gives fresh
  have accepts : judge sl.highest sl.accepted r.config.window h.sequence = .accept := judge_eq_accept_iff.mpr fresh
  have judged (here : r.state ≠ .retiring) (intact : sl.role ≠ .damaged) : r.judgeCommit k h.sequence = .accepted :=
    Record.judgeCommit_accepted here intact accepts
  have window : windowed (sl.committed r.config.window h.sequence) := Slot.committed_windowed ..
  have quiet (r' : Record) (next : sl.role ≠ .next) (ok : r.judgeCommit k h.sequence = .accepted)
      (made : r.commit k h.sequence n s.timebase.tickCount = r') : gives r' [] :=
    execCommit_gives running store status ok made (if_neg fun h => next h.2).symm
  refine ⟨fun live role => ⟨_, window, ?_⟩, fun here role => ⟨_, window, ?_⟩, fun here kind role => ⟨_, window, ?_⟩,
    fun active kind role hk => ⟨_, window, ?_⟩⟩
  · have ok := judged (by rw [live]; decide) (by rw [role]; decide)
    exact quiet _ (by rw [role]; decide) ok (Record.commit_current live role ok)
  · have role' : (r.slot k).role = .old := role
    have ok := judged here (by rw [role]; decide)
    have made := Record.commit_uncredited (n := n) (t := s.timebase.tickCount) here (by rw [role']; decide) (by rw [role']; decide)
      (fun e => absurd (role.symm.trans e) (by decide)) ok
    rw [Record.grantEnded_accepted, if_neg fun h => absurd (role'.symm.trans h.1) (by decide)] at made
    exact quiet _ (by rw [role]; decide) ok made
  · have role' : (r.slot k).role = .closing := role
    have ok := judged here (by rw [role]; decide)
    have made := Record.commit_uncredited (n := n) (t := s.timebase.tickCount) here (by rw [role']; decide) (by rw [role']; decide)
      (fun _ e => absurd (kind.symm.trans e.1) (by decide)) ok
    have last : ((r.slot k).role = .closing ∧ (r.slot k).inFlight - 1 = 0) ↔ ¬ 1 < sl.inFlight := by
      rw [role', Nat.not_lt, Nat.sub_eq_zero_iff_le]
      exact and_iff_right rfl
    rw [Record.grantEnded_accepted, if_congr last rfl rfl, ite_not] at made
    exact quiet _ (by rw [role]; decide) ok made
  · have ok := judged (by rcases active with e | e <;> rw [e] <;> decide) (by rw [role]; decide)
    have made := Record.commit_next (n := n) (t := s.timebase.tickCount) active role hk ok
    set switched := (r.acceptedSwitch k ((r.slot k).committed r.config.window h.sequence) h.sequence s.timebase.tickCount).creditFrame n
      with switched_def
    have state : switched.state ≠ .free := by
      rw [switched_def, Record.creditFrame_state]
      exact nofun
    have kind' : switched.config.kind = .ingress := by
      rw [switched_def, Record.creditFrame_config, Record.acceptedSwitch_config]
      exact kind
    have same : (s.setRecord i { switched with counters := r.counters.acceptedFrame n }).companionsOf i = s.companionsOf i :=
      State.companionsOf_setRecord i kind kind' state
    exact execCommit_gives running store status ok made
      ((congrArg (List.map fun e => (i, e)) same.symm).trans (if_pos ⟨rfl, role⟩).symm)

/-! ### Evidence arrivals -/

/-- The records that take evidence (R61). -/
theorem Record.takesEvidence_iff (r : Record) (sender : Nat) : r.takesEvidence sender = true ↔
    r.config.kind = .egress ∧ r.inUse ∧ r.config.companion = some sender := by
  simp only [Record.takesEvidence, Record.inUse, Bool.and_eq_true, Bool.or_eq_true, beq_iff_eq, or_assoc, and_assoc]

/-- Settles O51: the switch that the evidence calls for is `Record.egressSwitch_eq_rule`, at the record with its flag set. -/
theorem evidenceArrival : Obligations.EvidenceArrival := by
  intro s sender i running inTransit r k old new taken gives takes
  have gives_of (r' : Record) (made : r.evidenceArrives sender s.timebase.tickCount = r') : gives (taken.setRecord i r') := by
    have turn : exec (.evidenceArrival sender i) s = .next (s.notify (s.takeEvidence sender i)) :=
      (State.unlessResetting_running running _).trans (if_pos inTransit)
    rw [State.takeEvidence] at turn
    exact made ▸ turn
  have flagged (h : takes) (r' : Record)
      (made : (if r.state = .live ∧ r.stage = .awaitEvidence then { r with evidence := true }.egressSwitch s.timebase.tickCount
        else { r with evidence := true }) = r') : gives (taken.setRecord i r') :=
    gives_of r' (by rw [Record.evidenceArrives, if_pos ((Record.takesEvidence_iff r sender).mpr h)]; exact made)
  have called (h : takes) (live : r.state = .live) (waits : r.stage = .awaitEvidence) (r' : Record)
      (made : { r with evidence := true }.ruleCall s.timebase.tickCount = r') : gives (taken.setRecord i r') := by
    refine flagged h r' ((if_pos ⟨live, waits⟩).trans ?_)
    rw [Record.egressSwitch_eq_rule (r := { r with evidence := true }) (.inl live), made]
  have slot (j : SlotNo) : ({ r with evidence := true } : Record).slot j = r.slot j := by cases j <;> rfl
  refine ⟨fun canonical no => ?_, fun h calm => ?_, fun h live waits none_ => ?_, fun h live waits next faulty => ?_,
    fun h live waits next good => ?_⟩
  · have stays := gives_of r (by
      rw [Record.evidenceArrives, if_neg (mt (Record.takesEvidence_iff r sender).mp no)])
    have same : taken.setRecord i r = taken := State.setRecord_same (s := taken) canonical i
    rwa [same] at stays
  · exact flagged h _ (if_neg calm)
  · refine called h live waits _ ?_
    unfold Record.ruleCall
    rw [slot]
    exact if_pos none_
  · refine called h live waits _ ?_
    unfold Record.ruleCall
    rw [slot]
    refine (if_neg (not_not.mpr next)).trans ((if_neg faulty).trans ?_)
    cases hk : r.currentSlot <;> simp [k, new, hk, Record.setSlot]
  · refine called h live waits _ ?_
    unfold Record.ruleCall
    rw [slot]
    refine (if_neg (not_not.mpr next)).trans ((if_pos good).trans ?_)
    unfold Record.ruleSwitch
    cases hk : r.currentSlot <;> simp [k, old, new, hk, Record.setSlot, Record.slot, live]

end Sys2Proof.Machine
end

section
/-!
PROOFS. Ticks (chapter 3): the Timebase's tick, the tick that a record takes, and what its comparisons bring.
-/

namespace Sys2Proof.Machine

/-! ### The turn of a tick -/

section Turn

variable {s : State} {i : Nat} {condition : Record → Bool}

theorem State.tickDue_iff : s.tickDue i = true ↔ i < 8192 ∧ (s.manager.ticksTaken.find i).getD 0 < s.timebase.issued :=
  decide_eq_true_iff

/-- A due tick that meets its condition is counted, and taken at its record. -/
theorem State.tickWhen_taken (running : s.port.resetting = false) (hi : i < 8192)
    (due : (s.manager.ticksTaken.find i).getD 0 < s.timebase.issued) (met : condition (s.record i) = true) {r' : Record}
    (made : (s.record i).tick s.timebase.tickCount = r') : s.tickWhen i condition =
      .next (s.notify ({ s with manager := { s.manager with
        ticksTaken := s.manager.ticksTaken.insert i ((s.manager.ticksTaken.find i).getD 0 + 1) } }.setRecord i r')) := by
  subst made
  exact (State.unlessResetting_running running _).trans (if_pos ⟨State.tickDue_iff.mpr ⟨hi, due⟩, met⟩)

end Turn

/-! ### A tick at a LIVE record -/

section Tick

variable {r : Record} {n : Nat}

theorem Record.tick_live (live : r.state = .live) : r.tick n =
    ((r.tickThirdStep n).leadStep n).graceStep.overlapStep := if_pos live

theorem Record.tick_not_live (h : r.state ≠ .live) : r.tick n = r := if_neg h

theorem Record.leadMet_iff : r.leadMet = true ↔ r.config.kind = .egress ∧ r.stage = .lead ∧ r.config.lead ≤ r.stageTimer := by
  simp only [Record.leadMet, Bool.and_eq_true, beq_iff_eq, decide_eq_true_eq, and_assoc]

theorem Record.graceMet_iff : r.graceMet = true ↔ r.config.kind = .egress ∧
    (r.stage = .awaitKey ∨ r.stage = .lead ∨ r.stage = .awaitEvidence) ∧ r.config.grace ≠ 0 ∧ r.config.grace ≤ r.graceTimer := by
  simp only [Record.graceMet, Bool.and_eq_true, Bool.or_eq_true, beq_iff_eq, bne_iff_ne, decide_eq_true_eq, and_assoc, or_assoc]

theorem Record.overlapMet_iff : r.overlapMet = true ↔
    r.config.kind = .ingress ∧ r.stage = .overlap ∧ r.config.overlap ≤ r.stageTimer := by
  simp only [Record.overlapMet, Bool.and_eq_true, beq_iff_eq, decide_eq_true_eq, and_assoc]

theorem Record.leadStep_of_not (h : ¬ (r.config.kind = .egress ∧ r.stage = .lead ∧ r.config.lead ≤ r.stageTimer)) :
    r.leadStep n = r := if_neg (mt Record.leadMet_iff.mp h)

theorem Record.graceStep_of_not (h : ¬ (r.config.kind = .egress ∧
    (r.stage = .awaitKey ∨ r.stage = .lead ∨ r.stage = .awaitEvidence) ∧ r.config.grace ≠ 0 ∧ r.config.grace ≤ r.graceTimer)) :
    r.graceStep = r := if_neg (mt Record.graceMet_iff.mp h)

theorem Record.overlapStep_of_not (h : ¬ (r.config.kind = .ingress ∧ r.stage = .overlap ∧ r.config.overlap ≤ r.stageTimer)) :
    r.overlapStep = r := if_neg (mt Record.overlapMet_iff.mp h)

/-- The lifetime threshold does not act: it is not reached, or its latch or its mark is set (R52, R53). -/
theorem Record.lifetimeCheck_of_not_acts (h : r.lifetimeActs = false) : r.lifetimeCheck n = r := by
  unfold Record.lifetimeActs at h
  unfold Record.lifetimeCheck Record.staleCheck
  cases kind : r.config.kind <;> simp only [kind] at h ⊢ <;> exact if_neg (by rw [h]; exact Bool.false_ne_true)

theorem Record.lifetimeActs_eq_false_iff : r.lifetimeActs = false ↔ r.config.lifetimeValue = 0 ∨
    r.lifetimeCounter < r.config.lifetimeValue ∨ (r.config.kind = .egress ∧ r.triggerLatch = true) ∨
      (r.config.kind = .ingress ∧ r.staleMark = true) := by
  rw [Record.lifetimeActs, Bool.and_eq_false_iff]
  refine Iff.trans (or_congr ?_ ?_) or_assoc
  · rw [← Bool.not_eq_true, Record.lifetimeReached_iff, not_and_or, not_not, not_le]
  · cases kind : r.config.kind <;> simp

end Tick

/-- Settles O41. -/
theorem tickAndRecordTick : Obligations.TickAndRecordTick := by
  intro s i running r taken counted stageTimer graceTimer counter
  refine ⟨?_, fun notDue => ?_, fun hi due canonical still => ?_, fun hi due live calm lead grace overlap => ?_⟩
  · exact (State.unlessResetting_running running _).trans (congrArg Host.Outcome.next (State.notify_of_same rfl rfl))
  · refine (State.unlessResetting_running running _).trans (if_neg fun h => ?_)
    obtain ⟨hi, due⟩ := State.tickDue_iff.mp h.1
    rcases notDue with h' | h'
    · exact absurd due (Nat.not_lt_of_le h')
    · exact absurd hi (Nat.not_lt_of_le h')
  · have step : exec (.recordTick i) s = _ := State.tickWhen_taken (condition := fun _ => true) running hi due rfl (Record.tick_not_live still)
    have canonical' : counted.manager.Canonical := { canonical with ticks := KeyedList.sorted_insert canonical.ticks _ _ }
    have same : counted.setRecord i r = counted := State.setRecord_same canonical' i
    exact step.trans (congrArg Host.Outcome.next ((congrArg s.notify same).trans (State.notify_of_asserted_eq rfl)))
  · refine State.tickWhen_taken (condition := fun _ => true) running hi due rfl ?_
    set advanced : Record := { r with stageTimer := stageTimer, graceTimer := graceTimer, lifetimeCounter := counter }
    have third : r.tickThirdStep s.timebase.tickCount = advanced :=
      Record.lifetimeCheck_of_not_acts (r := advanced) (Record.lifetimeActs_eq_false_iff.mpr calm)
    have tick := Record.tick_live (n := s.timebase.tickCount) live
    rw [third, Record.leadStep_of_not, Record.graceStep_of_not, Record.overlapStep_of_not] at tick
    · exact tick
    · exact fun h => absurd (overlap h.1 h.2.1) (Nat.not_lt_of_le h.2.2)
    · rintro ⟨kind, waits, some_, met⟩
      rcases grace kind waits with h | h
      · exact some_ h
      · exact absurd met (Nat.not_le_of_lt h)
    · exact fun h => absurd (lead h.1 h.2.1) (Nat.not_lt_of_le h.2.2)

/-! ### What a due tick brings -/

section Expiries

variable {r : Record} {n : Nat}

theorem Record.leadStep_of_met (kind : r.config.kind = .egress) (stage : r.stage = .lead) (met : r.config.lead ≤ r.stageTimer) :
    r.leadStep n = r.leadExpiry n := if_pos (Record.leadMet_iff.mpr ⟨kind, stage, met⟩)

theorem Record.leadStep_of_ingress (kind : r.config.kind = .ingress) : r.leadStep n = r :=
  Record.leadStep_of_not fun h => absurd (kind.symm.trans h.1) (by decide)

theorem Record.graceStep_of_ingress (kind : r.config.kind = .ingress) : r.graceStep = r :=
  Record.graceStep_of_not fun h => absurd (kind.symm.trans h.1) (by decide)

theorem Record.overlapStep_of_egress (kind : r.config.kind = .egress) : r.overlapStep = r :=
  Record.overlapStep_of_not fun h => absurd (kind.symm.trans h.1) (by decide)

/-- A trigger leaves nothing for the same tick's lead and grace comparisons to act on: the timers it leaves running stand at 0, and
a lead of 0 has expired (R55, R59, R60). -/
def Record.Settled (r : Record) : Prop :=
  r.stage = .steady ∨ r.stage = .drainOld ∨ (r.graceTimer = 0 ∧
    (r.stage ≠ .lead ∨ r.stageTimer < r.config.lead ∨
      (r.usableNext = false ∧ (r.config.switchMode = .timed ∨ r.evidence = true))))

theorem Record.usableNext_nextFault (r : Record) : r.nextFault.usableNext = false := by
  cases hc : r.currentSlot <;>
    simp [Record.nextFault, Record.raiseKeyFault, Record.setSlot, Record.usableNext, Record.otherPosition, Record.slot, Slot.damage, hc]

theorem Record.settled_egressSwitch (grace : r.graceTimer = 0) (expires : r.config.switchMode = .timed ∨ r.evidence = true) :
    (r.egressSwitch n).Settled := by
  unfold Record.egressSwitch
  split
  · split
    · by_cases idle : r.currentPosition.inFlight = 0
      · exact .inl (if_pos idle)
      · exact .inr (.inl (if_neg idle))
    · have config : r.nextFault.config = r.config := Record.setSlot_config ..
      have evidence : r.nextFault.evidence = r.evidence := Record.setSlot_evidence ..
      refine .inr (.inr ⟨(Record.setSlot_graceTimer ..).trans grace, .inr (.inr ⟨Record.usableNext_nextFault r, ?_⟩)⟩)
      rw [config, evidence]
      exact expires
  next unusable => exact .inr (.inr ⟨grace, .inr (.inr ⟨Bool.eq_false_iff.mpr unusable, expires⟩)⟩)

theorem Record.settled_enterLead (grace : r.graceTimer = 0) : (r.enterLead n).Settled := by
  unfold Record.enterLead Record.leadExpiry
  split
  · split
    next expires => exact Record.settled_egressSwitch grace expires
    next => exact .inr (.inr ⟨grace, .inl nofun⟩)
  next lead => exact .inr (.inr ⟨grace, .inr (.inl (Nat.pos_of_ne_zero lead))⟩)

theorem Record.settled_trigger (stage : r.stage = .steady ∨ r.stage = .drainOld) : (r.trigger n).Settled := by
  rcases stage with steady | drain
  · simp only [Record.trigger, steady]
    split
    · exact Record.settled_enterLead rfl
    · exact .inr (.inr ⟨rfl, .inl nofun⟩)
  · simp only [Record.trigger, drain]
    exact .inr (.inl rfl)

theorem Record.leadExpiry_of_unusable (unusable : r.usableNext = false) (expires : r.config.switchMode = .timed ∨ r.evidence = true) :
    r.leadExpiry n = r := by
  rw [Record.leadExpiry, if_pos expires, Record.egressSwitch, unusable]
  rfl

theorem Record.Settled.leadStep (h : r.Settled) : r.leadStep n = r := by
  by_cases met : r.leadMet = true
  · obtain ⟨kind, stage, reached⟩ := Record.leadMet_iff.mp met
    rcases h with e | e | ⟨-, e | e | ⟨unusable, expires⟩⟩
    · rw [e] at stage; cases stage
    · rw [e] at stage; cases stage
    · exact absurd stage e
    · omega
    · rw [Record.leadStep, if_pos met, Record.leadExpiry_of_unusable unusable expires]
  · exact if_neg met

theorem Record.Settled.graceStep (h : r.Settled) : r.graceStep = r := by
  refine Record.graceStep_of_not fun ⟨_, waits, some_, met⟩ => ?_
  rcases h with e | e | ⟨zero, -⟩
  · simp [e] at waits
  · simp [e] at waits
  · omega

/-- Step 3 at an EGRESS record whose threshold is reached (R52). -/
theorem Record.tickThirdStep_triggers (kind : r.config.kind = .egress) (latch : r.triggerLatch = false)
    (reached : r.advance.lifetimeReached = true) : r.tickThirdStep n = r.advance.trigger n := by
  rw [Record.tickThirdStep, Record.lifetimeCheck_egress (r := r.advance) kind, if_pos ⟨reached, latch⟩]

/-- Step 3 at an EGRESS record whose latch is set. -/
theorem Record.tickThirdStep_latched (kind : r.config.kind = .egress) (latch : r.triggerLatch = true) :
    r.tickThirdStep n = r.advance :=
  Record.lifetimeCheck_of_not_acts (r := r.advance) (Record.lifetimeActs_eq_false_iff.mpr (.inr (.inr (.inl ⟨kind, latch⟩))))

/-- Step 3 at an INGRESS record. -/
theorem Record.tickThirdStep_ingress (kind : r.config.kind = .ingress) : r.tickThirdStep n = r.advance.staleCheck := by
  have kind' : r.advance.config.kind = .ingress := kind
  rw [Record.tickThirdStep, Record.lifetimeCheck, kind']

/-- The trigger of a lifetime threshold is all that the record's tick brings (R46, R52). -/
theorem Record.tick_triggers (live : r.state = .live) (kind : r.config.kind = .egress) (stage : r.stage = .steady ∨ r.stage = .drainOld)
    (latch : r.triggerLatch = false) (reached : r.advance.lifetimeReached = true) : r.tick n = r.advance.ruleTrigger n := by
  have settled : (r.advance.trigger n).Settled := Record.settled_trigger stage
  have kind' : (r.advance.trigger n).config.kind = .egress := by
    rw [Record.trigger_config]
    exact kind
  rw [Record.tick_live live, Record.tickThirdStep_triggers kind latch reached, settled.leadStep, settled.graceStep,
    Record.overlapStep_of_egress kind', Record.trigger_eq_rule (r := r.advance) live]

/-- What a switch called for can do (R63, R64). -/
theorem Record.ruleCall_cases (r : Record) (n : Nat) : r.ruleCall n = r ∨ r.ruleCall n = r.ruleSwitch n ∨
    r.ruleCall n = { (r.setSlot (!r.currentSlot) { r.slot (!r.currentSlot) with role := .damaged }) with
      causes := { r.causes with keyFault := true } } := by
  unfold Record.ruleCall
  dsimp only
  split
  · exact .inl rfl
  · split
    · exact .inr (.inl rfl)
    · exact .inr (.inr rfl)

/-- A lead expiry leaves the stage LEAD or AWAIT_EVIDENCE with the grace timer as it stood, or makes the switch (R60, R63). -/
theorem Record.ruleLead_stage (stage : r.stage = .lead) : (r.ruleLead n).config = r.config ∧
    ((((r.ruleLead n).stage = .lead ∨ (r.ruleLead n).stage = .awaitEvidence) ∧ (r.ruleLead n).graceTimer = r.graceTimer) ∨
      (r.ruleLead n).stage = .steady ∨ (r.ruleLead n).stage = .drainOld) := by
  unfold Record.ruleLead
  split
  swap
  · exact ⟨rfl, .inl ⟨.inr rfl, rfl⟩⟩
  rcases Record.ruleCall_cases r n with e | e | e
  · rw [e]
    exact ⟨rfl, .inl ⟨.inl stage, rfl⟩⟩
  · rw [e]
    refine ⟨by cases hc : r.currentSlot <;> simp [Record.ruleSwitch, Record.setSlot, hc], .inr ?_⟩
    by_cases idle : (r.slot r.currentSlot).inFlight = 0
    · exact .inl (if_pos idle)
    · exact .inr (if_neg idle)
  · rw [e]
    exact ⟨Record.setSlot_config .., .inl ⟨.inl ((Record.setSlot_stage ..).trans stage), Record.setSlot_graceTimer ..⟩⟩

/-- The tick at which a lead expires, with the grace expiry of the same tick after it (R46 step 4, R60, R62). -/
theorem Record.tick_lead (live : r.state = .live) (kind : r.config.kind = .egress) (stage : r.stage = .lead)
    (latch : r.triggerLatch = true) (met : r.config.lead ≤ r.advance.stageTimer) :
    r.tick n = (r.advance.ruleLead n).graceStep := by
  have config : ((r.advance.ruleLead n).graceStep).config = r.config := by
    have led : (r.advance.ruleLead n).config = r.config := (Record.ruleLead_stage (r := r.advance) (n := n) stage).1
    unfold Record.graceStep
    split <;> exact led
  rw [Record.tick_live live, Record.tickThirdStep_latched kind latch, Record.leadStep_of_met (r := r.advance) kind stage met,
    Record.leadExpiry_eq_rule (r := r.advance) live, Record.overlapStep_of_egress (by rw [config]; exact kind)]

theorem Record.graceMet_ruleLead (kind : r.config.kind = .egress) (stage : r.stage = .lead) : (r.ruleLead n).graceMet =
    (decide (r.config.grace ≠ 0 ∧ r.config.grace ≤ r.graceTimer) &&
      ((r.ruleLead n).stage == .lead || (r.ruleLead n).stage == .awaitEvidence)) := by
  rw [Bool.eq_iff_iff, Record.graceMet_iff]
  simp only [Bool.and_eq_true, Bool.or_eq_true, beq_iff_eq, decide_eq_true_eq]
  obtain ⟨config, ⟨waits, grace⟩ | gone⟩ := Record.ruleLead_stage (r := r) (n := n) stage
  · rw [config, grace]
    rcases waits with e | e <;> simp [e, kind]
  · rcases gone with e | e <;> simp [e]

/-- The tick at which the grace expires with no lead expiry (R62). -/
theorem Record.tick_grace (live : r.state = .live) (kind : r.config.kind = .egress)
    (stage : r.stage = .awaitKey ∨ r.stage = .awaitEvidence ∨ (r.stage = .lead ∧ r.advance.stageTimer < r.config.lead))
    (latch : r.triggerLatch = true) (met : r.config.grace ≠ 0 ∧ r.config.grace ≤ r.advance.graceTimer) :
    (r.tickThirdStep n).leadStep n = r.advance ∧ r.advance.graceMet = true ∧ r.tick n = r.advance.halt .graceExpired := by
  have third := Record.tickThirdStep_latched (n := n) kind latch
  have lead : r.advance.leadStep n = r.advance := Record.leadStep_of_not fun ⟨_, hs, reached⟩ => by
    have hs' : r.stage = .lead := hs
    rcases stage with e | e | e
    · rw [e] at hs'; cases hs'
    · rw [e] at hs'; cases hs'
    · exact absurd reached (Nat.not_le_of_lt e.2)
  have grace : r.advance.graceMet = true := by
    refine Record.graceMet_iff.mpr ⟨kind, ?_, met⟩
    rcases stage with e | e | e
    · exact .inl e
    · exact .inr (.inr e)
    · exact .inr (.inl e.1)
  refine ⟨by rw [third, lead], grace, ?_⟩
  rw [Record.tick_live live, third, lead, Record.graceStep, if_pos grace]
  exact Record.overlapStep_of_egress (r := r.advance.halt .graceExpired) kind

/-- The tick of an INGRESS record (R46). -/
theorem Record.tick_ingress (live : r.state = .live) (kind : r.config.kind = .ingress) : r.tick n = r.advance.staleCheck.overlapStep := by
  have kind' : r.advance.staleCheck.config.kind = .ingress := by
    unfold Record.staleCheck
    split <;> exact kind
  rw [Record.tick_live live, Record.tickThirdStep_ingress kind, Record.leadStep_of_ingress kind', Record.graceStep_of_ingress kind']

end Expiries

/-- The overlap expiry of a record's tick closes the slot beside the CURRENT one, whose STALE_KEY of the same tick stands (R72). -/
theorem Record.overlapStep_staleCheck {r : Record} (kind : r.config.kind = .ingress) (stage : r.stage = .overlap)
    (met : r.config.overlap ≤ r.stageTimer) : r.staleCheck.overlapStep = (r.endOverlap (!r.currentSlot)).staleCheck := by
  have met' : r.staleCheck.overlapMet = true := by
    unfold Record.staleCheck
    split <;> exact Record.overlapMet_iff.mpr ⟨kind, stage, met⟩
  rw [Record.overlapStep, if_pos met']
  have reached (k : SlotNo) : (r.endOverlap k).lifetimeReached = r.lifetimeReached := by cases k <;> rfl
  have mark (k : SlotNo) : (r.endOverlap k).staleMark = r.staleMark := by cases k <;> rfl
  unfold Record.staleCheck
  rw [reached, mark]
  by_cases acts : (r.lifetimeReached && !r.staleMark) = true
  · rw [if_pos acts, if_pos acts]
    dsimp only
    generalize (!r.currentSlot) = k
    cases k <;> rfl
  · rw [if_neg acts, if_neg acts]

/-- STALE_KEY, by the comparison written out (R53). -/
theorem Record.staleCheck_eq (r : Record) : r.staleCheck =
    if (r.config.lifetimeValue ≠ 0 ∧ r.config.lifetimeValue ≤ r.lifetimeCounter) ∧ r.staleMark = false then
      { r with staleMark := true, causes := { r.causes with staleKey := true } } else r := by
  refine if_congr ?_ rfl rfl
  rw [Bool.and_eq_true, Record.lifetimeReached_iff, Bool.not_eq_true']

/-- Settles O42: the record's tick is one of `Record.tick_triggers`, `tick_ingress`, `tick_lead` and `tick_grace`, and each event
named after an expiry is taken as that tick. -/
theorem tickExpiries : Obligations.TickExpiries := by
  intro s i running hi r g k new tick taken counted gives stageTimer graceTimer counter advanced latched reached graced halted stale
    ended due live
  have live' : (s.record i).state = .live := live
  have gives_tick (r' : Record) (made : r.tick tick = r') : gives (.recordTick i) r' :=
    State.tickWhen_taken (condition := fun _ => true) running hi due rfl made
  have reached_iff : r.advance.lifetimeReached = true ↔ reached = true :=
    Record.lifetimeReached_iff.trans decide_eq_true_iff.symm
  have advance_latched (kind : g.kind = .egress) (latch : r.triggerLatch = true) : r.advance = latched := by
    have kind' : r.config.kind = .egress := kind
    simp [Record.advance, kind', latch, latched, advanced, counter, stageTimer, graceTimer, g, satAdd, Config.timerMax, Config.max32]
  have advance_unlatched (h : ¬ (r.config.kind = .egress ∧ r.triggerLatch = true)) : r.advance = advanced := by
    simp only [Record.advance, if_neg h]
    rfl
  have threshold (h : r.advance.lifetimeActs = true) (r' : Record) (made : r.tick tick = r') : gives (.lifetimeThreshold i) r' := by
    refine State.tickWhen_taken (condition := Record.thresholdAtTick) running hi due ?_ made
    rw [Record.thresholdAtTick, live', beq_self_eq_true, Bool.true_and]
    exact h
  have stale_eq (q : Record) (hv : q.config = g) (hc : q.lifetimeCounter = counter) (hm : q.staleMark = r.staleMark) :
      q.staleCheck = stale q := by
    refine (Record.staleCheck_eq q).trans (if_congr ?_ rfl rfl)
    rw [hv, hc, hm]
    exact and_congr_left' decide_eq_true_iff.symm
  refine ⟨fun kind stage latch hr => ?_, fun kind mark hr noOverlap => ?_, fun kind stage latch met => ?_,
    fun kind stage latch hg => ?_, fun kind stage met => ?_⟩
  · have unlatched := advance_unlatched fun h => absurd (latch.symm.trans h.2) (by decide)
    have made : r.tick tick = advanced.ruleTrigger tick := by
      rw [← unlatched]
      exact Record.tick_triggers live kind stage latch (reached_iff.mpr hr)
    refine ⟨threshold ?_ _ made, gives_tick _ made⟩
    have kind' : r.advance.config.kind = .egress := kind
    have latch' : r.advance.triggerLatch = false := latch
    rw [Record.lifetimeActs, kind', latch', reached_iff.mpr hr]
    rfl
  · have unlatched := advance_unlatched fun h => absurd (kind.symm.trans h.1) (by decide)
    have made : r.tick tick = stale advanced := by
      rw [Record.tick_ingress live kind, unlatched, stale_eq advanced rfl rfl rfl]
      refine Record.overlapStep_of_not fun ⟨_, hs, ho⟩ => ?_
      have stage' : (stale advanced).stage = r.stage := by simp only [stale]; split <;> rfl
      have config' : (stale advanced).config = g := by simp only [stale]; split <;> rfl
      have timer' : (stale advanced).stageTimer = stageTimer := by simp only [stale]; split <;> rfl
      rw [stage'] at hs
      rw [config', timer'] at ho
      rcases noOverlap with h | h
      · exact h hs
      · exact absurd ho (Nat.not_le_of_lt h)
    refine ⟨threshold ?_ _ made, gives_tick _ made⟩
    have kind' : r.advance.config.kind = .ingress := kind
    have mark' : r.advance.staleMark = false := mark
    rw [Record.lifetimeActs, kind', mark', reached_iff.mpr hr]
    rfl
  · have advance_eq := advance_latched kind latch
    intro led late after
    have late_eq : led.graceMet = late := Record.graceMet_ruleLead (r := latched) kind stage
    have made : r.tick tick = after := by
      rw [Record.tick_lead live kind stage latch (by rw [advance_eq]; exact met), advance_eq, Record.graceStep]
      exact if_congr (by rw [late_eq]) rfl rfl
    have third : r.tickThirdStep tick = latched := (Record.tickThirdStep_latched kind latch).trans advance_eq
    have third' : (s.record i).tickThirdStep s.timebase.tickCount = latched := third
    refine ⟨?_, gives_tick _ made, fun hl => ?_⟩
    · refine State.tickWhen_taken (condition := fun r => r.leadAtTick s.timebase.tickCount) running hi due ?_ made
      rw [Record.leadAtTick, live', third', beq_self_eq_true, Bool.true_and]
      exact Record.leadMet_iff.mpr ⟨kind, stage, met⟩
    · refine State.tickWhen_taken (condition := fun r => r.graceAtTick s.timebase.tickCount) running hi due ?_ made
      rw [Record.graceAtTick, live', third', beq_self_eq_true, Bool.true_and, Record.leadStep_of_met (r := latched) kind stage met,
        Record.leadExpiry_eq_rule (r := latched) live]
      exact late_eq.trans hl
  · have advance_eq := advance_latched kind latch
    have graced' : r.config.grace ≠ 0 ∧ r.config.grace ≤ r.advance.graceTimer := by
      rw [advance_eq]
      exact decide_eq_true_iff.mp hg
    obtain ⟨steps, grace, made⟩ := Record.tick_grace (n := tick) live kind (by rw [advance_eq]; exact stage) latch graced'
    rw [advance_eq] at made
    refine ⟨?_, gives_tick _ made⟩
    refine State.tickWhen_taken (condition := fun r => r.graceAtTick s.timebase.tickCount) running hi due ?_ made
    have steps' : ((s.record i).tickThirdStep s.timebase.tickCount).leadStep s.timebase.tickCount = r.advance := steps
    rw [Record.graceAtTick, live', steps', beq_self_eq_true, Bool.true_and]
    exact grace
  · have unlatched := advance_unlatched fun h => absurd (kind.symm.trans h.1) (by decide)
    have made : r.tick tick = ended := by
      rw [Record.tick_ingress live kind, unlatched, Record.overlapStep_staleCheck (r := advanced) kind stage met]
      have closed : advanced.endOverlap (!advanced.currentSlot) =
          { (r.setSlot (!k) (if new.inFlight = 0 then Slot.erased else { new with role := .closing })) with
            lifetimeCounter := counter, stage := if new.inFlight = 0 then .steady else .drainOld, stageTimer := 0 } := by
        have slot (j : SlotNo) : advanced.slot j = r.slot j := by cases j <;> rfl
        have set_ (j : SlotNo) (sl : Slot) : advanced.setSlot j sl = { r.setSlot j sl with
            lifetimeCounter := counter, stageTimer := stageTimer } := by
          cases j <;> rfl
        rw [Record.endOverlap, slot, Slot.close, set_]
        rfl
      rw [closed]
      exact stale_eq _ (Record.setSlot_config ..) rfl (Record.setSlot_staleMark ..)
    refine ⟨?_, gives_tick _ made, fun hr mark => threshold ?_ _ made⟩
    · refine State.tickWhen_taken (condition := fun r => r.overlapAtTick s.timebase.tickCount) running hi due ?_ made
      have third : r.tickThirdStep tick = advanced.staleCheck := (Record.tickThirdStep_ingress kind).trans (by rw [unlatched])
      have third' : (s.record i).tickThirdStep s.timebase.tickCount = advanced.staleCheck := third
      rw [Record.overlapAtTick, live', third', beq_self_eq_true, Bool.true_and, Record.overlapMet_iff]
      unfold Record.staleCheck
      split <;> exact ⟨kind, stage, met⟩
    · have kind' : r.advance.config.kind = .ingress := kind
      have mark' : r.advance.staleMark = false := mark
      rw [Record.lifetimeActs, kind', mark', reached_iff.mpr hr]
      rfl

end Sys2Proof.Machine
end

section
/-!
PROOFS. The Command Port (chapter 10): what the Command Processor answers itself, the assembly of commands, and the register window.
-/

namespace Sys2Proof.Machine

/-! ### The twenty commands -/

/-- The commands with their codes and body lengths (section 11.4). -/
def commandTable : List (Nat × CommandName × Nat) := [
  (0x01, .installAssociation, 19), (0x02, .activateAssociation, 1), (0x03, .modifyAssociation, 9),
  (0x04, .retireAssociation, 1), (0x05, .readAssociation, 1), (0x06, .clearCounters, 1), (0x08, .loadNextKey, 11),
  (0x09, .rollNow, 1), (0x0A, .forceSwitch, 1), (0x10, .addFlow, 3), (0x11, .removeFlow, 3), (0x12, .readFlow, 3),
  (0x18, .setLaneMode, 1), (0x19, .configureLane, 4), (0x1A, .sampleLaneCounters, 1), (0x1B, .restartLane, 1),
  (0x20, .walkTable, 1), (0x21, .takeAttention, 0), (0x28, .configurePart, 3), (0x29, .readPart, 0)]

theorem commandTable_named : ∀ p ∈ commandTable, CommandName.ofCode p.1 = some p.2.1 ∧ p.2.1.bodyWords = p.2.2 := by
  decide

theorem mem_commandTable {n : Nat} {name : CommandName} (h : CommandName.ofCode n = some name) :
    (n, name, name.bodyWords) ∈ commandTable := by
  unfold CommandName.ofCode at h
  split at h <;> cases h <;> decide

theorem CommandName.hasKeys_iff (name : CommandName) :
    name.hasKeys = true ↔ name = .installAssociation ∨ name = .loadNextKey := by
  cases name <;> decide

/-! ### What the Command Processor answers itself -/

section Port

variable {s : State} {c : Command} {rest : List Command}

theorem State.ready_of (oldest : s.port.commands = c :: rest) (closed : c.phase = .complete ∨ c.phase = .truncated)
    (room : s.port.responses.length ≤ 192) (running : s.port.resetting = false) (flow : s.flowTurn = none)
    (walk : s.manager.walk = none) : s.ready = some c := by
  have closed' : c.closed = true := by
    unfold Command.closed
    rcases closed with e | e <;> rw [e]
  have unanswered : s.unanswered = false := by
    rw [State.unanswered, flow, walk]
    rfl
  have free : Config.responseRoom ≤ s.port.freeResponseWords := by
    simp only [Config.responseRoom, CommandPort.freeResponseWords, Config.fifoWords]
    omega
  rw [State.ready, oldest]
  exact if_pos ⟨closed', unanswered, free, running⟩

/-- A command that the Command Processor answers itself is one event. -/
theorem execCommandAnsweredByPort_answers (ready : s.ready = some c) {st : Status} (own : c.portStatus = some st) :
    ∃ t, exec .commandAnsweredByPort s = .next t ∧ s.answered s c { status := st } t := by
  refine ⟨(s.notify s.dropCommand).post (headerTag c.header) (status st), ?_, State.post_answered rfl rfl⟩
  change execCommandAnsweredByPort s = _
  rw [execCommandAnsweredByPort, ready]
  simp only [own]
  rfl

theorem Command.portStatus_truncated (h : c.phase = .truncated) : c.portStatus = some .truncated := if_pos h

theorem Command.portStatus_overflow (h : c.phase = .complete) (full : c.overflow = true) : c.portStatus = some .overflow := by
  rw [Command.portStatus, if_neg (by rw [h]; exact nofun), if_pos full]

theorem Command.portStatus_unknown (h : c.phase = .complete) (kept : c.overflow = false)
    (unknown : CommandName.ofCode (headerCode c.header) = none) : c.portStatus = some .badCommand := by
  rw [Command.portStatus, if_neg (by rw [h]; exact nofun), if_neg (by rw [kept]; exact nofun), unknown]

theorem Command.portStatus_known (h : c.phase = .complete) (kept : c.overflow = false) {name : CommandName}
    (known : CommandName.ofCode (headerCode c.header) = some name) : c.portStatus =
      if headerLength c.header ≠ name.bodyWords ∨ (name.hasKeys = false ∧ c.framing = true) then some .badFraming else none := by
  rw [Command.portStatus, if_neg (by rw [h]; exact nofun), if_neg (by rw [kept]; exact nofun), known]

end Port

/-- Settles O37: the four conditions are those of `Command.portStatus`, and the codes those of `commandTable`. -/
theorem commandAnsweredByPort : Obligations.CommandAnsweredByPort := by
  intro s c rest oldest closed room running flow walk table code length keyed answers
  have ready : s.ready = some c := State.ready_of oldest closed room running flow walk
  have answers_of (st : Status) (own : c.portStatus = some st) : answers st := execCommandAnsweredByPort_answers ready own
  have named (p : Nat × CommandName × Nat) (hp : p ∈ table) (hc : p.1 = code) :
      CommandName.ofCode (headerCode c.header) = some p.2.1 ∧ p.2.1.bodyWords = p.2.2 := by
    have entry := commandTable_named p hp
    rw [hc] at entry
    exact entry
  refine ⟨fun truncated => ?_, fun complete overflow => ?_, fun complete kept unknown => ?_, fun complete kept p hp hc bad => ?_,
    fun complete kept p hp hc hl hf => ?_, fun n offers => ?_⟩
  · exact answers_of _ (Command.portStatus_truncated truncated)
  · exact answers_of _ (Command.portStatus_overflow complete overflow)
  · refine answers_of _ (Command.portStatus_unknown complete kept ?_)
    by_contra some_
    obtain ⟨name, hn⟩ := Option.ne_none_iff_exists'.mp some_
    exact unknown (List.mem_map_of_mem (mem_commandTable hn))
  · obtain ⟨hn, hb⟩ := named p hp hc
    refine answers_of _ ((Command.portStatus_known complete kept hn).trans (if_pos (bad.imp (fun h => hb.symm ▸ h) ?_)))
    exact fun ⟨framing, unkeyed⟩ => ⟨Bool.eq_false_iff.mpr (mt (CommandName.hasKeys_iff _).mp unkeyed), framing⟩
  · obtain ⟨hn, hb⟩ := named p hp hc
    have handed : c.portStatus = none := by
      refine (Command.portStatus_known complete kept hn).trans (if_neg ?_)
      rintro (h | ⟨unkeyed, framing⟩)
      · exact h (hl.trans hb.symm)
      · exact absurd ((CommandName.hasKeys_iff _).mpr (hf framing)) (by rw [unkeyed]; decide)
    refine ⟨⟨ready, ?_⟩, ?_⟩
    · rw [Command.handedAs, handed, hn]
      simp
    · change execCommandAnsweredByPort s = _
      rw [execCommandAnsweredByPort, ready]
      simp only [handed]
  · have handed := offers.2
    rw [Command.handedAs, Bool.and_eq_true, beq_iff_eq, beq_iff_eq] at handed
    obtain ⟨own, hn⟩ := handed
    have complete : c.phase = .complete := closed.resolve_right fun e => by
      rw [Command.portStatus_truncated e] at own
      cases own
    have kept : c.overflow = false := by
      by_contra full
      rw [Command.portStatus_overflow complete (Bool.not_eq_false _ ▸ full)] at own
      cases own
    rw [Command.portStatus_known complete kept hn] at own
    split_ifs at own with passes
    obtain ⟨hl, hf⟩ := not_or.mp passes
    refine ⟨complete, kept, ?_, fun framing => ?_⟩
    · have mem := mem_commandTable hn
      rw [← not_not.mp hl] at mem
      exact mem
    · refine (CommandName.hasKeys_iff n).mp ?_
      by_contra h
      exact hf ⟨Bool.eq_false_iff.mpr h, framing⟩

/-! ### Command assembly -/

section Assembly

variable {p : CommandPort} {c : Command} {k : Nat}

theorem CommandPort.assembly_eq_some_iff :
    p.assembly = some (c, k) ↔ p.commands.getLast? = some c ∧ c.phase = .assembling k := by
  unfold CommandPort.assembly
  cases last : p.commands.getLast? with
  | none => simp
  | some d => cases phase : d.phase <;> simp <;> grind

theorem CommandPort.assembly_eq_none_iff :
    p.assembly = none ↔ ∀ d, p.commands.getLast? = some d → d.phase = .complete ∨ d.phase = .truncated := by
  unfold CommandPort.assembly
  cases last : p.commands.getLast? with
  | none => simp
  | some d => cases phase : d.phase <;> simp [phase]

theorem CommandPort.truncate_of_closed (h : p.assembly = none) : p.truncate = p := by
  rw [CommandPort.truncate, h]

theorem CommandPort.truncate_of_assembling (h : p.assembly = some (c, k)) :
    p.truncate = { p with commands := p.commands.dropLast ++ [{ c with phase := .truncated }] } := by
  rw [CommandPort.truncate, h]
  rfl

/-- A command that is closed keeps its words. -/
theorem CommandPort.commandWords_truncate (p : CommandPort) : p.truncate.commandWords = p.commandWords := by
  cases h : p.assembly with
  | none => rw [CommandPort.truncate_of_closed h]
  | some e =>
    obtain ⟨c, k⟩ := e
    have last := (CommandPort.assembly_eq_some_iff.mp h).1
    rw [CommandPort.truncate_of_assembling h]
    unfold CommandPort.commandWords
    conv_rhs => rw [← List.dropLast_append_getLast? c last]
    simp [Command.words]

theorem CommandPort.freeCommandWords_eq_zero_iff : p.freeCommandWords = 0 ↔ 256 ≤ (p.commands.map fun c => 1 + c.body.length).sum := by
  change 256 - _ = 0 ↔ _
  rw [Nat.sub_eq_zero_iff_le]
  rfl

theorem phaseExpecting_pred (k : Nat) : phaseExpecting (k - 1) = if k ≤ 1 then .complete else .assembling (k - 1) :=
  if_congr (by omega) rfl rfl

/-- The key positions of a layout (section 11.4). -/
theorem keyPosition_eq (code position : Nat) : keyPosition code position =
    decide ((code = 0x01 ∧ 9 ≤ position ∧ position ≤ 18) ∨ (code = 0x08 ∧ 1 ≤ position ∧ position ≤ 10)) := by
  unfold keyPosition
  split
  next h =>
    have mem := mem_commandTable h
    simp [commandTable] at mem
    simp [mem]
  next h =>
    have mem := mem_commandTable h
    simp [commandTable] at mem
    simp [mem]
  next h1 h8 =>
    refine (decide_eq_false ?_).symm
    rintro (⟨rfl, -⟩ | ⟨rfl, -⟩)
    · exact h1 rfl
    · exact h8 rfl

/-- A word written for the command in assembly, in a FIFO that is full or is not (R154, R155). -/
theorem CommandPort.writeBody_of_assembling {older : List Command} {place : Place} {w : Word} (hc : p.commands = older ++ [c])
    (hp : c.phase = .assembling k) {full : Bool} (hf : full = decide (256 ≤ (p.commands.map fun c => 1 + c.body.length).sum)) :
    p.writeBody place w = { p with
      commands := older ++ [c.takeWord k place w full]
      portFault := p.portFault || full } := by
  have assembly : p.assembly = some (c, k) := CommandPort.assembly_eq_some_iff.mpr ⟨by rw [hc, List.getLast?_concat], hp⟩
  have newest (d : Command) : p.setNewest d = { p with commands := older ++ [d] } := by
    rw [CommandPort.setNewest, hc, List.dropLast_concat]
  rw [CommandPort.writeBody, assembly]
  simp only [newest]
  by_cases room : 256 ≤ (p.commands.map fun c => 1 + c.body.length).sum
  · rw [if_pos (CommandPort.freeCommandWords_eq_zero_iff.mpr room), hf, decide_eq_true room, Bool.or_true]
    rfl
  · rw [if_neg (mt CommandPort.freeCommandWords_eq_zero_iff.mp room), hf, decide_eq_false room, Bool.or_false]

end Assembly

/-- Settles O38: a truncation keeps the words, so that a full FIFO stays full. -/
theorem headerWriteAndExpiry : Obligations.HeaderWriteAndExpiry := by
  intro s w running held closed length started
  have truncated : s.port.truncate = { s.port with commands := closed } := by
    cases h : s.port.assembly with
    | none =>
      rw [CommandPort.truncate_of_closed h]
      rw [CommandPort.assembly_eq_none_iff] at h
      have same : closed = s.port.commands := by
        simp only [closed]
        cases last : s.port.commands.getLast? with
        | none => rfl
        | some d => rcases h d last with e | e <;> simp only [e]
      rw [same]
    | some e =>
      obtain ⟨c, k⟩ := e
      rw [CommandPort.truncate_of_assembling h]
      obtain ⟨last, phase⟩ := CommandPort.assembly_eq_some_iff.mp h
      simp only [closed, last, phase]
  have full : s.port.truncate.freeCommandWords = 0 ↔ 256 ≤ held := by
    rw [CommandPort.freeCommandWords, CommandPort.commandWords_truncate]
    exact CommandPort.freeCommandWords_eq_zero_iff
  refine ⟨fun room => ?_, fun noRoom => ?_, ?_⟩
  · have written : s.port.writeHeader w = { s.port with commands := closed ++ [started] } := by
      rw [CommandPort.writeHeader, if_neg fun h => absurd (full.mp h) (Nat.not_le_of_lt room), truncated]
      rfl
    exact (State.unlessResetting_running running _).trans (congrArg (fun p => s.takes (s.withPort p)) written)
  · have written : s.port.writeHeader w = { s.port with commands := closed, portFault := true } := by
      rw [CommandPort.writeHeader, if_pos (full.mpr noRoom), truncated]
      rfl
    exact (State.unlessResetting_running running _).trans (congrArg (fun p => s.takes (s.withPort p)) written)
  · exact (State.unlessResetting_running running _).trans (congrArg (fun p => s.takes (s.withPort p)) truncated)

/-- Settles O39. -/
theorem bodyAndKeyWrite : Obligations.BodyAndKeyWrite := by
  intro s w place running event full
  have turn (p : CommandPort) (written : s.port.writeBody place w = p) : exec event s = .next (s.notify (s.withPort p)) := by
    subst written
    cases place <;> exact State.unlessResetting_running running _
  refine ⟨fun stray => ?_, fun older c k hc hp => ?_⟩
  · refine turn _ ?_
    rw [CommandPort.writeBody, CommandPort.assembly_eq_none_iff.mpr stray]
    rfl
  · intro position code keyed
    refine turn _ ((CommandPort.writeBody_of_assembling hc hp (full := full) rfl).trans ?_)
    have place_eq : misplaced (headerCode c.header) (c.position k) place = (keyed != (place == .key)) := by
      rw [misplaced, keyPosition_eq]
      rfl
    rw [Command.takeWord, place_eq, phaseExpecting_pred]

/-! ### The register window -/

section Window

variable {s u : State}

theorem Causes.any_eq (c : Causes) : c.any = decide (c ≠ ⟨false, false, false, false, false⟩) := by
  obtain ⟨a, b, c, d, e⟩ := c
  revert a b c d e
  decide

/-- The attention flag: some record's causes are not empty (R149, R161). -/
theorem AssociationManager.attention_eq (m : AssociationManager) : (!m.attentionSet.isEmpty) =
    m.records.any (fun p => decide (p.2.causes ≠ ⟨false, false, false, false, false⟩)) := by
  unfold AssociationManager.attentionSet
  induction m.records with
  | nil => rfl
  | cons p ps ih =>
    rw [List.any_cons, ← ih, ← Causes.any_eq, List.filter_cons]
    cases p.2.causes.any <;> simp

/-- The word that a read of the window returns while no Part Reset lasts (R152). -/
def State.openRead (s : State) (offset : Nat) : Word :=
  match offset with
  | 0x0C => s.port.responses.headD 0
  | 0x10 => s.levelsWord
  | 0x14 => s.serviceFlags.toWord
  | 0x18 => s.port.enables.toWord
  | 0x1C => packWord [(0, 1, bit s.port.hold)]
  | _ => 0

/-- The LEVELS word, with the body words that a command in assembly still expects (R152). -/
theorem State.levelsWord_eq (s : State) : s.levelsWord = packWord [(0, 9, s.port.freeCommandWords),
    (9, 9, s.port.responses.length), (24, 1, bit (s.port.assembly.map Prod.snd).isSome),
    (25, 6, (s.port.assembly.map Prod.snd).getD 0)] := by
  unfold State.levelsWord CommandPort.assembly
  cases last : s.port.commands.getLast? with
  | none => simp only [Option.map_none]
  | some c => cases phase : c.phase <;> simp only [phase, Option.map_none, Option.map_some]

/-- A word whose low bits are flags. -/
theorem packWord_flags (a b c d e : Bool) :
    (packWord [(0, 1, bit a), (1, 1, bit b), (2, 1, bit c), (3, 1, bit d), (4, 1, bit e)]).toNat =
      [a, b, c, d, e].foldr (fun b n => bit b + 2 * n) 0 := by
  revert a b c d e
  decide

theorem State.notify_eq (s u : State) : s.notify u = { u with pins := { u.pins with messagesSent :=
    if (!s.requestAsserted && u.requestAsserted) && u.pins.messageSignalling then u.pins.messagesSent + 1
    else u.pins.messagesSent } } := by
  rw [State.notify, State.sendMessage_eq]
  cases !s.requestAsserted && u.requestAsserted <;> rfl

theorem State.notifyWrite_eq (u : State) : u.notifyWrite = { u with pins := { u.pins with messagesSent :=
    if u.requestAsserted && u.pins.messageSignalling then u.pins.messagesSent + 1 else u.pins.messagesSent } } := by
  rw [State.notifyWrite, State.sendMessage_eq]
  cases u.requestAsserted <;> rfl

end Window

/-- Settles O40. -/
theorem windowReadsAndWrites : Obligations.WindowReadsAndWrites := by
  intro s w hold offset words flags enables asserted sends word expected cleared enabled held
  have asserted_eq (u : State) : u.requestAsserted = asserted u := by
    rw [State.requestAsserted, State.serviceFlags, AssociationManager.attention_eq]
    simp only [asserted, flags, enables, List.zip_cons_cons, List.zip_nil_right, List.any_cons, List.any_nil, Bool.or_false,
      ServiceBits.meets, Bool.or_assoc]
    rfl
  have written (u : State) : u.takesWrite = .next (sends u (asserted u)) := by
    rw [State.takesWrite, State.notifyWrite_eq, asserted_eq]
  refine ⟨fun u => ?_, fun running => ?_, fun resetting => if_pos resetting, fun _ => rfl⟩
  · rw [State.notify_eq, asserted_eq, asserted_eq]
  have open_ (o : Nat) : s.windowRead o = s.openRead o := if_neg (by rw [running]; exact nofun)
  have response : s.windowRead 0x0C = s.port.responses.headD 0 := open_ 0x0C
  refine ⟨?_, ?_, ?_, fun x rest oldest => ?_, fun empty => ?_, ?_, ?_, ?_, ?_, ?_, fun other => ?_⟩
  · have sticky : s.withPort (s.port.clearSticky w) = cleared := by
      unfold State.withPort CommandPort.clearSticky
      simp only [cleared]
      cases flag w 3 <;> cases flag w 4 <;> simp
    exact (State.unlessResetting_running running _).trans (sticky ▸ written _)
  · exact (State.unlessResetting_running running _).trans (written enabled)
  · exact (State.unlessResetting_running running _).trans (written held)
  · have popped : s.popResponse.returns (s.windowRead 0x0C) =
        { s with port := { s.port with responses := rest }, pins := { s.pins with readData := x } } := by
      rw [response, State.popResponse, oldest]
      rfl
    exact (if_neg (by rw [running]; exact nofun)).trans (congrArg s.takes popped)
  · have popped : s.popResponse.returns (s.windowRead 0x0C) = { s with pins := { s.pins with readData := 0 } } := by
      have same : { s.port with responses := [] } = s.port := by rw [← empty]
      rw [response, State.popResponse, empty, List.tail_nil, same]
      rfl
    refine (if_neg (by rw [running]; exact nofun)).trans ((congrArg s.takes popped).trans ?_)
    exact congrArg Host.Outcome.next (State.notify_of_same rfl rfl)
  · exact response
  · have levels : s.windowRead 0x10 = packWord [(0, 9, 256 - words), (9, 9, s.port.responses.length), (24, 1, bit expected.isSome),
        (25, 6, expected.getD 0)] := by
      have read : s.windowRead 0x10 = s.levelsWord := open_ 0x10
      have free : s.port.freeCommandWords = 256 - words := rfl
      have awaited : s.port.assembly.map Prod.snd = expected := by
        simp only [expected, CommandPort.assembly]
        cases last : s.port.commands.getLast? with
        | none => simp only [Option.map_none]
        | some c => cases phase : c.phase <;> simp only [phase, Option.map_none, Option.map_some]
      rw [read, State.levelsWord_eq, free, awaited]
    have free : (256 - words) % 2 ^ 9 = 256 - words := Nat.mod_eq_of_lt (by omega)
    have flag_ : bit expected.isSome % 2 ^ 1 = bit expected.isSome := by cases expected.isSome <;> rfl
    have small : bit expected.isSome ≤ 1 := by cases expected.isSome <;> decide
    rw [levels, packWord_cons_toNat, packWord_cons_toNat, packWord_cons_toNat, packWord_cons_toNat, packWord_nil_toNat, free, flag_]
    omega
  · rw [open_ 0x14]
    change (packWord [(0, 1, bit s.serviceFlags.response), (1, 1, bit s.serviceFlags.space), (2, 1, bit s.serviceFlags.attention),
      (3, 1, bit s.serviceFlags.lane), (4, 1, bit s.serviceFlags.portFault)]).toNat = _
    rw [packWord_flags, State.serviceFlags, AssociationManager.attention_eq]
    rfl
  · rw [open_ 0x18]
    exact packWord_flags ..
  · rw [open_ 0x1C]
    change (packWord [(0, 1, bit s.port.hold)]).toNat = _
    cases s.port.hold <;> rfl
  · rw [open_ offset, State.openRead]
    all_goals
      simp only [List.mem_cons, List.not_mem_nil, or_false, not_or] at other
      tauto

end Sys2Proof.Machine
end

section
/-!
PROOFS. The lane's shared operations: what an occupancy event, a counter and the queueing for delivery can change.
-/

namespace Sys2Proof.Machine

/-! ### Counters -/

theorem vget_vput {α : Type} {n : Nat} (v : Vector α n) (i j : Fin n) (x : α) :
    vget (vput v i x) j = if i = j then x else vget v j := by
  unfold vget vput
  by_cases h : i = j
  · subst h; simp
  · have ne : i.val ≠ j.val := fun e => h (Fin.ext e)
    simp [h, ne]

theorem OutCounter.index_injective : Function.Injective OutCounter.index := by
  intro a b h
  cases a <;> cases b <;> first | rfl | cases h

theorem InCounter.index_injective : Function.Injective InCounter.index := by
  intro a b h
  cases a <;> cases b <;> first | rfl | cases h

section Counts

variable (v : Lane)

theorem Lane.outCount_countOutBy (a b : OutCounter) (n : Nat) : (v.countOutBy a n).outCount b =
    if a = b then min 4294967295 (v.outCount b + n) else v.outCount b := by
  refine (vget_vput _ _ _ _).trans ?_
  by_cases h : a = b
  · subst h
    rw [if_pos rfl, if_pos rfl]
    rfl
  · rw [if_neg h, if_neg fun e => h (OutCounter.index_injective e)]
    rfl

theorem Lane.inCount_countIn (a b : InCounter) : (v.countIn a).inCount b =
    if a = b then min 4294967295 (v.inCount b + 1) else v.inCount b := by
  refine (vget_vput _ _ _ _).trans ?_
  by_cases h : a = b
  · subst h
    rw [if_pos rfl, if_pos rfl]
    rfl
  · rw [if_neg h, if_neg fun e => h (InCounter.index_injective e)]
    rfl

end Counts

/-! ### Occupancy events -/

/-- The parts of the pause generator: whether it is ASSERTED, its refresh timer and its waiting pause frame. -/
def EgressEngine.withPause (e : EgressEngine) (asserted : Bool) (refresh waitingPause : Option Nat) : EgressEngine :=
  { e with asserted := asserted, refresh := refresh, waitingPause := waitingPause }

/-- An occupancy event touches nothing but the pause generator (R105). -/
theorem EgressEngine.occupancyEvent_shape (e : EgressEngine) (mode : Mode) (g : LaneConfig) :
    ∃ a r w, e.occupancyEvent mode g = e.withPause a r w := by
  unfold EgressEngine.occupancyEvent
  repeat' split
  · exact ⟨_, _, _, rfl⟩
  · exact ⟨true, e.refresh, some g.quanta, rfl⟩
  · exact ⟨_, _, _, rfl⟩
  · exact ⟨e.asserted, e.refresh, e.waitingPause, rfl⟩

/-- What a lane's change of its Holding Buffer touches (R105). -/
theorem Lane.afterBuffer_shape (v : Lane) (e : EgressEngine) : ∃ a r w, v.afterBuffer e = v.withEgress (e.withPause a r w) := by
  unfold Lane.afterBuffer
  split
  · exact ⟨e.asserted, e.refresh, e.waitingPause, rfl⟩
  · obtain ⟨a, r, w, h⟩ := e.occupancyEvent_shape v.control.mode v.control.config
    exact ⟨a, r, w, by rw [h]⟩

/-! ### Queueing for delivery -/

/-- A lane with other frame stores, ages, Delivery Buffer and inbound counters. -/
def Lane.withDelivery (v : Lane) (inbound : Vector Nat 20) (stores : Vector (Option FrameStore) 4) (ages : List StoreId)
    (delivery : List Frame) : Lane :=
  { v with
    control := { v.control with counters := { v.control.counters with inbound := inbound } }
    ingress := { v.ingress with stores := stores, ages := ages, delivery := delivery } }

theorem Lane.withDelivery_self (v : Lane) :
    v.withDelivery v.control.counters.inbound v.ingress.stores v.ingress.ages v.ingress.delivery = v := rfl

theorem Lane.queueReady_shape (v : Lane) (k : StoreId) (f : Frame) :
    ∃ inbound stores ages delivery, v.queueReady k f = v.withDelivery inbound stores ages delivery := by
  unfold Lane.queueReady
  dsimp only
  split
  · exact ⟨_, _, _, _, rfl⟩
  · exact ⟨_, _, _, v.ingress.delivery, rfl⟩

theorem Lane.queueRun_shape (v : Lane) (ks : List StoreId) :
    ∃ inbound stores ages delivery, v.queueRun ks = v.withDelivery inbound stores ages delivery := by
  induction ks generalizing v with
  | nil => exact ⟨_, _, _, _, v.withDelivery_self.symm⟩
  | cons k ks ih =>
    unfold Lane.queueRun
    split
    next f _ =>
      obtain ⟨i, s, a, d, h⟩ := v.queueReady_shape k f
      obtain ⟨i', s', a', d', h'⟩ := ih (v.queueReady k f)
      rw [h', h]
      exact ⟨i', s', a', d', rfl⟩
    next => exact ⟨_, _, _, _, v.withDelivery_self.symm⟩

/-- What the queueing to the Delivery Buffer touches (R125). -/
theorem Lane.queueDelivery_shape (v : Lane) :
    ∃ inbound stores ages delivery, v.queueDelivery = v.withDelivery inbound stores ages delivery := v.queueRun_shape _

end Sys2Proof.Machine
end

section
/-!
PROOFS. The lane commands Set Lane Mode and Restart Lane, and link events (chapter 8).
-/

namespace Sys2Proof.Machine

/-! ### Modes -/

/-- The number of a mode in the encoding of section 11.3. -/
theorem Mode.ofCode_eq {m : Nat} (hm : ¬ 3 < m) : Mode.ofCode m =
    some (if m = 0 then .off else if m = 1 then .clear else if m = 2 then .protect else .looptest) := by
  obtain rfl | rfl | rfl | rfl : m = 0 ∨ m = 1 ∨ m = 2 ∨ m = 3 := by omega
  all_goals rfl

theorem Mode.ofCode_eq_none {m : Nat} (hm : 3 < m) : Mode.ofCode m = none := by
  unfold Mode.ofCode
  split <;> first | omega | rfl

theorem Mode.ofCode_code (p : Mode) : Mode.ofCode p.code = some p := by cases p <;> rfl

theorem Mode.code_of_ofCode {m : Nat} {p : Mode} (h : Mode.ofCode m = some p) : p.code = m := by
  unfold Mode.ofCode at h
  split at h <;> cases h <;> rfl

/-- The mode changes that R133 allows, by their encodings. -/
theorem Mode.mayBecome_iff (p q : Mode) : p.mayBecome q = true ↔
    (p.code, q.code) ∈ [(0, 1), (1, 0), (1, 2), (1, 3), (2, 1), (2, 0), (3, 1), (3, 0)] := by
  cases p <;> cases q <;> decide

theorem Mode.flushes_iff (p : Mode) : p.flushes = true ↔ 2 ≤ p.code := by
  cases p <;> decide

/-! ### Set Lane Mode -/

/-- The record that an entry is queued for, with its lane (R19). -/
def Entry.queuedFor (l : LaneId) (x : Entry) : Option (LaneId × Nat) :=
  match x.disposition with
  | some (.protect i) => some (l, i)
  | _ => none

theorem protectRecords_withdrawals (l : LaneId) (entries : List Entry) :
    (protectRecords entries).map (fun i => (l, i)) = entries.filterMap (Entry.queuedFor l) := by
  rw [protectRecords, List.map_filterMap]
  refine List.filterMap_congr fun x _ => ?_
  unfold Entry.queuedFor
  rcases x.disposition with _ | _ | _ <;> rfl

section SetLaneMode

variable {s : State} {c : Command} {l : LaneId} {m : Mode}

theorem execSetLaneMode_refused (h : s.offers c .setLaneMode) (bad : c.lane = none ∨ Mode.ofCode (bits (c.word 0) 15 8) = none) :
    ∃ t, exec .setLaneMode s = .next t ∧ s.answered s c { status := .badValue } t := by
  refine State.serve_refuses h fun n => ?_
  unfold setLaneModeOwner
  rcases bad with e | e
  · rw [e]
  · rw [e]
    cases c.lane <;> rfl

/-- The turn of a Set Lane Mode that names a lane and a mode (R133). -/
theorem execSetLaneMode_answers (h : s.offers c .setLaneMode) (hl : c.lane = some l) (hm : Mode.ofCode (bits (c.word 0) 15 8) = some m) :
    ∃ t, exec .setLaneMode s = .next t ∧
      (if (s.lane l).control.mode = m then s.answered s c { status := .ok } t
       else if (s.lane l).control.mode.mayBecome m = true then s.answered (s.changeMode l m) c { status := .ok } t
       else s.answered s c { status := .badModeChange } t) := by
  by_cases same : (s.lane l).control.mode = m
  · simp only [if_pos same]
    refine State.serve_answers h rfl rfl fun n => ?_
    simp only [setLaneModeOwner, hl, hm, State.lane_freed]
    exact if_pos same
  by_cases may : (s.lane l).control.mode.mayBecome m = true
  · simp only [if_neg same, if_pos may]
    refine State.serve_answers h rfl rfl fun n => ?_
    simp only [setLaneModeOwner, hl, hm, State.lane_freed]
    exact (if_neg same).trans (if_pos may)
  · simp only [if_neg same, if_neg may]
    refine State.serve_refuses h fun n => ?_
    simp only [setLaneModeOwner, hl, hm, State.lane_freed]
    exact (if_neg same).trans (if_neg may)

end SetLaneMode

/-- The Holding Buffer that a flush leaves (R103). -/
def EgressEngine.unqueued (e : EgressEngine) : EgressEngine :=
  { e with buffer := e.buffer.filter (fun x => x.status != .queued) }

/-- The pause generator falls QUIET in OFF, and is else left as it stands (R136). -/
theorem Lane.quietInOff_shape (u : Lane) : ∃ a r w, u.quietInOff = u.withEgress (u.egress.withPause a r w) := by
  unfold Lane.quietInOff
  split
  · exact ⟨false, none, none, rfl⟩
  · exact ⟨u.egress.asserted, u.egress.refresh, u.egress.waitingPause, rfl⟩

/-- The lane after an accepted mode change: nothing but the mode, the flush and the pause generator (R103, R134, R136). -/
theorem Lane.changeMode_shape (v : Lane) (m : Mode) : ∃ a r w, v.changeMode m =
    if v.control.mode.flushes then
      ((v.withMode m).withEgress (v.egress.unqueued.withPause a r w)).countOutBy .flushed v.egress.queuedEntries.length
    else (v.withMode m).withEgress (v.egress.withPause a r w) := by
  unfold Lane.changeMode
  split
  · obtain ⟨a, r, w, shape⟩ := (v.withMode m).afterBuffer_shape v.egress.unqueued
    have flushed : (v.withMode m).flush = ((v.withMode m).withEgress (v.egress.unqueued.withPause a r w)).countOutBy .flushed
        v.egress.queuedEntries.length := by
      rw [← shape]
      rfl
    obtain ⟨a', r', w', quiet⟩ := (v.withMode m).flush.quietInOff_shape
    exact ⟨a', r', w', by rw [quiet, flushed]; rfl⟩
  · obtain ⟨a, r, w, quiet⟩ := (v.withMode m).quietInOff_shape
    exact ⟨a, r, w, quiet⟩

/-- Settles O28. -/
theorem setLaneMode : Obligations.SetLaneMode := by
  intro s c h n m l v e present new flushed set left w
  by_cases bad : 3 < n ∨ 3 < m
  · simp only [if_pos bad]
    exact execSetLaneMode_refused h (bad.imp Command.lane_eq_none Mode.ofCode_eq_none)
  simp only [if_neg bad]
  obtain ⟨laneOk, modeOk⟩ := not_or.mp bad
  have hm : Mode.ofCode (bits (c.word 0) 15 8) = some new := Mode.ofCode_eq modeOk
  have code : new.code = m := Mode.code_of_ofCode hm
  have present_eq : v.control.mode.code = present := by
    simp only [present]
    cases v.control.mode <;> rfl
  obtain ⟨t, ht, answered⟩ := execSetLaneMode_answers h (Command.lane_eq_some laneOk) hm
  have same : (s.lane l).control.mode = new ↔ m = present := by
    rw [← code, ← present_eq]
    refine ⟨fun e => by rw [← e], fun e => ?_⟩
    have both := congrArg Mode.ofCode e
    rw [Mode.ofCode_code, Mode.ofCode_code] at both
    exact (Option.some.inj both).symm
  have may : (s.lane l).control.mode.mayBecome new = true ↔
      (present, m) ∈ [(0, 1), (1, 0), (1, 2), (1, 3), (2, 1), (2, 0), (3, 1), (3, 0)] := by
    rw [Mode.mayBecome_iff, code]
    exact Iff.of_eq (by rw [← present_eq])
  refine ⟨t, ht, ?_⟩
  rw [if_congr same rfl rfl, if_congr may rfl rfl] at answered
  by_cases hs : m = present
  · simp only [if_pos hs] at answered ⊢
    exact answered
  by_cases hmay : (present, m) ∈ [(0, 1), (1, 0), (1, 2), (1, 3), (2, 1), (2, 0), (3, 1), (3, 0)]
  swap
  · simp only [if_neg hs, if_neg hmay, if_pos hmay] at answered ⊢
    exact answered
  rw [if_neg hs, if_pos hmay] at answered
  rw [if_neg hs, if_neg (not_not.mpr hmay)]
  have flushes : v.control.mode.flushes = true ↔ 2 ≤ present := by rw [Mode.flushes_iff, present_eq]
  have w_eq : v.changeMode new = w := by
    have left_eq : (if v.control.mode.flushes then (v.withMode new).flush else v.withMode new) = left := if_congr flushes rfl rfl
    have mode : left.control.mode = new := by
      simp only [left]
      split
      · obtain ⟨a, r, p, shape⟩ := set.afterBuffer_shape { e with buffer := e.buffer.filter (fun x => x.status != .queued) }
        rw [shape]
        rfl
      · rfl
    have off : left.control.mode = .off ↔ m = 0 := by
      rw [mode, ← code]
      generalize new = p
      cases p <;> decide
    rw [Lane.changeMode, left_eq]
    exact if_congr off rfl rfl
  have quiet : m = 0 → w.egress.asserted = false ∧ w.egress.refresh = none ∧ w.egress.waitingPause = none := fun zero => by
    simp only [w, if_pos zero, and_self]
  have sent : (v.flushRecords).map (fun i => (l, i)) = if 2 ≤ present then flushed.filterMap (Entry.queuedFor l) else [] := by
    rw [Lane.flushRecords, apply_ite (List.map _), protectRecords_withdrawals]
    exact if_congr flushes rfl rfl
  have changed : s.changeMode l new = { s with
      lanes := s.lanes.set l w
      transit := { s.transit with withdrawals := s.transit.withdrawals ++
        (if 2 ≤ present then flushed.filterMap (Entry.queuedFor l) else []) } } := by
    rw [← w_eq, ← sent]
    rfl
  rw [changed] at answered
  obtain ⟨a, r, p, shape⟩ := v.changeMode_shape new
  rw [w_eq, if_congr flushes rfl rfl] at shape
  refine ⟨answered, ?_⟩
  clear_value w
  by_cases leaves : 2 ≤ present
  · rw [if_pos leaves] at shape
    subst shape
    refine ⟨rfl, rfl, rfl, rfl, rfl, rfl, rfl, rfl, rfl, rfl, rfl, rfl, rfl, rfl, rfl, (if_pos leaves).symm, fun _ => rfl,
      fun k hk => ?_, ?_, quiet⟩
    · exact (Lane.outCount_countOutBy _ _ _ _).trans (if_neg hk.symm)
    · exact ((Lane.outCount_countOutBy _ _ _ _).trans (if_pos rfl)).trans (if_pos leaves).symm
  · rw [if_neg leaves] at shape
    subst shape
    exact ⟨rfl, rfl, rfl, rfl, rfl, rfl, rfl, rfl, rfl, rfl, rfl, rfl, rfl, rfl, rfl, (if_neg leaves).symm, fun _ => rfl,
      fun _ _ => rfl, (if_neg leaves).symm, quiet⟩

/-! ### Restart Lane -/

/-- The release that ends a frame's grant, as a list over the grant (R36). -/
theorem StoredFrame.release_eq (f : StoredFrame) (o : ReleaseOutcome) :
    f.release o = f.grant.toList.map (fun g => (⟨g.record, g.slot, o, f.protectedOctets⟩ : ReleaseMsg)) := by
  unfold StoredFrame.release
  cases f.grant <;> rfl

/-- The turn of a Restart Lane (R142). -/
theorem execRestartLane_answers {s : State} {c : Command} (h : s.offers c .restartLane) :
    ∃ t, exec .restartLane s = .next t ∧
      (c.lane = none → s.answered s c { status := .badValue } t) ∧
      (∀ l, c.lane = some l → s.answered (s.restartLane l) c { status := .ok } t) := by
  cases hl : c.lane with
  | none =>
    have turn : ∃ t, exec .restartLane s = .next t ∧ s.answered s c { status := .badValue } t :=
      State.serve_refuses h fun n => by simp only [restartLaneOwner, hl]
    obtain ⟨t, ht, answered⟩ := turn
    exact ⟨t, ht, fun _ => answered, fun l e => nomatch e⟩
  | some l =>
    have turn : ∃ t, exec .restartLane s = .next t ∧ s.answered (s.restartLane l) c { status := .ok } t :=
      State.serve_answers h rfl rfl fun n => by
        simp only [restartLaneOwner, hl]
        rfl
    obtain ⟨t, ht, answered⟩ := turn
    exact ⟨t, ht, fun e => (nomatch e), fun l' e => by cases e; exact answered⟩

/-- Settles O31. -/
theorem restartLane : Obligations.RestartLane := by
  intro s c h n l v e i zeroes ended kept cancelled abandoned w
  obtain ⟨t, ht, refused, accepted⟩ := execRestartLane_answers h
  refine ⟨t, ht, ?_⟩
  by_cases bad : 3 < n
  · rw [if_pos bad]
    exact refused (Command.lane_eq_none bad)
  rw [if_neg bad]
  have ended_eq : ∀ x, ((TransmitStore.frame x).map (fun f => f.release .aborted)).getD [] = ended x := fun x => by
    cases x with
    | free => rfl
    | reserved d => rfl
    | held f => exact f.release_eq .aborted
    | sending f => exact f.release_eq .aborted
  have kept_eq : ∀ x, TransmitStore.restart x = kept x := fun x => by cases x <;> rfl
  have cancelled_eq : (fun x : Option FrameStore => x.bind FrameStore.restart) = cancelled := by
    funext x
    rcases x with _ | ⟨src, mark, _ | _ | _ | _ | _⟩ <;> rfl
  have abandoned_eq : (fun x : Option FrameStore => (x.map FrameStore.restartAbandon).getD []) = abandoned := by
    funext x
    rcases x with _ | ⟨src, mark, _ | _ | _ | _ | _⟩ <;> rfl
  have stores_eq : i.stores.map (fun x : Option FrameStore => x.bind FrameStore.restart) = i.stores.map cancelled := by rw [cancelled_eq]
  have ages_eq : (fun k => (vget (i.stores.map (fun x : Option FrameStore => x.bind FrameStore.restart)) k).isSome) =
      fun k => (cancelled (i.store k)).isSome := by
    funext k
    rw [← cancelled_eq]
    unfold IngressEngine.store vget
    rw [Fin.getElem_fin, Fin.getElem_fin, Vector.getElem_map]
  have receiver_eq : i.receiver.restart = w.ingress.receiver := by
    simp only [w]
    rcases i.receiver with _ | _ | _ <;> rfl
  have engine : i.restart = w.ingress := by
    simp only [w]
    unfold IngressEngine.restart
    rw [stores_eq] at ages_eq ⊢
    dsimp only
    rw [ages_eq]
    congr 1
  have lane : v.restart = w := by
    have egress : e.restart = w.egress := by
      simp only [w]
      unfold EgressEngine.restart
      rw [kept_eq, kept_eq]
    unfold Lane.restart
    rw [engine, egress]
    rfl
  have explicit : s.restartLane l = { s with
      lanes := s.lanes.set l w
      transit := { s.transit with
        releases := s.transit.releases ++ (ended e.store0 ++ ended e.store1)
        withdrawals := s.transit.withdrawals ++ (e.buffer.filter (fun x => x.status == .queued)).filterMap (Entry.queuedFor l)
        abandons := s.transit.abandons ++ i.stores.toList.flatMap abandoned } } := by
    rw [← lane, ← ended_eq, ← ended_eq, ← abandoned_eq, ← protectRecords_withdrawals]
    rfl
  have answered := accepted l (Command.lane_eq_some bad)
  rw [explicit] at answered
  exact answered

end Sys2Proof.Machine
end

section
/-!
PROOFS. Link events (section 8.3).
-/

namespace Sys2Proof.Machine

/-- A link event that reports the state held changes nothing (R137). -/
theorem execLinkEvent_same {s : State} {l : LaneId} {side : Side} {up : Bool} (n : Nat) (running : s.port.resetting = false)
    (same : (s.lane l).control.link side = up) : exec (.linkEvent l side up n) s = .next s :=
  (State.unlessResetting_running running _).trans (if_pos same)

/-- A link event that reports another state than the one held (R137). -/
theorem execLinkEvent_change {s : State} {l : LaneId} {side : Side} {up : Bool} (n : Nat) (running : s.port.resetting = false)
    (differs : (s.lane l).control.link side ≠ up) :
    exec (.linkEvent l side up n) s = .next (s.notify (s.takeLink l side up n)) :=
  (State.unlessResetting_running running _).trans (if_neg differs)

/-! ### The line link lost -/

theorem TransmitStore.cutLine_eq (t : TransmitStore) : t.cutLine = if t.lineFrame.toList.isEmpty then t else .free := by
  unfold TransmitStore.cutLine
  cases t.lineFrame <;> rfl

/-- The lane with no line frame in reception. -/
def Lane.unheard (v : Lane) : Lane := v.withIngress { v.ingress with receiver := .idle }

theorem Lane.unheard_of_idle {v : Lane} (idle : v.ingress.receiver = .idle) : v.unheard = v := by
  unfold Lane.unheard
  rw [← idle]
  rfl

/-- The line frame in reception leaves its store and its receiver, and the frames READY are queued for delivery (R112, R125). -/
theorem Lane.ingressLineDown_shape (v : Lane) (n : Nat) : ∃ inbound stores ages delivery, v.ingressLineDown n =
    v.unheard.withDelivery inbound stores ages delivery := by
  unfold Lane.ingressLineDown
  split
  next idle =>
    rw [Lane.unheard_of_idle idle]
    exact ⟨_, _, _, _, v.withDelivery_self.symm⟩
  next store _ =>
    obtain ⟨b, st, a, d, shape⟩ := Lane.queueDelivery_shape
      ((v.withIngress { v.ingress with receiver := .idle }).dropInbound store (if cutIsRunt n then .runt else .badFcs))
    refine ⟨b, st, a, d, shape.trans ?_⟩
    cases store <;> rfl

/-! ### The system link lost -/

theorem EgressEngine.dropArriving_of_none {e : EgressEngine} (h : e.arriving = none) : e.dropArriving = e := by
  have unchanged : e.buffer.filter (fun x => x.status != .receiving) = e.buffer :=
    List.filter_eq_self.mpr fun x hx => by simpa using List.find?_eq_none.mp h x hx
  unfold EgressEngine.dropArriving
  rw [unchanged]

/-- The outbound frame in reception leaves the Holding Buffer, and nothing of the Ingress Engine changes (R93). -/
theorem Lane.cutArriving_shape (v : Lane) : ∃ outbound a r w, v.cutArriving =
    { v with
      control := { v.control with counters := { v.control.counters with outbound := outbound } }
      egress := v.egress.dropArriving.withPause a r w } := by
  unfold Lane.cutArriving
  split
  next none_arriving =>
    refine ⟨v.control.counters.outbound, v.egress.asserted, v.egress.refresh, v.egress.waitingPause, ?_⟩
    rw [EgressEngine.dropArriving_of_none none_arriving]
    rfl
  next x _ =>
    obtain ⟨a, r, w, shape⟩ := v.afterBuffer_shape v.egress.dropArriving
    rw [shape]
    exact ⟨_, a, r, w, rfl⟩

/-- Settles O32. -/
theorem linkEvent : Obligations.LinkEvent := by
  intro s l up n running v e i bound cut freed heldDown why lineDown unlinked stopped quiet systemDown
  have bound_eq : ∀ t, (TransmitStore.lineFrame t).toList = bound t := fun t => by
    cases t with
    | free => rfl
    | reserved d => rfl
    | held f =>
      simp only [bound, TransmitStore.lineFrame, TransmitStore.frame, Option.filter_some, beq_iff_eq]
      split <;> rfl
    | sending f =>
      simp only [bound, TransmitStore.lineFrame, TransmitStore.frame, Option.filter_some, beq_iff_eq]
      split <;> rfl
  have cut_eq : e.lineFrames = cut := by
    simp only [cut, ← bound_eq]
    rfl
  have freed_eq : ∀ t, TransmitStore.cutLine t = freed t := fun t => by
    simp only [freed, ← bound_eq]
    exact t.cutLine_eq
  have why_eq : (if cutIsRunt n then InCounter.runt else .badFcs) = why := if_congr decide_eq_true_iff rfl rfl
  have held_eq : (v.withLink .line false).egressLineDown = heldDown := by
    simp only [heldDown, ← freed_eq, ← cut_eq]
    rfl
  have lineDown_eq : (v.withLink .line false).linkChanged .line false n = lineDown := by
    have unfolded : (v.withLink .line false).linkChanged .line false n = heldDown.ingressLineDown n := by rw [← held_eq]; rfl
    have same : heldDown.ingress = i := rfl
    rw [unfolded, Lane.ingressLineDown, same, why_eq]
    simp only [lineDown]
    rcases i.receiver with _ | _ | j <;> rfl
  have released : v.egress.lineFrames.flatMap (fun f => f.release .aborted) = cut.flatMap (fun f => f.grant.toList.map
      (fun g => (⟨g.record, g.slot, .aborted, f.protectedOctets⟩ : ReleaseMsg))) := by
    rw [← cut_eq]
    exact List.flatMap_congr fun f _ => f.release_eq .aborted
  have stopped_eq : (v.withLink .system false).cutArriving = stopped := by
    have same : (v.withLink .system false).egress = e := rfl
    rw [Lane.cutArriving, same]
    cases found : e.arriving with
    | none =>
      have search : e.buffer.find? (fun x => x.status == .receiving) = none := found
      simp only [stopped, search]
      rfl
    | some x =>
      have search : e.buffer.find? (fun x => x.status == .receiving) = some x := found
      simp only [stopped, search]
      exact congrArg (Lane.countOut _) (if_congr decide_eq_true_iff rfl rfl)
  obtain ⟨outbound, a, r, w, shape⟩ := (v.withLink .system false).cutArriving_shape
  have systemDown_eq : (v.withLink .system false).linkChanged .system false n = systemDown := by
    have unfolded : (v.withLink .system false).linkChanged .system false n =
        (stopped.withEgress { stopped.egress with waitingPause := none, refresh := none }).ingressSystemDown := by
      rw [← stopped_eq]
      rfl
    have same : stopped.ingress = i := by rw [← stopped_eq, shape]; rfl
    rw [unfolded]
    simp only [systemDown, quiet]
    unfold Lane.ingressSystemDown Lane.withEgress Lane.withIngress
    simp only [same]
  have line_change : ∀ b, v.control.lineUp = b → b ≠ up → exec (.linkEvent l .line up n) s = .next (s.notify (s.takeLink l .line up n)) :=
    fun b held differs => execLinkEvent_change n running fun same => differs (held.symm.trans same)
  have system_change : ∀ b, v.control.systemUp = b → b ≠ up →
      exec (.linkEvent l .system up n) s = .next (s.notify (s.takeLink l .system up n)) :=
    fun b held differs => execLinkEvent_change n running fun same => differs (held.symm.trans same)
  refine ⟨fun same => execLinkEvent_same n running same, fun same => execLinkEvent_same n running same, fun down up' => ?_,
    fun held down => ?_, fun held down => ?_, fun held down => ?_, fun held down => ?_, fun down up' => ?_⟩
  · subst up'
    have event := line_change false down (by decide)
    have explicit : s.takeLink l .line true n = { s with
        lanes := s.lanes.set l { v with control := { v.control with lineUp := true } }
        port := { s.port with laneFlag := true }
        transit := { s.transit with releases := s.transit.releases ++ [] } } := rfl
    rw [List.append_nil] at explicit
    rwa [explicit] at event
  · subst down
    have event := line_change true held (by decide)
    have explicit : s.takeLink l .line false n = { s with
        lanes := s.lanes.set l lineDown
        port := { s.port with laneFlag := true }
        transit := { s.transit with releases := s.transit.releases ++ cut.flatMap (fun f => f.grant.toList.map
          (fun g => (⟨g.record, g.slot, .aborted, f.protectedOctets⟩ : ReleaseMsg))) } } := by
      rw [← lineDown_eq, ← released]
      rfl
    rwa [explicit] at event
  · obtain ⟨b, st, a, d, down_shape⟩ := heldDown.ingressLineDown_shape n
    have lost : lineDown = heldDown.unheard.withDelivery b st a d := by
      rw [← down_shape, ← held_eq, ← lineDown_eq]
      rfl
    clear_value lineDown
    subst lost
    refine ⟨rfl, rfl, rfl, rfl, rfl, rfl, rfl, fun k => by cases k <;> rfl, ?_, fun k hk => ?_⟩
    · exact (Lane.outCount_countOutBy _ _ _ _).trans (if_pos rfl)
    · exact (Lane.outCount_countOutBy _ _ _ _).trans (if_neg hk.symm)
  · subst down
    have event := system_change true held (by decide)
    have explicit : s.takeLink l .system false n = { s with
        lanes := s.lanes.set l systemDown
        port := { s.port with laneFlag := true }
        transit := { s.transit with releases := s.transit.releases ++ [] } } := by
      rw [← systemDown_eq]
      rfl
    rw [List.append_nil] at explicit
    rwa [explicit] at event
  · have lost := stopped_eq.symm.trans shape
    clear_value stopped
    subst lost
    by_cases sending : i.sending = true
    · have cut_short : systemDown = Lane.countIn { quiet with
          ingress := { quiet.ingress with delivery := i.delivery.tail, sending := false } } .aborted := if_pos sending
      rw [cut_short, if_pos sending, if_pos sending]
      exact ⟨rfl, rfl, rfl, rfl, rfl, rfl, rfl, rfl, rfl, rfl, rfl, rfl, rfl, (Lane.inCount_countIn _ _ _).trans (if_pos rfl)⟩
    · have calm : systemDown = quiet := if_neg sending
      rw [calm, if_neg sending, if_neg sending]
      exact ⟨rfl, rfl, rfl, rfl, rfl, rfl, rfl, rfl, rfl, eq_false_of_ne_true sending, rfl, rfl, rfl, rfl⟩
  · subst up'
    have event := system_change false down (by decide)
    have explicit : s.takeLink l .system true n = { s with
        lanes := s.lanes.set l { v with
          control := { v.control with systemUp := true }
          egress := { e with waitingPause := if e.asserted then some v.control.config.quanta else e.waitingPause } }
        port := { s.port with laneFlag := true }
        transit := { s.transit with releases := s.transit.releases ++ [] } } := by
      have woken : (v.withLink .system true).egressSystemUp = { v with
          control := { v.control with systemUp := true }
          egress := { e with waitingPause := if e.asserted then some v.control.config.quanta else e.waitingPause } } := by
        have asserted_eq : (v.withLink .system true).egress.asserted = e.asserted := rfl
        unfold Lane.egressSystemUp
        rw [asserted_eq]
        by_cases held : e.asserted = true
        · simp only [if_pos held]
          rfl
        · simp only [if_neg held]
          rfl
      rw [← woken]
      rfl
    rw [List.append_nil] at explicit
    rwa [explicit] at event

end Sys2Proof.Machine
end

section
/-!
PROOFS. What the events of an engine change, and the readings of an engine's buffer and stores.
-/

namespace Sys2Proof.Machine

/-! ### Events that change neither the Association Manager nor the Command Port -/

section Events

variable {s u : State}

/-- Such an event sends no message. -/
theorem State.takes_of_same (manager : s.manager = u.manager) (port : s.port = u.port) : s.takes u = .next u :=
  congrArg _ (State.notify_of_same manager port)

theorem State.eventTakes (running : s.port.resetting = false) (manager : s.manager = u.manager) (port : s.port = u.port) :
    s.unlessResetting (s.takes u) = .next u :=
  (State.unlessResetting_running running _).trans (State.takes_of_same manager port)

theorem State.setLane_self (s : State) (l : LaneId) : s.setLane l (s.lane l) = s := by
  have same : vput s.lanes l (vget s.lanes l) = s.lanes := by
    unfold vput vget
    exact Vector.set_getElem_self _
  unfold State.setLane State.lane
  rw [same]

/-- An event at one lane gives that lane alone. -/
theorem State.laneTakes (running : s.port.resetting = false) (l : LaneId) (v : Lane) :
    s.unlessResetting (s.takes (s.setLane l v)) = .next { s with lanes := s.lanes.set l v } :=
  State.eventTakes running rfl rfl

theorem State.laneTakes_unchanged (running : s.port.resetting = false) {l : LaneId} {v : Lane} (unchanged : v = s.lane l) :
    s.unlessResetting (s.takes (s.setLane l v)) = .next s := by
  rw [unchanged, State.setLane_self]
  exact State.eventTakes running rfl rfl

end Events

/-! ### The frame in reception -/

section Arriving

variable {e : EgressEngine} {older : List Entry} {x : Entry}

theorem EgressEngine.arriving_of_none (calm : ∀ y ∈ e.buffer, y.status ≠ .receiving) : e.arriving = none :=
  List.find?_eq_none.mpr fun y hy => by simpa using calm y hy

theorem EgressEngine.arriving_eq (hold : e.buffer = older ++ [x]) (calm : ∀ y ∈ older, y.status ≠ .receiving)
    (hx : x.status = .receiving) : e.arriving = some x := by
  have quiet : older.find? (fun y => y.status == .receiving) = none :=
    List.find?_eq_none.mpr fun y hy => by simpa using calm y hy
  unfold EgressEngine.arriving
  rw [hold, List.find?_append, quiet]
  simp [hx]

theorem EgressEngine.dropArriving_eq (hold : e.buffer = older ++ [x]) (calm : ∀ y ∈ older, y.status ≠ .receiving)
    (hx : x.status = .receiving) : e.dropArriving = { e with buffer := older } := by
  have kept : older.filter (fun y => y.status != .receiving) = older :=
    List.filter_eq_self.mpr fun y hy => by simpa using calm y hy
  have left : e.buffer.filter (fun y => y.status != .receiving) = older := by
    rw [hold, List.filter_append, kept]
    simp [hx]
  unfold EgressEngine.dropArriving
  rw [left]

theorem EgressEngine.setArriving_eq (hold : e.buffer = older ++ [x]) (calm : ∀ y ∈ older, y.status ≠ .receiving)
    (hx : x.status = .receiving) (f : Entry → Entry) : e.setArriving f = { e with buffer := older ++ [f x] } := by
  have kept : older.map (fun y => if y.status = .receiving then f y else y) = older := by
    refine (List.map_congr_left fun y hy => ?_).trans (List.map_id older)
    exact if_neg (calm y hy)
  have changed : e.buffer.map (fun y => if y.status = .receiving then f y else y) = older ++ [f x] := by
    rw [hold, List.map_append, kept]
    simp [hx]
  unfold EgressEngine.setArriving
  rw [changed]

end Arriving

/-! ### The transmit stores -/

section TransmitStores

variable {e : EgressEngine} {k : SlotNo}

theorem EgressEngine.freeStore_of_none (h0 : e.store0 ≠ .free) (h1 : e.store1 ≠ .free) : e.freeStore = none := by
  unfold EgressEngine.freeStore
  rw [if_neg h0, if_neg h1]

/-- The lower of the FREE stores (log entry 11). -/
theorem EgressEngine.freeStore_of_free (free : e.store k = .free) (lower : k = true → e.store0 ≠ .free) : e.freeStore = some k := by
  unfold EgressEngine.freeStore
  cases k with
  | false => exact if_pos free
  | true => exact (if_neg (lower rfl)).trans (if_pos free)

theorem EgressEngine.reservedStore_of_none (none : ∀ k d, e.store k ≠ .reserved d) : e.reservedStore = .none := by
  have h0 := none false
  have h1 := none true
  unfold EgressEngine.store at h0 h1
  unfold EgressEngine.reservedStore
  split
  next d h => exact absurd h (h0 d)
  next d h _ => exact absurd h (h1 d)
  next => rfl

theorem EgressEngine.reservedStore_of_reserved {d : Destination} (held : e.store k = .reserved d)
    (lower : k = true → ∀ d', e.store0 ≠ .reserved d') : e.reservedStore = some (k, d) := by
  unfold EgressEngine.reservedStore
  cases k with
  | false =>
    have h : e.store0 = .reserved d := held
    rw [h]
  | true =>
    have h : e.store1 = .reserved d := held
    split
    next d' h' => exact absurd h' (lower rfl d')
    next d' h' _ =>
      rw [h] at h'
      cases h'
      rfl
    next hn => exact absurd h (hn d)

theorem EgressEngine.reservedStore_isSome {d : Destination} (held : e.store k = .reserved d) : e.reservedStore.isSome = true := by
  unfold EgressEngine.reservedStore
  split
  · rfl
  · rfl
  next h0 h1 =>
    cases k with
    | false => exact absurd held (h0 d)
    | true => exact absurd held (h1 d)

theorem EgressEngine.sendingStore_of_none (none : ∀ k f, e.store k ≠ .sending f) : e.sendingStore = .none := by
  have h0 := none false
  have h1 := none true
  unfold EgressEngine.store at h0 h1
  unfold EgressEngine.sendingStore
  split
  next f h => exact absurd h (h0 f)
  next f h _ => exact absurd h (h1 f)
  next => rfl

theorem EgressEngine.sendingStore_of_sending {f : StoredFrame} (held : e.store k = .sending f)
    (lower : k = true → ∀ f', e.store0 ≠ .sending f') : e.sendingStore = some (k, f) := by
  unfold EgressEngine.sendingStore
  cases k with
  | false =>
    have h : e.store0 = .sending f := held
    rw [h]
  | true =>
    have h : e.store1 = .sending f := held
    split
    next f' h' => exact absurd h' (lower rfl f')
    next f' h' _ =>
      rw [h] at h'
      cases h'
      rfl
    next hn => exact absurd h (hn f)

/-- The older of two HELD frames, or a lone one (R101). -/
theorem EgressEngine.oldestHeld_of_held {f : StoredFrame} (held : e.store k = .held f)
    (older : ∀ f', e.store (!k) = .held f' → e.youngest = !k) : e.oldestHeld = some (k, f) := by
  unfold EgressEngine.oldestHeld
  cases k with
  | false =>
    have h : e.store0 = .held f := held
    have young : ∀ f', e.store1 = .held f' → e.youngest = true := older
    rw [h]
    cases other : e.store1 with
    | held f' => exact if_pos (young f' other)
    | free => rfl
    | reserved d => rfl
    | sending f' => rfl
  | true =>
    have h : e.store1 = .held f := held
    have young : ∀ f', e.store0 = .held f' → e.youngest = false := older
    rw [h]
    cases other : e.store0 with
    | held f' => exact if_neg (by simp [young f' other])
    | free => rfl
    | reserved d => rfl
    | sending f' => rfl

end TransmitStores

/-! ### The frame stores -/

/-- The lowest store of which something holds. -/
theorem findStore_eq_some {p : StoreId → Bool} {j : StoreId} (holds : p j = true) (lower : ∀ n, n < j → p n = false) :
    ([0, 1, 2, 3] : List StoreId).find? p = some j := by
  rcases fin_four_cases j with rfl | rfl | rfl | rfl
  · simp [holds]
  · simp [holds, lower 0 (by decide)]
  · simp [holds, lower 0 (by decide), lower 1 (by decide)]
  · simp [holds, lower 0 (by decide), lower 1 (by decide), lower 2 (by decide)]

theorem findStore_eq_none {p : StoreId → Bool} (fails : ∀ n, p n = false) : ([0, 1, 2, 3] : List StoreId).find? p = none := by
  simp [fails]

section FrameStores

variable {g : IngressEngine} {j : StoreId}

theorem IngressEngine.findFree_of_free (free : g.store j = none) (lower : ∀ n, n < j → g.store n ≠ none) : g.findFree = some j :=
  findStore_eq_some (by rw [free]; rfl) fun n hn => by
    have taken := lower n hn
    cases h : g.store n with
    | none => exact absurd h taken
    | some x => rfl

theorem IngressEngine.findFree_of_none (taken : ∀ j, g.store j ≠ none) : g.findFree = none :=
  findStore_eq_none fun n => by
    cases h : g.store n with
    | none => exact absurd h (taken n)
    | some x => rfl

/-- A store is receiving from the loop. -/
theorem loopReceiving_iff (x : Option FrameStore) : (match x with
    | some f => f.source == .loop && f.status == .receiving
    | none => false) = true ↔ ∃ z, x = some ⟨.loop, z, .receiving⟩ := by
  rcases x with _ | ⟨src, z, st⟩
  · simp
  · cases src <;> simp

theorem IngressEngine.loopStore_of_receiving (receiving : ∃ z, g.store j = some ⟨.loop, z, .receiving⟩)
    (lower : ∀ n z, n < j → g.store n ≠ some ⟨.loop, z, .receiving⟩) : g.loopStore = some j := by
  refine findStore_eq_some ((loopReceiving_iff _).mpr receiving) fun n hn => ?_
  refine eq_false_of_ne_true fun h => ?_
  obtain ⟨z, hz⟩ := (loopReceiving_iff _).mp h
  exact lower n z hn hz

theorem IngressEngine.loopStore_of_none (none : ∀ n z, g.store n ≠ some ⟨.loop, z, .receiving⟩) : g.loopStore = .none := by
  refine findStore_eq_none fun n => eq_false_of_ne_true fun h => ?_
  obtain ⟨z, hz⟩ := (loopReceiving_iff _).mp h
  exact none n z hz

end FrameStores

end Sys2Proof.Machine
end

section
/-!
PROOFS. The Egress Engine: reception, the head of the queue and the allocation answer (sections 6.2 to 6.4 and 6.6).
-/

namespace Sys2Proof.Machine

/-! ### Cell claims -/

/-- An octet of an outbound frame at its engine (R92). -/
theorem execCellClaim_eq {s : State} (running : s.port.resetting = false) (l : LaneId) (first : Bool) (b : Byte) :
    exec (.cellClaim l first b) s = .next { s with lanes := s.lanes.set l ((s.lane l).octetArrives first b) } :=
  State.laneTakes running l _

theorem execCellClaim_unchanged {s : State} (running : s.port.resetting = false) (l : LaneId) (first : Bool) (b : Byte)
    (unchanged : (s.lane l).octetArrives first b = s.lane l) : exec (.cellClaim l first b) s = .next s :=
  State.laneTakes_unchanged running unchanged

/-- Settles O52. -/
theorem cellClaim : Obligations.CellClaim := by
  intro s l b running v e g cells occupancy holding gives full
  have holding_eq : ∀ q, v.afterBuffer { e with buffer := q } = { v with egress := holding q } := fun q => by
    simp only [holding]
    unfold Lane.afterBuffer EgressEngine.occupancyEvent
    by_cases same : occupancy q = occupancy e.buffer
    · exact (if_pos same).trans (by rw [if_pos same]; rfl)
    refine (if_neg same).trans ?_
    rw [if_neg same]
    by_cases off : v.control.mode = .off
    · simp only [if_pos off]
      rfl
    simp only [if_neg off]
    by_cases high : e.asserted = false ∧ g.highMark ≤ occupancy q
    · exact (congrArg v.withEgress (if_pos high)).trans (by rw [if_pos high]; rfl)
    refine (congrArg v.withEgress (if_neg high)).trans ?_
    rw [if_neg high]
    by_cases low : e.asserted = true ∧ occupancy q < g.lowMark
    · exact (congrArg v.withEgress (if_pos low)).trans (by rw [if_pos low]; rfl)
    · exact (congrArg v.withEgress (if_neg low)).trans (by rw [if_neg low]; rfl)
  have gives_of : ∀ first w, v.octetArrives first b = w → gives first w := fun first w h => by
    rw [← h]
    exact execCellClaim_eq running l first b
  refine ⟨fun calm => ?_, fun older x hold calm hx => ?_⟩
  · have none_arriving : v.egress.arriving = none := EgressEngine.arriving_of_none calm
    have kept : e.dropArriving = { e with buffer := e.buffer } := EgressEngine.dropArriving_of_none none_arriving
    refine ⟨fun room => gives_of true _ ?_, fun no_room => gives_of true _ ?_, execCellClaim_unchanged running l false b ?_⟩
    · unfold Lane.octetArrives
      rw [none_arriving]
      exact (if_neg (Nat.not_le.mpr room)).trans (holding_eq _)
    · unfold Lane.octetArrives
      rw [none_arriving]
      refine (if_pos no_room).trans ?_
      unfold Lane.bufferFull
      rw [show v.egress.dropArriving = _ from kept, holding_eq]
    · unfold Lane.octetArrives
      rw [show (s.lane l).egress.arriving = none from none_arriving]
      rfl
  · intro claims
    have arriving : v.egress.arriving = some x := EgressEngine.arriving_eq hold calm hx
    refine ⟨execCellClaim_unchanged running l true b ?_, fun hc no_room => gives_of false _ ?_, fun room => gives_of false _ ?_⟩
    · unfold Lane.octetArrives
      rw [show (s.lane l).egress.arriving = some x from arriving]
      rfl
    · unfold Lane.octetArrives
      rw [arriving]
      have stops : x.octets.length % Config.cellOctets = 0 ∧ x.cells < Config.frameCells ∧
          Config.holdingCells ≤ v.egress.occupancy := ⟨hc.1, hc.2, no_room⟩
      refine (if_pos stops).trans ?_
      unfold Lane.bufferFull
      rw [show v.egress.dropArriving = { e with buffer := older } from EgressEngine.dropArriving_eq hold calm hx, holding_eq]
    · unfold Lane.octetArrives
      rw [arriving]
      have goes_on : ¬ (x.octets.length % Config.cellOctets = 0 ∧ x.cells < Config.frameCells ∧
          Config.holdingCells ≤ v.egress.occupancy) := fun ⟨h1, h2, h3⟩ => room ⟨⟨h1, h2⟩, h3⟩
      refine (if_neg goes_on).trans ?_
      rw [EgressEngine.setArriving_eq hold calm hx]
      exact holding_eq _

/-! ### The receive completion of an outbound frame -/

/-- The flow key of a frame (R81). -/
theorem flowKeyOf_eq (l : LaneId) (f : Frame) : flowKeyOf l f = {
    lane := l
    destination := BitVec.ofNat 48 (fieldAt f 0 6)
    vlan := if fieldAt f 12 2 = 0x8100 then some (BitVec.ofNat 12 (fieldAt f 14 2)) else none } := by
  have vlan : vlanId f = if fieldAt f 12 2 = 0x8100 then some (BitVec.ofNat 12 (fieldAt f 14 2)) else none :=
    if_congr beq_iff_eq rfl rfl
  unfold flowKeyOf
  rw [vlan]
  rfl

section ReceiveCompletion

variable {s : State} {l : LaneId} {x : Entry}

/-- The receive completion of an outbound frame that has an entry (R93). -/
theorem execEgressReceiveCompletion_eq (running : s.port.resetting = false) (arriving : (s.lane l).egress.arriving = some x) {u : State}
    (gives : s.completeOutbound l x.octets = u) (manager : s.manager = u.manager) (port : s.port = u.port) :
    exec (.egressReceiveCompletion l) s = .next u := by
  have run : exec (.egressReceiveCompletion l) s = s.unlessResetting (s.takes (s.completeOutbound l x.octets)) := by
    show s.unlessResetting _ = _
    rw [arriving]
  rw [run, gives]
  exact State.eventTakes running manager port

/-- A frame that passes the checks of R93 and is not a MAC control frame (R95). -/
theorem State.completeOutbound_disposes {f : Frame} (long : 64 ≤ f.length) (fcs : fcsMatches f = true)
    (short : f.length ≤ (s.lane l).control.config.maxFrame) (control : fieldAt f 12 2 ≠ 0x8808) :
    s.completeOutbound l f = s.disposeOutbound l f := by
  have not_control : ¬ macControl f = true := fun h => control (beq_iff_eq.mp h)
  unfold State.completeOutbound
  rw [if_neg (Nat.not_lt.mpr long), fcs, if_neg (by decide), if_neg (Nat.not_lt.mpr short), if_neg not_control]

theorem State.disposeOutbound_off {f : Frame} (off : (s.lane l).control.mode = .off) :
    s.disposeOutbound l f = s.setLane l ((s.lane l).dropOutbound .laneOff) := by
  unfold State.disposeOutbound
  rw [off]

theorem State.disposeOutbound_clear {f : Frame} (clear : (s.lane l).control.mode = .clear) :
    s.disposeOutbound l f = s.setLane l ((s.lane l).queueOutbound .bypass) := by
  unfold State.disposeOutbound
  rw [clear]

theorem State.disposeOutbound_missed {f : Frame} (mode : (s.lane l).control.mode = .protect ∨ (s.lane l).control.mode = .looptest)
    (missed : s.flow (flowKeyOf l f) = none) :
    s.disposeOutbound l f = s.applyAction l (s.lane l).control.config.defaultAction.flowAction := by
  unfold State.disposeOutbound State.classify
  rcases mode with m | m
  all_goals rw [m, missed]

theorem State.disposeOutbound_hit {f : Frame} {n : FlowEntry} (mode : (s.lane l).control.mode = .protect ∨ (s.lane l).control.mode = .looptest)
    (found : s.flow (flowKeyOf l f) = some n) :
    s.disposeOutbound l f = (s.updateFlow (flowKeyOf l f) FlowEntry.hit).applyAction l n.action := by
  unfold State.disposeOutbound State.classify
  rcases mode with m | m
  all_goals rw [m, found]

end ReceiveCompletion

/-- Settles O53. -/
theorem egressReceiveCompletion : Obligations.EgressReceiveCompletion := by
  intro s l older x running hold calm hx v e f gives left drop queue passes
  have arriving : v.egress.arriving = some x := EgressEngine.arriving_eq hold calm hx
  have without : v.egress.dropArriving = { e with buffer := older } := EgressEngine.dropArriving_eq hold calm hx
  have gives_of : ∀ u, s.completeOutbound l f = u → s.manager = u.manager → s.port = u.port → gives u := fun u =>
    execEgressReceiveCompletion_eq running arriving
  have dropped : ∀ why, v.dropOutbound why = left.countOut why := fun why => by
    unfold Lane.dropOutbound
    rw [without]
  have drop_eq : ∀ why, s.setLane l (v.dropOutbound why) = { s with lanes := drop why } := fun why => by
    rw [dropped]
    rfl
  have queued : ∀ d, v.queueOutbound d = { v with egress := { e with
      buffer := older ++ [{ x with status := .queued, disposition := some d }] } } := fun d => by
    unfold Lane.queueOutbound
    rw [EgressEngine.setArriving_eq hold calm hx]
    rfl
  have queue_eq : ∀ d, s.setLane l (v.queueOutbound d) = { s with lanes := queue d } := fun d => by
    rw [queued]
    rfl
  have disposes : passes → fieldAt f 12 2 ≠ 0x8808 → s.completeOutbound l f = s.disposeOutbound l f :=
    fun ⟨long, fcs, short⟩ control => State.completeOutbound_disposes long fcs short control
  refine ⟨fun short => gives_of _ ((if_pos short).trans (drop_eq _)) rfl rfl, fun long bad => gives_of _ ?_ rfl rfl,
    fun long fcs tooLong => gives_of _ ?_ rfl rfl, fun ⟨long, fcs, short⟩ control => gives_of _ ?_ rfl rfl,
    fun pass plain off => gives_of _ ?_ rfl rfl, fun pass plain clear => gives_of _ ?_ rfl rfl, fun pass plain mode => ?_⟩
  · exact (if_neg (Nat.not_lt.mpr long)).trans ((if_pos bad).trans (drop_eq _))
  · exact (if_neg (Nat.not_lt.mpr long)).trans ((if_neg (by simp [fcs])).trans ((if_pos tooLong).trans (drop_eq _)))
  · have is_control : macControl f = true := beq_iff_eq.mpr control
    refine (if_neg (Nat.not_lt.mpr long)).trans ((if_neg (by simp [fcs])).trans ((if_neg (Nat.not_lt.mpr short)).trans
      ((if_pos is_control).trans ?_)))
    obtain ⟨a, r, w, shape⟩ := v.afterBuffer_shape { e with buffer := older }
    have ingress : left.ingress = v.ingress := by
      simp only [left]
      rw [shape]
      rfl
    have consumed : v.consumeSystemControl f = { left with ingress := { v.ingress with
        indications := v.ingress.indications ++ (if fieldAt f 14 2 = 1 then [fieldAt f 16 2] else []) } } := by
      unfold Lane.consumeSystemControl pauseQuanta
      rw [without, ← ingress]
      by_cases pause : fieldAt f 14 2 = 1
      · simp only [if_pos pause]
        rfl
      · simp only [if_neg pause, List.append_nil]
        rfl
    exact congrArg (s.setLane l) consumed
  · exact (disposes pass plain).trans ((State.disposeOutbound_off off).trans (drop_eq _))
  · exact (disposes pass plain).trans ((State.disposeOutbound_clear clear).trans (queue_eq _))
  · intro key hit found
    have key_eq : flowKeyOf l f = key := flowKeyOf_eq l f
    have missed : found = none → s.completeOutbound l f = s.applyAction l v.control.config.defaultAction.flowAction := fun h =>
      (disposes pass plain).trans (State.disposeOutbound_missed mode (by rw [key_eq]; exact h))
    have struck : ∀ n, found = some n → s.completeOutbound l f = State.applyAction { s with flowMap := hit } l n.action := fun n h => by
      refine (disposes pass plain).trans ((State.disposeOutbound_hit mode (by rw [key_eq]; exact h)).trans ?_)
      rw [key_eq]
      rfl
    have drop_hit : ∀ why, State.setLane { s with flowMap := hit } l (v.dropOutbound why) =
        { s with flowMap := hit, lanes := drop why } := fun why => by
      rw [dropped]
      rfl
    have queue_hit : ∀ d, State.setLane { s with flowMap := hit } l (v.queueOutbound d) =
        { s with flowMap := hit, lanes := queue d } := fun d => by
      rw [queued]
      rfl
    refine ⟨fun none bypass => gives_of _ ?_ rfl rfl, fun none discard => gives_of _ ?_ rfl rfl,
      fun n some bypass => gives_of _ ?_ rfl rfl, fun n some discard => gives_of _ ?_ rfl rfl,
      fun n i some protect => gives_of _ ?_ rfl rfl⟩
    · exact (missed none).trans (by rw [bypass]; exact queue_eq _)
    · exact (missed none).trans (by rw [discard]; exact drop_eq _)
    · exact (struck n some).trans (by rw [bypass]; exact queue_hit _)
    · exact (struck n some).trans (by rw [discard]; exact drop_hit _)
    · exact (struck n some).trans (by rw [protect]; exact congrArg (fun u => State.sendEnqueue u l i) (queue_hit _))

end Sys2Proof.Machine
end

section
/-!
PROOFS. The Egress Engine: the head of the queue and the allocation answer (sections 6.3, 6.4 and 6.6).
-/

namespace Sys2Proof.Machine

/-! ### The head of the queue -/

section Head

variable {s : State} {l : LaneId} {x : Entry} {rest : List Entry}

/-- The QUEUED head at its engine (R96). -/
theorem execHeadTaken_eq (running : s.port.resetting = false) (hold : (s.lane l).egress.buffer = x :: rest) (queued : x.status = .queued)
    {u : State} (gives : s.takeHead l x = u) (manager : s.manager = u.manager) (port : s.port = u.port) :
    exec (.headTaken l) s = .next u := by
  have head : (s.lane l).egress.head = some x := by
    unfold EgressEngine.head
    rw [hold]
    exact if_neg (by rw [queued]; decide)
  have run : exec (.headTaken l) s = s.unlessResetting (s.takes (s.takeHead l x)) := by
    show s.unlessResetting _ = _
    rw [head]
    exact congrArg _ (if_pos queued)
  rw [run, gives]
  exact State.eventTakes running manager port

theorem State.takeHead_of_wait (h : (s.lane l).headAction x = .wait) : s.takeHead l x = s := by
  unfold State.takeHead
  rw [h]

theorem State.takeHead_of_drop {why : OutCounter} (h : (s.lane l).headAction x = .drop why) : s.takeHead l x = s.dropHead l x why := by
  unfold State.takeHead
  rw [h]

theorem State.takeHead_of_start {k : SlotNo} {d : Destination} (h : (s.lane l).headAction x = .start k d) :
    s.takeHead l x = s.setLane l ((s.lane l).startHead x k d) := by
  unfold State.takeHead
  rw [h]

/-- The row that a head meets at a lane that sends to the line (R96). -/
theorem Lane.headAction_line {v : Lane} (mode : v.control.mode = .clear ∨ v.control.mode = .protect) : v.headAction x =
    if v.control.lineUp = false then .drop .linkDown
    else if v.egress.linePause.isSome then .wait
    else v.egress.startAction x .line := by
  unfold Lane.headAction
  rcases mode with m | m
  all_goals rw [m]

theorem Lane.headAction_off {v : Lane} (off : v.control.mode = .off) : v.headAction x = .drop .laneOff := by
  unfold Lane.headAction
  rw [off]

theorem Lane.headAction_loop {v : Lane} (loop : v.control.mode = .looptest) : v.headAction x = v.egress.startAction x .loop := by
  unfold Lane.headAction
  rw [loop]

theorem EgressEngine.startAction_of_none {e : EgressEngine} (none : e.freeStore = none) (d : Destination) :
    e.startAction x d = .wait := by
  unfold EgressEngine.startAction
  rw [none]

theorem EgressEngine.startAction_bypass {e : EgressEngine} {k : SlotNo} (free : e.freeStore = some k) (d : Destination)
    (bypass : x.disposition = some .bypass) : e.startAction x d = .start k d := by
  unfold EgressEngine.startAction
  rw [free, bypass]

theorem EgressEngine.startAction_protect {e : EgressEngine} {k : SlotNo} {i : Nat} (free : e.freeStore = some k) (d : Destination)
    (protect : x.disposition = some (.protect i)) :
    e.startAction x d = if e.reservedStore.isSome then .wait else .start k d := by
  unfold EgressEngine.startAction
  rw [free, protect]

end Head

/-- The protected octets of an outbound frame (R39). -/
theorem protectedCount_eq (f : Frame) : protectedCount f = f.length - 12 - (if fieldAt f 12 2 = 0x8100 then 4 else 0) - 4 := by
  have tag : tagOctets f = if fieldAt f 12 2 = 0x8100 then 4 else 0 := if_congr beq_iff_eq rfl rfl
  unfold protectedCount
  rw [tag]

/-- Settles O54. -/
theorem headTaken : Obligations.HeadTaken := by
  intro s l x rest running hold queued v e m gives dropped toLine starts destination
  have gives_of : ∀ u, s.takeHead l x = u → s.manager = u.manager → s.port = u.port → gives u := fun u =>
    execHeadTaken_eq running hold queued
  have without : e.dropHead = { e with buffer := rest } := by
    unfold EgressEngine.dropHead
    rw [hold]
    rfl
  have drops : ∀ why, v.headAction x = .drop why → gives (dropped why) := fun why h => by
    refine gives_of _ ((State.takeHead_of_drop h).trans ?_) rfl rfl
    have sent : (protectRecords [x]).map (fun i => (l, i)) =
        (match x.disposition with | some (.protect i) => [(l, i)] | _ => []) := by
      unfold protectRecords
      rcases h : x.disposition with _ | _ | _ <;> simp [h]
    have explicit : s.dropHead l x why = { s with
        lanes := s.lanes.set l ((v.afterBuffer { e with buffer := rest }).countOut why)
        transit := { s.transit with withdrawals := s.transit.withdrawals ++ (protectRecords [x]).map (fun i => (l, i)) } } := by
      unfold State.dropHead
      rw [show (s.lane l).egress.dropHead = _ from without]
      rfl
    exact explicit.trans (congrArg (fun ws => ({ s with
      lanes := s.lanes.set l ((v.afterBuffer { e with buffer := rest }).countOut why)
      transit := { s.transit with withdrawals := s.transit.withdrawals ++ ws } } : State)) sent)
  have waits : v.headAction x = .wait → gives s := fun h => gives_of _ (State.takeHead_of_wait h) rfl rfl
  have started : starts → v.headAction x = e.startAction x destination := by
    rintro (loop | ⟨line, up, idle⟩)
    · exact (Lane.headAction_loop loop).trans (by simp only [destination, if_pos loop]; rfl)
    · have not_loop : m ≠ .looptest := by rcases line with h | h <;> rw [h] <;> decide
      have idle' : ¬ v.egress.linePause.isSome = true := by rw [show v.egress.linePause = none from idle]; decide
      refine (Lane.headAction_line line).trans ((if_neg (by simp [up])).trans ((if_neg idle').trans ?_))
      simp only [destination, if_neg not_loop]
      rfl
  refine ⟨fun off => drops _ (Lane.headAction_off off),
    fun line down => drops _ ((Lane.headAction_line line).trans (if_pos down)), fun line up paused => waits ?_,
    fun go h0 h1 => waits ?_, fun go i k d protect reserved => ?_, fun go k free lower => ⟨fun bypass => ?_, fun i protect calm => ?_⟩⟩
  · exact (Lane.headAction_line line).trans ((if_neg (by simp [up])).trans (if_pos (Option.isSome_iff_ne_none.mpr paused)))
  · exact (started go).trans (EgressEngine.startAction_of_none (EgressEngine.freeStore_of_none h0 h1) _)
  · refine waits ((started go).trans ?_)
    cases found : e.freeStore with
    | none => exact EgressEngine.startAction_of_none found _
    | some k' => exact (EgressEngine.startAction_protect found _ protect).trans (if_pos (EgressEngine.reservedStore_isSome reserved))
  · have action := (started go).trans (EgressEngine.startAction_bypass (EgressEngine.freeStore_of_free free lower) _ bypass)
    refine gives_of _ ((State.takeHead_of_start action).trans ?_) rfl rfl
    have start : v.startHead x k destination = v.afterBuffer
        ({ e with buffer := rest, youngest := k }.setStore k (.held ⟨x.octets, destination, none, 0⟩)) := by
      unfold Lane.startHead Lane.startBypass
      rw [bypass, show v.egress.dropHead = _ from without]
      cases k <;> rfl
    exact congrArg (s.setLane l) start
  · intro octets asking
    have action := (started go).trans ((EgressEngine.startAction_protect (EgressEngine.freeStore_of_free free lower) _ protect).trans
      (if_neg (by rw [EgressEngine.reservedStore_of_none calm]; decide)))
    refine gives_of _ ((State.takeHead_of_start action).trans ?_) rfl rfl
    have requested : e.requestHead = { e with buffer := { x with status := .requested } :: rest } := by
      unfold EgressEngine.requestHead
      rw [hold]
    have start : v.startHead x k destination = { v with egress := asking.setStore k (.reserved destination) } := by
      unfold Lane.startHead Lane.startProtect
      rw [protect, show v.egress.requestHead = _ from requested, protectedCount_eq]
      cases k <;> rfl
    exact congrArg (s.setLane l) start

/-! ### The allocation answer -/

section Answer

variable {e : EgressEngine} {k : SlotNo}

theorem EgressEngine.requestedHead_of_requested {x : Entry} {rest : List Entry} (hold : e.buffer = x :: rest)
    (requested : x.status = .requested) : e.requestedHead = some x := by
  unfold EgressEngine.requestedHead EgressEngine.head
  rw [hold]
  simp [requested]

theorem EgressEngine.requestedHead_of_none (none : ∀ x rest, e.buffer = x :: rest → x.status ≠ .requested) :
    e.requestedHead = .none := by
  unfold EgressEngine.requestedHead EgressEngine.head
  cases hold : e.buffer with
  | nil => rfl
  | cons x rest =>
    have other := none x rest hold
    dsimp only
    split
    · rfl
    · simp [other]

theorem EgressEngine.settle_requested {x : Entry} {rest : List Entry} (hold : e.buffer = x :: rest) (requested : x.status = .requested)
    (t : TransmitStore) : e.settle k t = { e with buffer := rest, request := none, answer := none }.setStore k t := by
  unfold EgressEngine.settle
  rw [EgressEngine.requestedHead_of_requested hold requested]
  refine (if_pos rfl).trans ?_
  have tail : e.buffer.tail = rest := by rw [hold]; rfl
  rw [← tail]
  cases k <;> rfl

theorem EgressEngine.settle_cut (none : ∀ x rest, e.buffer = x :: rest → x.status ≠ .requested) (t : TransmitStore) :
    e.settle k t = { e with buffer := e.buffer, request := .none, answer := .none }.setStore k t := by
  unfold EgressEngine.settle
  rw [EgressEngine.requestedHead_of_none none]
  rfl

end Answer

/-- The answer to an allocation request at its engine (R98). -/
theorem execAllocationAnswer_eq {s : State} {l : LaneId} {a : AllocationAnswer} {q : AllocationRequest} {k : SlotNo} {d : Destination}
    (running : s.port.resetting = false) (answer : (s.lane l).egress.answer = some a) (request : (s.lane l).egress.request = some q)
    (reserved : (s.lane l).egress.reservedStore = some (k, d)) {u : State}
    (gives : s.takeAllocationAnswer l k d a q.protectedOctets = u) (manager : s.manager = u.manager) (port : s.port = u.port) :
    exec (.allocationAnswer l) s = .next u := by
  have run : exec (.allocationAnswer l) s = s.unlessResetting (s.takes (s.takeAllocationAnswer l k d a q.protectedOctets)) := by
    show s.unlessResetting _ = _
    rw [answer, request, reserved]
  rw [run, gives]
  exact State.eventTakes running manager port

/-- Settles O55. -/
theorem allocationAnswerTaken : Obligations.AllocationAnswerTaken := by
  intro s l a q k d running answer request held lower v e gives settled counter
  have reserved : (s.lane l).egress.reservedStore = some (k, d) := EgressEngine.reservedStore_of_reserved held lower
  have gives_of : ∀ w sent, s.takeAllocationAnswer l k d a q.protectedOctets = (s.setLane l w).sendReleases sent → gives w sent :=
    fun w sent h => execAllocationAnswer_eq running answer request reserved h rfl rfl
  have counter_eq : ∀ why, AllocationRefusal.counter why = counter why := fun why => by cases why <;> rfl
  have nothing_sent : ∀ w, s.setLane l w = (s.setLane l w).sendReleases [] := fun w => by
    unfold State.sendReleases
    rw [List.append_nil]
  refine ⟨fun x rest hold requested => ?_, fun none => ?_⟩
  · have settle : ∀ t, v.afterBuffer (v.egress.settle k t) = settled rest t := fun t =>
      congrArg v.afterBuffer (EgressEngine.settle_requested hold requested t)
    have head : (s.lane l).egress.requestedHead = some x := EgressEngine.requestedHead_of_requested hold requested
    refine ⟨fun why refused => gives_of _ _ ?_, fun g granted up => gives_of _ _ ?_, fun g granted line down => gives_of _ _ ?_⟩
    · rw [← nothing_sent, refused, ← counter_eq, ← settle]
      rfl
    · have sent : ¬ (d = .line ∧ (s.lane l).control.lineUp = false) := by
        rintro ⟨line, down⟩
        rcases up with h | h
        · rw [line] at h
          cases h
        · exact Bool.noConfusion (down.symm.trans h)
      rw [← nothing_sent, ← settle]
      rw [granted]
      unfold State.takeAllocationAnswer
      dsimp only
      rw [head]
      exact if_neg sent
    · rw [← settle]
      rw [granted]
      unfold State.takeAllocationAnswer
      dsimp only
      rw [head]
      exact if_pos ⟨line, down⟩
  · have settle : ∀ t, v.afterBuffer (v.egress.settle k t) = settled e.buffer t := fun t =>
      congrArg v.afterBuffer (EgressEngine.settle_cut none t)
    have head : (s.lane l).egress.requestedHead = .none := EgressEngine.requestedHead_of_none none
    refine ⟨fun why refused => gives_of _ _ ?_, fun g granted => gives_of _ _ ?_⟩
    · rw [← nothing_sent, refused, ← counter_eq, ← settle]
      rfl
    · rw [← settle]
      rw [granted]
      unfold State.takeAllocationAnswer
      dsimp only
      rw [head]
      rfl

end Sys2Proof.Machine
end

section
/-!
PROOFS. The Egress Engine: transmission and pause (sections 6.5, 6.7 and 6.8), with the loop handover and the system-side pause.
-/

namespace Sys2Proof.Machine

/-! ### Transmission -/

section Transmission

variable {s : State} {l : LaneId} {k : SlotNo} {f : StoredFrame}

/-- A completed transmission at its engine (R101). -/
theorem execTransmissionCompletion_eq (running : s.port.resetting = false) (sending : (s.lane l).egress.sendingStore = some (k, f)) :
    exec (.transmissionCompletion l) s = .next (s.completeTransmission l k f) := by
  have run : exec (.transmissionCompletion l) s = s.unlessResetting (s.takes (s.completeTransmission l k f)) := by
    show s.unlessResetting _ = _
    rw [sending]
  rw [run]
  exact State.eventTakes running rfl rfl

/-- The receive completion of a loop frame is the end of its transmission (R111). -/
theorem execIngressReceiveCompletion_loop (running : s.port.resetting = false)
    (sending : (s.lane l).egress.sendingStore = some (k, f)) (loop : f.destination = .loop) :
    exec (.ingressReceiveCompletion l .loop) s = .next (s.completeTransmission l k f) := by
  have run : exec (.ingressReceiveCompletion l .loop) s = s.unlessResetting (s.completeLoop l) := by
    show s.unlessResetting _ = _
    cases (s.lane l).ingress.receiver <;> rfl
  have complete : s.completeLoop l = s.takes (s.completeTransmission l k f) := by
    unfold State.completeLoop
    rw [sending]
    exact if_pos loop
  rw [run, complete]
  exact State.eventTakes running rfl rfl

/-- A completed transmission to the line (R101). -/
theorem State.completeTransmission_line (line : f.destination = .line) : s.completeTransmission l k f =
    (s.setLane l { (s.lane l).endTransmission k with lastLineFrame := some f.octets }).sendReleases (f.release .completed) := by
  unfold State.completeTransmission
  rw [line]

/-- A completed handover to the loop, whose frame is in reception at a store (R101, R111). -/
theorem State.completeTransmission_loop {j : StoreId} (loop : f.destination = .loop) (store : (s.lane l).ingress.loopStore = some j) :
    s.completeTransmission l k f = (s.setLane l (((s.lane l).endTransmission k).completeInbound s.port.envelopeType (some j) .loop
      f.octets)).sendReleases (f.release .completed) := by
  have same : ((s.lane l).endTransmission k).ingress.loopStore = some j := store
  unfold State.completeTransmission
  dsimp only
  rw [loop, same]

end Transmission

/-- The handover of a loop frame begins at both engines (R101, R111). -/
theorem Lane.beginLoop_eq {v : Lane} {k : SlotNo} {f : StoredFrame} {j : StoreId} (idle : v.egress.sendingStore = none)
    (oldest : v.egress.oldestHeld = some (k, f)) (loop : f.destination = .loop) (free : v.ingress.findFree = some j)
    (none_receiving : v.ingress.loopStore = none) :
    v.beginLoop = (v.withEgress (v.egress.setStore k (.sending f))).withIngress (v.ingress.claim j .loop) := by
  have ready : v.loopReady = some (k, f, j) := by
    unfold Lane.loopReady
    rw [idle, oldest, free, none_receiving]
    exact if_pos loop
  unfold Lane.beginLoop
  rw [ready]

theorem Lane.beginTransmission_line {v : Lane} {k : SlotNo} {f : StoredFrame} (idle : v.egress.sendingStore = none)
    (oldest : v.egress.oldestHeld = some (k, f)) (line : f.destination = .line) : v.beginTransmission =
    if v.egress.linePause.isSome then v else v.withEgress (v.egress.setStore k (.sending f)) := by
  unfold Lane.beginTransmission
  rw [idle, oldest]
  dsimp only
  rw [line]

theorem Lane.beginTransmission_loop {v : Lane} {k : SlotNo} {f : StoredFrame} (idle : v.egress.sendingStore = none)
    (oldest : v.egress.oldestHeld = some (k, f)) (loop : f.destination = .loop) : v.beginTransmission = v.beginLoop := by
  unfold Lane.beginTransmission
  rw [idle, oldest]
  dsimp only
  rw [loop]

theorem Lane.beginTransmission_busy {v : Lane} {k : SlotNo} {f : StoredFrame} (busy : v.egress.sendingStore = some (k, f)) :
    v.beginTransmission = v := by
  unfold Lane.beginTransmission
  rw [busy]

/-- Settles O56. -/
theorem transmissionBeginsAndCompletes : Obligations.TransmissionBeginsAndCompletes := by
  intro s l k f running v e gives sent finished
  refine ⟨fun held calm older => ?_, fun sending lower => ?_⟩
  · have idle : v.egress.sendingStore = none := EgressEngine.sendingStore_of_none fun k' f' h => by
      by_cases same : k' = k
      · subst same
        rw [show v.egress.store k' = .held f from held] at h
        cases h
      · have other : k' = !k := by cases k <;> cases k' <;> first | rfl | exact absurd rfl same
        subst other
        exact calm f' h
    have oldest : v.egress.oldestHeld = some (k, f) := EgressEngine.oldestHeld_of_held held older
    refine ⟨fun line unpaused => ?_, fun line paused => ?_, fun loop j free lowest none_receiving => ?_⟩
    · have begins : v.beginTransmission = { v with egress := e.setStore k (.sending f) } :=
        (Lane.beginTransmission_line idle oldest line).trans
          (if_neg (by rw [show v.egress.linePause = none from unpaused]; decide))
      simp only [gives]
      rw [← begins]
      exact State.laneTakes running l _
    · exact State.laneTakes_unchanged running
        ((Lane.beginTransmission_line idle oldest line).trans (if_pos (Option.isSome_iff_ne_none.mpr paused)))
    · intro w
      have handed : v.beginLoop = w := Lane.beginLoop_eq idle oldest loop (IngressEngine.findFree_of_free free lowest)
        (IngressEngine.loopStore_of_none none_receiving)
      have begins : v.beginTransmission = w := (Lane.beginTransmission_loop idle oldest loop).trans handed
      refine ⟨?_, ?_⟩
      · simp only [gives]
        rw [← begins]
        exact State.laneTakes running l _
      · simp only [gives]
        rw [← handed]
        exact State.laneTakes running l _
  · have busy : v.egress.sendingStore = some (k, f) := EgressEngine.sendingStore_of_sending sending lower
    refine ⟨State.laneTakes_unchanged running (Lane.beginTransmission_busy busy), fun line => ?_,
      fun loop j receiving lowest => ?_⟩
    · have given := execTransmissionCompletion_eq running busy
      rw [State.completeTransmission_line line, StoredFrame.release_eq] at given
      exact given
    · intro t
      have ends : s.completeTransmission l k f = t := by
        rw [State.completeTransmission_loop loop (IngressEngine.loopStore_of_receiving receiving lowest), StoredFrame.release_eq]
        rfl
      rw [← ends]
      exact ⟨execTransmissionCompletion_eq running busy, execIngressReceiveCompletion_loop running busy loop⟩

/-! ### Pause -/

section PauseFrame

variable (q : Nat)

theorem pauseFrame_length : (pauseFrame q).length = 64 := by
  simp [pauseFrame, withFcs]

/-- The fields of a PAUSE frame (R106). -/
theorem pauseFrame_fields : fieldAt (pauseFrame q) 0 6 = 0x0180C2000001 ∧ fieldAt (pauseFrame q) 6 6 = 0 ∧
    fieldAt (pauseFrame q) 12 2 = 0x8808 ∧ fieldAt (pauseFrame q) 14 2 = 1 ∧ fieldAt (pauseFrame q) 18 42 = 0 :=
  ⟨rfl, rfl, rfl, rfl, rfl⟩

theorem pauseFrame_quanta (hq : q < 65536) : fieldAt (pauseFrame q) 16 2 = q := by
  have field : fieldAt (pauseFrame q) 16 2 = ofOctets (toOctets 2 q) := rfl
  rw [field, ofOctets_toOctets]
  exact Nat.mod_eq_of_lt hq

end PauseFrame

/-- Settles O57. -/
theorem pauseEvents : Obligations.PauseEvents := by
  intro s l running v e i g timer gives occupancy
  have gives_of : ∀ (c : Instr) (w : Lane), exec c s = s.unlessResetting (s.takes (s.setLane l w)) → gives c w := fun c w h =>
    h.trans (State.laneTakes running l w)
  have run : ∀ {c : Instr} {r : Result}, exec c s = s.unlessResetting r → exec c s = r := fun h =>
    h.trans (State.unlessResetting_running running _)
  refine ⟨fun q rest due => gives_of _ _ ?_, fun q rest due => gives_of _ _ ?_, fun due => gives_of _ _ ?_, fun due => gives_of _ _ ?_,
    fun n asserted refresh due => gives_of _ _ ?_, fun q waiting up idle => ⟨pauseFrame q, gives_of _ _ ?_, pauseFrame_length q,
      fcsMatches_withFcs _, ?_⟩, fun q waiting stops => ?_⟩
  · show s.unlessResetting _ = _
    rw [show (s.lane l).egress.indications = q :: rest from due]
    rfl
  · show s.unlessResetting _ = _
    rw [show (s.lane l).ingress.indications = q :: rest from due]
    rfl
  · exact congrArg s.unlessResetting (if_pos due)
  · exact congrArg s.unlessResetting (if_pos due)
  · have expired : v.refreshDue = true := by
      unfold Lane.refreshDue
      rw [show v.egress.asserted = true from asserted, show v.egress.refresh = some n from refresh]
      exact decide_eq_true due
    exact congrArg s.unlessResetting (if_pos expired)
  · show s.unlessResetting _ = _
    rw [show (s.lane l).egress.waitingPause = some q from waiting]
    exact congrArg s.unlessResetting (if_pos ⟨up, idle⟩)
  · obtain ⟨destination, source, type, opcode, rest⟩ := pauseFrame_fields q
    exact ⟨destination, source, type, opcode, pauseFrame_quanta q, rest⟩
  · have blocked : ¬ (v.control.systemUp = true ∧ v.ingress.sending = false) := by
      rintro ⟨up, idle⟩
      rcases stops with h | h
      · exact Bool.noConfusion (up.symm.trans h)
      · exact Bool.noConfusion (idle.symm.trans h)
    refine run (r := .next s) ?_
    show s.unlessResetting _ = _
    rw [show (s.lane l).egress.waitingPause = some q from waiting]
    exact congrArg s.unlessResetting (if_neg blocked)

end Sys2Proof.Machine
end

section
/-!
PROOFS. The Ingress Engine: reception and the answers at a frame store (sections 7.2 to 7.4, 7.6, 7.7 and 7.9).
-/

namespace Sys2Proof.Machine

/-! ### The fields of an enveloped frame -/

section Fields

variable (f : Frame)

theorem headerAt_eq : headerAt f = if fieldAt f 12 2 = 0x8100 then 16 else 12 := by
  have tag : tagOctets f = if fieldAt f 12 2 = 0x8100 then 4 else 0 := if_congr beq_iff_eq rfl rfl
  unfold headerAt
  rw [tag]
  split <;> rfl

theorem getLsbD_eq_decide {w : Nat} (b : BitVec w) (n : Nat) : b.getLsbD n = decide (b.toNat / 2 ^ n % 2 = 1) := by
  rw [BitVec.getLsbD, Nat.testBit_eq_decide_div_mod_eq]

/-- The fields of an enveloped frame's header, in octets from its type field on (section 11.1). -/
theorem headerFields_eq : headerFields f = ⟨BitVec.ofNat 24 (fieldAt f (headerAt f + 3) 3),
    BitVec.ofNat 2 (octet f (headerAt f + 2)).toNat, fieldAt f (headerAt f + 6) 6,
    decide ((octet f (headerAt f + 2)).toNat / 4 % 2 = 1)⟩ := by
  unfold headerFields controlOctet
  rw [getLsbD_eq_decide, BitVec.ofNat_toNat]
  rfl

variable {f}

theorem parseEnvelope_runt (short : f.length < 92) : parseEnvelope f = .error .runt := if_pos short

theorem parseEnvelope_badHeader (long : 92 ≤ f.length) (bad : (octet f (headerAt f + 2)).toNat / 16 ≠ 1 ∨
    (octet f (headerAt f + 2)).toNat / 8 % 2 = 1 ∨ fieldAt f (headerAt f + 6) 6 = 0) : parseEnvelope f = .error .badHeader := by
  have zero_bit : (controlOctet f).getLsbD 3 = decide ((octet f (headerAt f + 2)).toNat / 8 % 2 = 1) := getLsbD_eq_decide _ 3
  unfold parseEnvelope
  rw [if_neg (Nat.not_lt.mpr long), zero_bit]
  by_cases version : (octet f (headerAt f + 2)).toNat / 16 ≠ 1
  · exact if_pos version
  refine (if_neg version).trans ?_
  by_cases reserved : (octet f (headerAt f + 2)).toNat / 8 % 2 = 1
  · exact if_pos (decide_eq_true reserved)
  · refine (if_neg (by simpa using reserved)).trans (if_pos ?_)
    rcases bad with h | h | h
    · exact absurd h version
    · exact absurd h reserved
    · exact h

theorem parseEnvelope_ok (long : 92 ≤ f.length) (version : (octet f (headerAt f + 2)).toNat / 16 = 1)
    (reserved : (octet f (headerAt f + 2)).toNat / 8 % 2 = 0) (sequence : fieldAt f (headerAt f + 6) 6 ≠ 0) :
    parseEnvelope f = .ok (headerFields f) := by
  have zero_bit : (controlOctet f).getLsbD 3 = false :=
    (getLsbD_eq_decide _ 3).trans (decide_eq_false fun h => Nat.zero_ne_one (reserved.symm.trans h))
  unfold parseEnvelope
  rw [if_neg (Nat.not_lt.mpr long), zero_bit]
  exact (if_neg (not_not.mpr version)).trans ((if_neg Bool.false_ne_true).trans (if_neg sequence))

end Fields

/-! ### The receive completion of an inbound frame -/

section Completion

variable {v : Lane} {type : BitVec 16} {store : Option StoreId} {source : Source} {f : Frame}

theorem Lane.completeInbound_runt (short : f.length < 64) :
    v.completeInbound type store source f = (v.dropInbound store .runt).queueDelivery :=
  congrArg Lane.queueDelivery (if_pos short)

theorem Lane.completeInbound_badFcs (long : 64 ≤ f.length) (bad : fcsMatches f = false) :
    v.completeInbound type store source f = (v.dropInbound store .badFcs).queueDelivery :=
  congrArg Lane.queueDelivery ((if_neg (Nat.not_lt.mpr long)).trans (if_pos bad))

theorem Lane.completeInbound_tooLong (long : 64 ≤ f.length) (fcs : fcsMatches f = true)
    (over_length : v.control.config.maxFrame + 28 < f.length) :
    v.completeInbound type store source f = (v.dropInbound store .tooLong).queueDelivery :=
  congrArg Lane.queueDelivery ((if_neg (Nat.not_lt.mpr long)).trans ((if_neg (by simp [fcs])).trans (if_pos over_length)))

theorem Lane.completeInbound_passes (long : 64 ≤ f.length) (fcs : fcsMatches f = true)
    (short : f.length ≤ v.control.config.maxFrame + 28) : v.completeInbound type store source f =
    (if source = .line ∧ macControl f = true then v.consumeLineControl store f
     else v.disposeInbound type store source f).queueDelivery :=
  congrArg Lane.queueDelivery ((if_neg (Nat.not_lt.mpr long)).trans ((if_neg (by simp [fcs])).trans (if_neg (Nat.not_lt.mpr short))))

theorem Lane.disposeInbound_off (off : v.control.mode = .off) :
    v.disposeInbound type store source f = v.dropInbound store .laneOff := if_pos off

theorem Lane.disposeInbound_looptest (loop : v.control.mode = .looptest) :
    v.disposeInbound type store .line f = v.dropInbound store .looptest :=
  (if_neg (by rw [loop]; decide)).trans (if_pos ⟨loop, rfl⟩)

theorem Lane.disposeInbound_overrun (mode : v.control.mode = .clear ∨ v.control.mode = .protect) :
    v.disposeInbound type none source f = v.dropInbound none .overrun := by
  have not_off : v.control.mode ≠ .off := by rcases mode with h | h <;> rw [h] <;> decide
  have not_loop : ¬ (v.control.mode = .looptest ∧ source = .line) := fun ⟨loop, _⟩ => by
    rcases mode with h | h <;> exact absurd (h.symm.trans loop) (by decide)
  exact (if_neg not_off).trans ((if_neg not_loop).trans (if_pos rfl))

theorem Lane.disposeInbound_clear {j : StoreId} (clear : v.control.mode = .clear) :
    v.disposeInbound type (some j) source f = v.setStatus (some j) source (.ready f none) :=
  (if_neg (by rw [clear]; decide)).trans ((if_neg (by rw [clear]; rintro ⟨h, _⟩; cases h)).trans
    ((if_neg Bool.false_ne_true).trans (if_pos clear)))

/-- A lane that judges inbound frames by their envelope: PROTECT, and LOOPTEST for a loop frame (R114). -/
def Lane.judges (v : Lane) (source : Source) : Prop :=
  v.control.mode = .protect ∨ (v.control.mode = .looptest ∧ source = .loop)

theorem Lane.disposeInbound_judged {j : StoreId} (judged : v.judges source) : v.disposeInbound type (some j) source f =
    if enveloped type f then v.parseInbound (some j) source f
    else match v.control.config.clearPolicy with
      | .acceptClear => v.setStatus (some j) source (.ready f none)
      | .dropClear => v.dropInbound (some j) .clearDropped := by
  have not_off : v.control.mode ≠ .off := by rcases judged with h | ⟨h, _⟩ <;> rw [h] <;> decide
  have not_clear : v.control.mode ≠ .clear := by rcases judged with h | ⟨h, _⟩ <;> rw [h] <;> decide
  have not_loop : ¬ (v.control.mode = .looptest ∧ source = .line) := by
    rintro ⟨loop, line⟩
    rcases judged with h | ⟨_, h⟩
    · exact absurd (h.symm.trans loop) (by decide)
    · exact absurd (h.symm.trans line) (by decide)
  exact (if_neg not_off).trans ((if_neg not_loop).trans ((if_neg Bool.false_ne_true).trans (if_neg not_clear)))

theorem enveloped_iff : enveloped type f = true ↔
    fieldAt f (if fieldAt f 12 2 = 0x8100 then 16 else 12) 2 = type.toNat := by
  rw [← headerAt_eq]
  exact beq_iff_eq

/-- A frame of another type at a lane that judges (R114). -/
theorem Lane.disposeInbound_plain {j : StoreId} (judged : v.judges source)
    (plain : fieldAt f (if fieldAt f 12 2 = 0x8100 then 16 else 12) 2 ≠ type.toNat) :
    (v.control.config.clearPolicy = .acceptClear →
      v.disposeInbound type (some j) source f = v.setStatus (some j) source (.ready f none)) ∧
    (v.control.config.clearPolicy = .dropClear →
      v.disposeInbound type (some j) source f = v.dropInbound (some j) .clearDropped) := by
  have unmatched : ¬ enveloped type f = true := fun h => plain (enveloped_iff.mp h)
  refine ⟨fun policy => ?_, fun policy => ?_⟩
  all_goals rw [Lane.disposeInbound_judged judged, if_neg unmatched, policy]

/-- An enveloped frame at a lane that judges (R115). -/
theorem Lane.disposeInbound_enveloped {j : StoreId} (judged : v.judges source)
    (ours : fieldAt f (if fieldAt f 12 2 = 0x8100 then 16 else 12) 2 = type.toNat) :
    v.disposeInbound type (some j) source f = v.parseInbound (some j) source f :=
  (Lane.disposeInbound_judged judged).trans (if_pos (enveloped_iff.mpr ours))

theorem Lane.parseInbound_runt (short : f.length < 92) : v.parseInbound store source f = v.dropInbound store .runt := by
  unfold Lane.parseInbound
  rw [parseEnvelope_runt short]

theorem Lane.parseInbound_badHeader (long : 92 ≤ f.length) (bad : (octet f (headerAt f + 2)).toNat / 16 ≠ 1 ∨
    (octet f (headerAt f + 2)).toNat / 8 % 2 = 1 ∨ fieldAt f (headerAt f + 6) 6 = 0) :
    v.parseInbound store source f = v.dropInbound store .badHeader := by
  unfold Lane.parseInbound
  rw [parseEnvelope_badHeader long bad]

theorem Lane.parseInbound_ok (long : 92 ≤ f.length) (version : (octet f (headerAt f + 2)).toNat / 16 = 1)
    (reserved : (octet f (headerAt f + 2)).toNat / 8 % 2 = 0) (sequence : fieldAt f (headerAt f + 6) 6 ≠ 0) :
    v.parseInbound store source f = v.setStatus store source (.lookup f (headerFields f) none) := by
  unfold Lane.parseInbound
  rw [parseEnvelope_ok long version reserved sequence]

end Completion

/-! ### Reception -/

/-- The first octet of a line frame (R111). -/
theorem execLineFrameStart_eq {s : State} {l : LaneId} (running : s.port.resetting = false)
    (idle : (s.lane l).ingress.receiver = .idle) :
    exec (.lineFrameStart l) s = .next { s with lanes := s.lanes.set l (s.lane l).startLineFrame } := by
  have run : exec (.lineFrameStart l) s = s.unlessResetting (s.takes (s.setLane l (s.lane l).startLineFrame)) := by
    show s.unlessResetting _ = _
    rw [idle]
  exact run.trans (State.laneTakes running l _)

/-- The receive completion of a line frame (R112). -/
theorem execIngressReceiveCompletion_line {s : State} {l : LaneId} {store : Option StoreId} (running : s.port.resetting = false)
    (receiving : (s.lane l).ingress.receiver = .receiving store) (f : Frame) :
    exec (.ingressReceiveCompletion l (.line f)) s =
      .next { s with lanes := s.lanes.set l ((s.lane l).completeLine s.port.envelopeType store f) } := by
  have run : exec (.ingressReceiveCompletion l (.line f)) s =
      s.unlessResetting (s.takes (s.setLane l ((s.lane l).completeLine s.port.envelopeType store f))) := by
    show s.unlessResetting _ = _
    rw [receiving]
  exact run.trans (State.laneTakes running l _)

/-- Settles O58. -/
theorem lineReception : Obligations.LineReception := by
  intro s l f running v i m start
  refine ⟨fun idle => ⟨fun no_store => ?_, fun mode j free lowest => ?_⟩, fun store receiving => ?_,
    fun k x j sending loop lower stored lowest => ?_⟩
  · have started : v.startLineFrame = { v with ingress := { i with receiver := .receiving none } } := by
      unfold Lane.startLineFrame
      split
      next k found =>
        have no_mode : ¬ (v.control.mode = .clear ∨ v.control.mode = .protect) := by
          rcases no_store with h | h | h
          · rw [show v.control.mode = .off from h]; decide
          · rw [show v.control.mode = .looptest from h]; decide
          · rw [show v.ingress.findFree = none from IngressEngine.findFree_of_none h] at found
            cases found
        exact if_neg no_mode
      next => rfl
    simp only [start]
    rw [← started]
    exact execLineFrameStart_eq running idle
  · have started : v.startLineFrame = { v with ingress := { i with
        stores := i.stores.set j (some ⟨.line, false, .receiving⟩), ages := i.ages ++ [j]
        receiver := .receiving (some j) } } := by
      unfold Lane.startLineFrame
      rw [show v.ingress.findFree = some j from IngressEngine.findFree_of_free free lowest]
      exact if_pos mode
    simp only [start]
    rw [← started]
    exact execLineFrameStart_eq running idle
  · intro heard freed kept gives drop type control sequence good plain ours
    have gives_of : ∀ w, heard.completeInbound s.port.envelopeType store .line f = w.queueDelivery → gives w := fun w h => by
      simp only [gives]
      rw [← h]
      exact execIngressReceiveCompletion_line running receiving f
    have dropped : ∀ why, heard.dropInbound store why = freed.countIn why := fun why => by
      simp only [freed]
      cases store <;> rfl
    have stored : ∀ st, heard.setStatus store .line st = kept st := fun st => by
      simp only [kept]
      cases store <;> rfl
    have drop_of : ∀ why, heard.completeInbound s.port.envelopeType store .line f = (heard.dropInbound store why).queueDelivery → drop why :=
      fun why h => gives_of _ (h.trans (congrArg Lane.queueDelivery (dropped why)))
    have type_eq : headerAt f = type := headerAt_eq f
    have disposes : plain → ∀ w, heard.disposeInbound s.port.envelopeType store .line f = w →
        heard.completeInbound s.port.envelopeType store .line f = w.queueDelivery := by
      rintro ⟨⟨long, fcs, short⟩, not_control⟩ w h
      have other : ¬ (Source.line = .line ∧ macControl f = true) := fun ⟨_, hc⟩ => not_control (beq_iff_eq.mp hc)
      rw [Lane.completeInbound_passes (v := heard) long fcs short, if_neg other, h]
    refine ⟨fun short => drop_of _ (Lane.completeInbound_runt short),
      fun long bad => drop_of _ (Lane.completeInbound_badFcs long bad),
      fun long fcs longer => drop_of _ (Lane.completeInbound_tooLong long fcs longer), fun pass is_control => gives_of _ ?_,
      fun pass off => drop_of _ (disposes pass _ (Lane.disposeInbound_off off)),
      fun pass loop => drop_of _ (disposes pass _ (Lane.disposeInbound_looptest loop)),
      fun pass mode no_store => drop_of _ (disposes pass _ ?_), fun pass clear has_store => gives_of _ (disposes pass _ ?_),
      fun pass protect has_store unmatched => ?_, ?_⟩
    · obtain ⟨long, fcs, short⟩ := pass
      rw [Lane.completeInbound_passes (v := heard) long fcs short, if_pos ⟨rfl, beq_iff_eq.mpr is_control⟩]
      refine congrArg Lane.queueDelivery ?_
      unfold Lane.consumeLineControl pauseQuanta
      by_cases pause : fieldAt f 14 2 = 1
      · simp only [if_pos pause, freed]
        cases store <;> rfl
      · simp only [if_neg pause, freed, List.append_nil]
        cases store <;> rfl
    · subst no_store
      exact Lane.disposeInbound_overrun mode
    · rw [← stored]
      cases store with
      | none => exact absurd rfl has_store
      | some j => exact Lane.disposeInbound_clear clear
    · cases store with
      | none => exact absurd rfl has_store
      | some j =>
        obtain ⟨accepts, refuses⟩ := Lane.disposeInbound_plain (v := heard) (source := .line) (j := j) (Or.inl protect) unmatched
        exact ⟨fun policy => gives_of _ (disposes pass _ ((accepts policy).trans (stored _))),
          fun policy => drop_of _ (disposes pass _ (refuses policy))⟩
    · have parsed : ours → ∀ w, heard.parseInbound store .line f = w →
          heard.completeInbound s.port.envelopeType store .line f = w.queueDelivery := by
        rintro ⟨pass, protect, has_store, matched⟩ w h
        cases store with
        | none => exact absurd rfl has_store
        | some j => exact disposes pass _ ((Lane.disposeInbound_enveloped (v := heard) (Or.inl protect) matched).trans h)
      refine ⟨fun our short => drop_of _ (parsed our _ (Lane.parseInbound_runt short)), fun our long bad => drop_of _ (parsed our _ ?_),
        fun our long version reserved nonzero => gives_of _ (parsed our _ ?_)⟩
      · exact Lane.parseInbound_badHeader long (by rw [type_eq]; exact bad)
      · rw [← stored]
        have fields := headerFields_eq f
        rw [type_eq] at fields
        refine (Lane.parseInbound_ok long (by rw [type_eq]; exact version) (by rw [type_eq]; exact reserved)
          (by rw [type_eq]; exact nonzero)).trans ?_
        rw [fields]
  · intro f sent freed kept ended gives drop type control sequence good judged ours
    have busy : v.egress.sendingStore = some (k, x) := EgressEngine.sendingStore_of_sending sending lower
    have store : v.ingress.loopStore = some j := IngressEngine.loopStore_of_receiving stored lowest
    have gives_of : ∀ w, sent.completeInbound s.port.envelopeType (some j) .loop f = w.queueDelivery → gives w := fun w h c hc => by
      have ends : s.completeTransmission l k x = { s with
          lanes := s.lanes.set l w.queueDelivery
          transit := { s.transit with releases := s.transit.releases ++ ended } } := by
        rw [State.completeTransmission_loop loop store, StoredFrame.release_eq, ← h]
        rfl
      rw [← ends]
      rcases hc with rfl | rfl
      · exact execIngressReceiveCompletion_loop running busy loop
      · exact execTransmissionCompletion_eq running busy
    have drop_of : ∀ why, sent.completeInbound s.port.envelopeType (some j) .loop f =
        (sent.dropInbound (some j) why).queueDelivery → drop why := fun why => gives_of _
    have type_eq : headerAt f = type := headerAt_eq f
    have disposes : good → ∀ w, sent.disposeInbound s.port.envelopeType (some j) .loop f = w →
        sent.completeInbound s.port.envelopeType (some j) .loop f = w.queueDelivery := by
      rintro ⟨long, fcs, short⟩ w h
      have other : ¬ (Source.loop = .line ∧ macControl f = true) := fun ⟨hl, _⟩ => nomatch hl
      rw [Lane.completeInbound_passes (v := sent) long fcs short, if_neg other, h]
    have judges : judged → sent.judges .loop := fun ⟨_, mode⟩ => mode.imp_right fun h => ⟨h, rfl⟩
    have parsed : ours → ∀ w, sent.parseInbound (some j) .loop f = w →
        sent.completeInbound s.port.envelopeType (some j) .loop f = w.queueDelivery := fun ⟨hj, matched⟩ w h =>
      disposes hj.1 _ ((Lane.disposeInbound_enveloped (judges hj) matched).trans h)
    refine ⟨fun short => drop_of _ (Lane.completeInbound_runt short),
      fun long bad => drop_of _ (Lane.completeInbound_badFcs long bad),
      fun long fcs longer => drop_of _ (Lane.completeInbound_tooLong long fcs longer),
      fun pass off => drop_of _ (disposes pass _ (Lane.disposeInbound_off off)),
      fun pass clear => gives_of _ (disposes pass _ (Lane.disposeInbound_clear clear)), fun judge unmatched => ?_,
      fun our short => drop_of _ (parsed our _ (Lane.parseInbound_runt short)), fun our long bad => drop_of _ (parsed our _ ?_),
      fun our long version reserved nonzero => gives_of _ (parsed our _ ?_)⟩
    · obtain ⟨accepts, refuses⟩ := Lane.disposeInbound_plain (j := j) (judges judge) unmatched
      exact ⟨fun policy => gives_of _ (disposes judge.1 _ (accepts policy)), fun policy => drop_of _ (disposes judge.1 _ (refuses policy))⟩
    · exact Lane.parseInbound_badHeader long (by rw [type_eq]; exact bad)
    · have fields := headerFields_eq f
      rw [type_eq] at fields
      refine (Lane.parseInbound_ok long (by rw [type_eq]; exact version) (by rw [type_eq]; exact reserved)
        (by rw [type_eq]; exact nonzero)).trans ?_
      rw [fields]
      rfl

end Sys2Proof.Machine
end

section
/-!
PROOFS. The Ingress Engine: the answers at a frame store, and delivery (sections 7.4 and 7.6 to 7.9).
-/

namespace Sys2Proof.Machine

/-! ### The answers at a frame store -/

/-- The delivered frame (R124). -/
theorem stripFrame_eq (f : Frame) (p : List Byte) :
    stripFrame f p = withFcs (f.take (if fieldAt f 12 2 = 0x8100 then 16 else 12) ++ p) := by
  rw [← headerAt_eq]
  rfl

section Answers

variable {s : State} {l : LaneId} {j : StoreId} {x : FrameStore} {f : Frame} {h : EnvelopeFields} {g : IngressGrant} {p : List Byte}

theorem execLookupAnswer_eq {a : LookupAnswer} (running : s.port.resetting = false) (hold : (s.lane l).ingress.store j = some x)
    (answered : x.status = .lookup f h (some a)) : exec (.lookupAnswer l j) s =
    .next ((s.setLane l ((s.lane l).takeLookupAnswer j x f h a)).sendAbandons (a.abandons x.cancelled)) := by
  have run : exec (.lookupAnswer l j) s = s.unlessResetting (s.takes
      ((s.setLane l ((s.lane l).takeLookupAnswer j x f h a)).sendAbandons (a.abandons x.cancelled))) := by
    show s.unlessResetting _ = _
    rw [hold]
    dsimp only
    rw [answered]
  rw [run]
  exact State.eventTakes running rfl rfl

theorem execVerificationCompletion_eq (running : s.port.resetting = false) (hold : (s.lane l).ingress.store j = some x)
    (verifying : x.status = .opening f h g) : exec (.verificationCompletion l j) s =
    .next ((s.setLane l ((s.lane l).takeVerification j x f h g)).sendAbandons (verificationAbandons f h g)) := by
  have run : exec (.verificationCompletion l j) s = s.unlessResetting (s.takes
      ((s.setLane l ((s.lane l).takeVerification j x f h g)).sendAbandons (verificationAbandons f h g))) := by
    show s.unlessResetting _ = _
    rw [hold]
    dsimp only
    rw [verifying]
  rw [run]
  exact State.eventTakes running rfl rfl

theorem execCommitAnswer_eq {a : CommitAnswer} (running : s.port.resetting = false) (hold : (s.lane l).ingress.store j = some x)
    (answered : x.status = .committing f h g p (some a)) : exec (.commitAnswer l j) s =
    .next ((s.setLane l ((s.lane l).takeCommitAnswer j x f p g a)).sendAbandons []) := by
  have run : exec (.commitAnswer l j) s = s.unlessResetting (s.takes (s.setLane l ((s.lane l).takeCommitAnswer j x f p g a))) := by
    show s.unlessResetting _ = _
    rw [hold]
    dsimp only
    rw [answered]
  have nothing : (s.setLane l ((s.lane l).takeCommitAnswer j x f p g a)).sendAbandons [] =
      s.setLane l ((s.lane l).takeCommitAnswer j x f p g a) := by
    unfold State.sendAbandons
    rw [List.append_nil]
  rw [run, nothing]
  exact State.eventTakes running rfl rfl

end Answers

/-- Settles O59. -/
theorem storeAnswers : Obligations.StoreAnswers := by
  intro s l j x f h g p running hold v i gives becomes drop lookups
  have lookups_eq : ∀ why, LookupRefusal.counter why = lookups why := fun why => by cases why <;> rfl
  refine ⟨fun why answered => ?_, fun answered live => ?_, fun answered cancelled => ?_, fun verifying opened => ?_,
    fun verifying failed => ?_, fun answered live => ?_, fun answered cancelled => ?_, fun answered => ?_, fun answered => ?_,
    fun answered => ?_, fun answered => ?_⟩
  · rw [← lookups_eq]
    exact execLookupAnswer_eq running hold answered
  · have taken : v.takeLookupAnswer j x f h (.granted g) = (becomes (.opening f h g)).queueDelivery :=
      congrArg Lane.queueDelivery (if_neg (by simp [live]))
    have none_sent : LookupAnswer.abandons (.granted g) x.cancelled = [] := if_neg (by simp [live])
    have given := execLookupAnswer_eq running hold answered
    rw [none_sent, show (s.lane l).takeLookupAnswer j x f h (.granted g) = _ from taken] at given
    exact given
  · have taken : v.takeLookupAnswer j x f h (.granted g) = (drop .aborted).queueDelivery :=
      congrArg Lane.queueDelivery (if_pos cancelled)
    have sent : LookupAnswer.abandons (.granted g) x.cancelled = [⟨g.record, g.slot, .abort⟩] := if_pos cancelled
    have given := execLookupAnswer_eq running hold answered
    rw [sent, show (s.lane l).takeLookupAnswer j x f h (.granted g) = _ from taken] at given
    exact given
  · have taken : v.takeVerification j x f h g = (becomes (.committing f h g p none)).queueDelivery := by
      unfold Lane.takeVerification
      rw [opened]
      rfl
    have none_sent : verificationAbandons f h g = [] := by
      unfold verificationAbandons
      rw [opened]
    have given := execVerificationCompletion_eq running hold verifying
    rw [none_sent, show (s.lane l).takeVerification j x f h g = _ from taken] at given
    exact given
  · have taken : v.takeVerification j x f h g = (drop .badTag).queueDelivery := by
      unfold Lane.takeVerification
      rw [failed]
      rfl
    have sent : verificationAbandons f h g = [⟨g.record, g.slot, .badTag⟩] := by
      unfold verificationAbandons
      rw [failed]
    have given := execVerificationCompletion_eq running hold verifying
    rw [sent, show (s.lane l).takeVerification j x f h g = _ from taken] at given
    exact given
  · have taken : v.takeCommitAnswer j x f p g .accepted = (becomes (.ready (stripFrame f p) (some g))).queueDelivery :=
      congrArg Lane.queueDelivery (if_neg (by simp [live]))
    have given := execCommitAnswer_eq running hold answered
    rw [show (s.lane l).takeCommitAnswer j x f p g .accepted = _ from taken, stripFrame_eq] at given
    exact given
  · have taken : v.takeCommitAnswer j x f p g .accepted = (drop .aborted).queueDelivery :=
      congrArg Lane.queueDelivery (if_pos cancelled)
    have given := execCommitAnswer_eq running hold answered
    rw [show (s.lane l).takeCommitAnswer j x f p g .accepted = _ from taken] at given
    exact given
  all_goals exact execCommitAnswer_eq running hold answered

/-! ### Queueing for delivery -/

/-- A READY frame offered to a Delivery Buffer, with the number of frames dropped so far (R125). -/
def deliveryStep (acc : List Frame × Nat) (x : StoreId × Frame) : List Frame × Nat :=
  if (acc.1.map (fun f => (f.length + 127) / 128)).sum + (x.2.length + 127) / 128 ≤ 512 then (acc.1 ++ [x.2], acc.2)
  else (acc.1, acc.2 + 1)

/-- The frames dropped before make no difference to those that follow. -/
theorem foldl_deliveryStep (run : List (StoreId × Frame)) (d : List Frame) (n : Nat) :
    run.foldl deliveryStep (d, n) = ((run.foldl deliveryStep (d, 0)).1, (run.foldl deliveryStep (d, 0)).2 + n) := by
  induction run generalizing d n with
  | nil => simp
  | cons x run ih =>
    have first : ∀ m, deliveryStep (d, m) x = ((deliveryStep (d, 0) x).1, (deliveryStep (d, 0) x).2 + m) := fun m => by
      unfold deliveryStep
      split <;> simp [Nat.add_comm]
    rw [List.foldl_cons, List.foldl_cons, first n, ih _ ((deliveryStep (d, 0) x).2 + n),
      ← Prod.mk.eta (p := deliveryStep (d, 0) x), ih _ (deliveryStep (d, 0) x).2, Nat.add_assoc]

section Queueing

variable {v : Lane} {k : StoreId} {f : Frame}

theorem IngressEngine.readyFrame_of_ready {g : IngressEngine} {src : Source} {z : Bool} {held : Option IngressGrant}
    (ready : g.store k = some ⟨src, z, .ready f held⟩) : g.readyFrame k = some f := by
  unfold IngressEngine.readyFrame
  rw [ready]

theorem IngressEngine.readyFrame_of_none {g : IngressEngine} (none : ∀ src z f held, g.store k ≠ some ⟨src, z, .ready f held⟩) :
    g.readyFrame k = .none := by
  unfold IngressEngine.readyFrame
  split
  next src z f held found => exact absurd found (none src z f held)
  next => rfl

/-- A store that becomes FREE (R110). -/
theorem IngressEngine.store_freeStore (g : IngressEngine) (k j : StoreId) :
    (g.freeStore k).store j = if k = j then none else g.store j := vget_vput g.stores k j none

/-- A READY frame that fits (R125). -/
theorem Lane.queueReady_fits (fits : v.ingress.deliveryOccupancy + cellsFor f.length ≤ Config.deliveryCells) :
    v.queueReady k f = { v with ingress := { v.ingress.freeStore k with delivery := v.ingress.delivery ++ [f] } } := if_pos fits

/-- A READY frame that does not fit (R125). -/
theorem Lane.queueReady_full (full : ¬ v.ingress.deliveryOccupancy + cellsFor f.length ≤ Config.deliveryCells) :
    v.queueReady k f = Lane.countIn { v with ingress := v.ingress.freeStore k } .deliveryFull := if_neg full

end Queueing

/-- What the queueing of a run of READY frames leaves at a lane (R125). -/
structure Lane.Queued (v w : Lane) (run : List (StoreId × Frame)) (rest : List StoreId) : Prop where
  lane : w = { v with
    ingress := { v.ingress with
      stores := w.ingress.stores, ages := rest, delivery := (run.foldl deliveryStep (v.ingress.delivery, 0)).1 }
    control := { v.control with counters := { v.control.counters with inbound := w.control.counters.inbound } } }
  stores : ∀ j, w.ingress.store j = if j ∈ run.map Prod.fst then none else v.ingress.store j
  others : ∀ c, c ≠ .deliveryFull → w.inCount c = v.inCount c
  dropped : v.inCount .deliveryFull ≤ 4294967295 → w.inCount .deliveryFull =
    min 4294967295 (v.inCount .deliveryFull + (run.foldl deliveryStep (v.ingress.delivery, 0)).2)

theorem Lane.queued_queueRun (v : Lane) (run : List (StoreId × Frame)) (rest : List StoreId)
    (ages : v.ingress.ages = run.map Prod.fst ++ rest) (distinct : v.ingress.ages.Nodup)
    (ready : ∀ j f, (j, f) ∈ run → ∃ src z g, v.ingress.store j = some ⟨src, z, .ready f g⟩)
    (stop : ∀ j tail src z f g, rest = j :: tail → v.ingress.store j ≠ some ⟨src, z, .ready f g⟩) :
    v.Queued (v.queueRun (run.map Prod.fst ++ rest)) run rest := by
  induction run generalizing v with
  | nil =>
    have stays : v.queueRun ([] ++ rest) = v := by
      cases rest with
      | nil => rfl
      | cons j tail =>
        have none : v.ingress.readyFrame j = .none :=
          IngressEngine.readyFrame_of_none fun src z f g => stop j tail src z f g rfl
        rw [List.nil_append, Lane.queueRun, none]
    rw [List.map_nil, stays]
    have ages' : v.ingress.ages = rest := ages
    refine ⟨?_, fun j => by simp, fun c _ => rfl, fun small => by simpa using small⟩
    rw [← ages']
    rfl
  | cons x run ih =>
    obtain ⟨k, f⟩ := x
    obtain ⟨src, z, g, here⟩ := ready k f (List.mem_cons_self ..)
    have goes : v.queueRun (((k, f) :: run).map Prod.fst ++ rest) = (v.queueReady k f).queueRun (run.map Prod.fst ++ rest) := by
      rw [List.map_cons, List.cons_append, Lane.queueRun, IngressEngine.readyFrame_of_ready here]
    have order : v.ingress.ages = k :: (run.map Prod.fst ++ rest) := ages
    rw [order] at distinct
    obtain ⟨fresh, distinct⟩ := List.nodup_cons.mp distinct
    have left : v.ingress.ages.filter (fun j => j ≠ k) = run.map Prod.fst ++ rest := by
      rw [order]
      refine (List.filter_cons_of_neg (by simp)).trans (List.filter_eq_self.mpr fun j hj => ?_)
      simp only [decide_not, Bool.not_eq_true', decide_eq_false_iff_not]
      exact fun e => fresh (e ▸ hj)
    have other : ∀ j ∈ run.map Prod.fst ++ rest, (v.ingress.freeStore k).store j = v.ingress.store j := fun j hj => by
      have ne : k ≠ j := fun e => fresh (e ▸ hj)
      exact (v.ingress.store_freeStore k j).trans (if_neg ne)
    have ready' : ∀ j f', (j, f') ∈ run → ∃ src z g, (v.ingress.freeStore k).store j = some ⟨src, z, .ready f' g⟩ := fun j f' hj => by
      rw [other j (List.mem_append_left _ (List.mem_map_of_mem (f := Prod.fst) hj))]
      exact ready j f' (List.mem_cons_of_mem _ hj)
    have stop' : ∀ j tail src z f g, rest = j :: tail → (v.ingress.freeStore k).store j ≠ some ⟨src, z, .ready f g⟩ :=
      fun j tail src z f g hr => by
        rw [other j (List.mem_append_right _ (by rw [hr]; exact List.mem_cons_self ..))]
        exact stop j tail src z f g hr
    have store_of : ∀ j, (if j ∈ run.map Prod.fst then none else (v.ingress.freeStore k).store j) =
        if j ∈ ((k, f) :: run).map Prod.fst then none else v.ingress.store j := fun j => by
      rw [v.ingress.store_freeStore, List.map_cons]
      by_cases same : k = j
      · subst same
        simp
      · rw [if_neg same]
        exact if_congr (by simp [Ne.symm same]) rfl rfl
    have nodup : (v.ingress.freeStore k).ages.Nodup := by
      rw [show (v.ingress.freeStore k).ages = _ from left]
      exact distinct
    rw [goes]
    by_cases fits : v.ingress.deliveryOccupancy + cellsFor f.length ≤ Config.deliveryCells
    · rw [Lane.queueReady_fits fits]
      have after := ih { v with ingress := { v.ingress.freeStore k with delivery := v.ingress.delivery ++ [f] } } left nodup ready' stop'
      have step : deliveryStep (v.ingress.delivery, 0) (k, f) = (v.ingress.delivery ++ [f], 0) := if_pos fits
      refine ⟨?_, fun j => (after.stores j).trans (store_of j), after.others, ?_⟩
      · rw [List.foldl_cons, step]
        exact after.lane
      · rw [List.foldl_cons, step]
        exact after.dropped
    · rw [Lane.queueReady_full fits]
      have after := ih (Lane.countIn { v with ingress := v.ingress.freeStore k } .deliveryFull) left nodup ready' stop'
      have step : deliveryStep (v.ingress.delivery, 0) (k, f) = (v.ingress.delivery, 1) := if_neg fits
      have count : ∀ c, (Lane.countIn { v with ingress := v.ingress.freeStore k } .deliveryFull).inCount c =
          if .deliveryFull = c then min 4294967295 (v.inCount c + 1) else v.inCount c := fun c => Lane.inCount_countIn _ _ _
      refine ⟨?_, fun j => (after.stores j).trans (store_of j), fun c hc => (after.others c hc).trans ((count c).trans (if_neg hc.symm)),
        fun small => ?_⟩
      · rw [List.foldl_cons, step, foldl_deliveryStep]
        exact after.lane
      · have once := (count .deliveryFull).trans (if_pos rfl)
        have given := after.dropped (by rw [once]; exact Nat.min_le_left ..)
        have same : (Lane.countIn { v with ingress := v.ingress.freeStore k } .deliveryFull).ingress.delivery = v.ingress.delivery := rfl
        rw [once, same] at given
        rw [List.foldl_cons, step, foldl_deliveryStep, given]
        dsimp only
        omega

/-- Settles O60. -/
theorem deliveryOfFrames : Obligations.DeliveryOfFrames := by
  intro s l running v i gives cells
  refine ⟨fun run rest ages distinct ready stop => ?_, fun f rest hold => ?_⟩
  · intro queued w
    have after := Lane.queued_queueRun v run rest ages distinct ready stop
    have whole : v.queueRun (run.map Prod.fst ++ rest) = w := congrArg v.queueRun (show run.map Prod.fst ++ rest = v.ingress.ages from ages.symm)
    rw [whole] at after
    exact ⟨after.lane, after.stores, after.others, after.dropped⟩
  · intro dropped
    have without : v.ingress.dropDelivery = { i with delivery := rest } := by
      unfold IngressEngine.dropDelivery
      rw [show v.ingress.delivery = f :: rest from hold]
      rfl
    have starts : i.sending = false → exec (.deliveryStart l) s = s.unlessResetting (s.takes (s.setLane l v.startDelivery)) :=
      fun idle => congrArg s.unlessResetting (if_pos ⟨idle, by rw [show (s.lane l).ingress.delivery = _ from hold]; exact List.cons_ne_nil _ _⟩)
    have starts_of : ∀ w, i.sending = false → v.startDelivery = w → gives (.deliveryStart l) w := fun w idle h =>
      (starts idle).trans (by rw [h]; exact State.laneTakes running l _)
    refine ⟨fun idle off => starts_of _ idle ?_, fun idle on down => starts_of _ idle ?_,
      fun idle on up unpaused waiting => starts_of _ idle ?_, fun idle on up stops => (starts idle).trans ?_, fun sending => ?_⟩
    · refine (if_pos off).trans ?_
      rw [without]
      rfl
    · refine (if_neg on).trans ((if_pos down).trans ?_)
      rw [without]
      rfl
    · exact (if_neg on).trans ((if_neg (by simp [up])).trans (if_pos ⟨by
        rw [show v.ingress.systemPause = none from unpaused]; rfl, by rw [waiting]; rfl⟩))
    · have blocked : ¬ (v.ingress.systemPause.isNone = true ∧ v.egress.waitingPause.isNone = true) := by
        rintro ⟨unpaused, waiting⟩
        exact stops.elim (fun h => h (Option.isNone_iff_eq_none.mp unpaused)) (fun h => h (Option.isNone_iff_eq_none.mp waiting))
      exact State.laneTakes_unchanged running ((if_neg on).trans ((if_neg (by simp [up])).trans (if_neg blocked)))
    · have run : exec (.deliveryCompletion l) s = s.unlessResetting (s.takes (s.setLane l (v.endDelivery f rest))) := by
        show s.unlessResetting _ = _
        rw [show (s.lane l).ingress.sending = true from sending, show (s.lane l).ingress.delivery = f :: rest from hold]
      exact run.trans (State.laneTakes running l _)

end Sys2Proof.Machine
end

section
/-!
PROOFS. The flow commands: Add Flow, Remove Flow and Read Flow (chapter 5).
-/

namespace Sys2Proof.Machine

/-! ### The turn of a flow command -/

/-- The state just after a flow command has left the Flow Classifier for the Flow Map, with some number of messages sent. -/
def State.flowTaken (s : State) (n : Nat) : State :=
  { s with
    flowTurn := none
    port := { s.port with commands := if s.flowTurn = none then s.port.commands.tail else s.port.commands }
    pins := { s.pins with messagesSent := n } }

section FlowTurn

variable {s u : State} {c : Command} {name : CommandName} {owner : Command → State → FlowOutcome} {r : Reply}

/-- A flow command that is due has its event at the Flow Map (R84). -/
theorem State.serveFlow_due (owner : Command → State → FlowOutcome) (h : s.flowDue c name) :
    ∃ (s0 : State) (n : Nat), s.serveFlow name owner = s0.flowEvent c owner ∧ s0.endFlowTurn = s.flowTaken n := by
  rcases h with ⟨offered, quiet⟩ | ⟨waiting, handed, running⟩
  · obtain ⟨n, taken⟩ := State.taken_eq s
    have idle := (State.offers_answered offered).1
    refine ⟨s.freed n, n, ?_, ?_⟩
    · rw [State.serveFlow_offered owner offered, taken]
      exact if_pos quiet
    · unfold State.flowTaken
      rw [if_pos idle]
      rfl
  · refine ⟨s, s.pins.messagesSent, ?_, ?_⟩
    · unfold State.serveFlow
      rw [waiting]
      exact (if_pos handed).trans (State.unlessResetting_running running _)
    · unfold State.flowTaken
      rw [if_neg (by rw [waiting]; exact Option.some_ne_none _)]
      rfl

/-- A flow command's response posted: nothing else changes but the number of messages sent. -/
theorem State.flowAnswered_post (before : State) (n : Nat) (turn : u.flowTurn = s.flowTurn) (port : u.port = s.port) :
    s.flowAnswered u c r ((before.notify (u.flowTaken n)).post (headerTag c.header) r) := by
  have noticed := State.sameButMessages_notify before (u.flowTaken n)
  have posted := State.sameButMessages_post (before.notify (u.flowTaken n)) (headerTag c.header) r
  unfold State.flowAnswered
  refine State.sameButMessages_trans ?_ posted
  unfold State.sameButMessages at noticed ⊢
  rw [noticed]
  unfold State.flowTaken
  rw [turn, port]

/-- A flow command that releases no reference (R84). -/
theorem State.serveFlow_answered (h : s.flowDue c name) (turn : u.flowTurn = s.flowTurn) (port : u.port = s.port)
    (gives : ∀ n, owner c (s.flowTaken n) = ⟨u.flowTaken n, r, none⟩) :
    ∃ t, s.serveFlow name owner = .next t ∧ s.flowAnswered u c r t := by
  obtain ⟨s0, n, event, ended⟩ := State.serveFlow_due owner h
  refine ⟨_, ?_, State.flowAnswered_post s0 n turn port⟩
  rw [event]
  unfold State.flowEvent
  rw [ended, gives n]

/-- A flow command that releases a reference: at once where no enqueue is in transit, and otherwise after those that are (R84). -/
theorem State.serveFlow_releases {i : Nat} (h : s.flowDue c name) (turn : u.flowTurn = s.flowTurn) (port : u.port = s.port)
    (transit : u.transit = s.transit) (gives : ∀ n, owner c (s.flowTaken n) = ⟨u.flowTaken n, r, some i⟩) :
    ∃ t, s.serveFlow name owner = .next t ∧
      (s.transit.enqueues = [] → s.flowAnswered (u.setRecord i { u.record i with
        flowReferences := (u.record i).flowReferences - 1 }) c r t) ∧
      (s.transit.enqueues ≠ [] → State.sameButMessages { u with flowTurn := some (.releasing c i s.transit.enqueues) } t) := by
  obtain ⟨s0, n, event, ended⟩ := State.serveFlow_due owner h
  have enqueues : (u.flowTaken n).transit.enqueues = s.transit.enqueues := by rw [← transit]; rfl
  have unfolded : s.serveFlow name owner = if s.transit.enqueues = [] then
      .next ((s0.notify ((u.flowTaken n).releaseReference i)).post (headerTag c.header) r)
      else s0.takes ((u.flowTaken n).holdFlowTurn (.releasing c i s.transit.enqueues)) := by
    rw [event]
    unfold State.flowEvent
    rw [ended, gives n]
    dsimp only
    rw [enqueues]
  rw [unfolded]
  by_cases quiet : s.transit.enqueues = []
  · rw [if_pos quiet]
    refine ⟨_, rfl, fun _ => ?_, fun busy => absurd quiet busy⟩
    exact State.flowAnswered_post (u := u.setRecord i { u.record i with flowReferences := (u.record i).flowReferences - 1 }) s0 n
      turn port
  · rw [if_neg quiet]
    refine ⟨_, rfl, fun none => absurd none quiet, fun _ => ?_⟩
    have held := State.sameButMessages_notify s0 ((u.flowTaken n).holdFlowTurn (.releasing c i s.transit.enqueues))
    have waiting : s.flowTurn ≠ none := by
      rcases h with ⟨_, none⟩ | ⟨some, _⟩
      · exact absurd none quiet
      · rw [some]
        exact Option.some_ne_none _
    unfold State.sameButMessages at held ⊢
    rw [held]
    unfold State.flowTaken State.holdFlowTurn
    rw [turn, if_neg waiting]

/-- A flow command that is refused or that only reads (R84). -/
theorem State.serveFlow_refused (h : s.flowDue c name) (gives : ∀ n, owner c (s.flowTaken n) = ⟨s.flowTaken n, r, none⟩) :
    ∃ t, s.serveFlow name owner = .next t ∧ s.flowAnswered s c r t := State.serveFlow_answered h rfl rfl gives

/-- A flow command that finds an enqueue in transit waits for it (R84). -/
theorem State.serveFlow_waits (owner : Command → State → FlowOutcome) (h : s.offers c name) (busy : s.transit.enqueues ≠ []) :
    ∃ t, s.serveFlow name owner = .next t ∧ State.sameButMessages { s with
      flowTurn := some (.waiting c s.transit.enqueues), port := { s.port with commands := s.port.commands.tail } } t := by
  obtain ⟨n, taken⟩ := State.taken_eq s
  have unfolded : s.serveFlow name owner =
      (s.freed n).takes ((s.freed n).holdFlowTurn (.waiting c s.transit.enqueues)) := by
    rw [State.serveFlow_offered owner h, taken]
    exact if_neg busy
  refine ⟨_, unfolded, ?_⟩
  have held := State.sameButMessages_notify (s.freed n) ((s.freed n).holdFlowTurn (.waiting c s.transit.enqueues))
  unfold State.sameButMessages at held ⊢
  rw [held]
  rfl

/-- A flow command whose release has waited long enough (R84). -/
theorem State.serveFlow_released {a : Nat} (owner : Command → State → FlowOutcome) (due : s.flowTurn = some (.releasing c a []))
    (handed : c.handedAs name = true) (running : s.port.resetting = false) : ∃ t, s.serveFlow name owner = .next t ∧
      s.flowAnswered (s.setRecord a { s.record a with flowReferences := (s.record a).flowReferences - 1 }) c { status := .ok } t := by
  have unfolded : s.serveFlow name owner =
      .next ((s.notify (s.endFlowTurn.releaseReference a)).post (headerTag c.header) (status .ok)) := by
    unfold State.serveFlow
    rw [due]
    exact (if_pos handed).trans (State.unlessResetting_running running _)
  have ended : s.endFlowTurn.releaseReference a = (s.setRecord a { s.record a with
      flowReferences := (s.record a).flowReferences - 1 }).flowTaken s.pins.messagesSent := by
    have busy : (s.setRecord a { s.record a with flowReferences := (s.record a).flowReferences - 1 }).flowTurn ≠ none := by
      show s.flowTurn ≠ none
      rw [due]
      exact Option.some_ne_none _
    unfold State.flowTaken
    rw [if_neg busy]
    rfl
  refine ⟨_, unfolded, ?_⟩
  rw [ended]
  exact State.flowAnswered_post s s.pins.messagesSent rfl rfl

end FlowTurn

/-! ### The words of a flow command -/

section Words

variable {c : Command}

theorem Command.flowKey_eq_none (bad : 3 < bits (c.word 0) 7 0 ∨ (flag (c.word 0) 12 = false ∧ 4095 < bits (c.word 0) 31 16)) :
    c.flowKey = none := by
  unfold Command.flowKey
  by_cases lane : 3 < bits (c.word 0) 7 0
  · rw [show laneOf (bits (c.word 0) 7 0) = none from Command.lane_eq_none lane]
  · obtain ⟨tagged, large⟩ := bad.resolve_left lane
    rw [show laneOf (bits (c.word 0) 7 0) = some _ from Command.lane_eq_some lane]
    dsimp only
    rw [tagged, if_neg Bool.false_ne_true, if_neg (by omega)]

theorem Command.flowKey_eq (ok : ¬ (3 < bits (c.word 0) 7 0 ∨ (flag (c.word 0) 12 = false ∧ 4095 < bits (c.word 0) 31 16))) :
    c.flowKey = some {
      lane := Fin.ofNat 4 (bits (c.word 0) 7 0)
      destination := BitVec.ofNat 48 ((c.word 1).toNat * 2 ^ 16 + bits (c.word 2) 31 16)
      vlan := if flag (c.word 0) 12 then none else some (BitVec.ofNat 12 (bits (c.word 0) 31 16)) } := by
  obtain ⟨lane, vlan⟩ := not_or.mp ok
  unfold Command.flowKey
  rw [show laneOf (bits (c.word 0) 7 0) = some _ from Command.lane_eq_some lane]
  dsimp only
  cases tag : flag (c.word 0) 12 with
  | true => rw [if_pos rfl, if_pos rfl]
  | false =>
    have small : bits (c.word 0) 31 16 < 4096 := by
      by_contra large
      exact vlan ⟨tag, by omega⟩
    rw [if_neg Bool.false_ne_true, if_pos small, if_neg Bool.false_ne_true]

theorem Command.flowAction_eq_none (bad : bits (c.word 0) 9 8 = 3) : c.flowAction = none := by
  unfold Command.flowAction
  rw [bad] <;> rfl

theorem Command.flowAction_eq (ok : bits (c.word 0) 9 8 ≠ 3) : c.flowAction = some (if bits (c.word 0) 9 8 = 0 then
    .protect (bits (c.word 2) 15 0) else if bits (c.word 0) 9 8 = 1 then .bypass else .discard) := by
  have small : bits (c.word 0) 9 8 < 4 := by
    unfold bits
    exact Nat.mod_lt _ (by decide)
  unfold Command.flowAction
  obtain h | h | h : bits (c.word 0) 9 8 = 0 ∨ bits (c.word 0) 9 8 = 1 ∨ bits (c.word 0) 9 8 = 2 := by omega
  all_goals rw [h]; rfl

end Words

/-! ### Remove Flow and Read Flow -/

theorem FlowAction.named_eq_some (a : FlowAction) (i : Nat) : a.named = some i ↔ a = .protect i := by
  cases a <;> simp [FlowAction.named]

section RemoveRead

variable {s : State} {c : Command} {k : FlowKey}

theorem removeFlowOwner_noKey (n : Nat) (h : c.flowKey = none) :
    removeFlowOwner c (s.flowTaken n) = ⟨s.flowTaken n, status .badValue, none⟩ := by
  unfold removeFlowOwner
  rw [h]

theorem removeFlowOwner_noFlow (n : Nat) (h : c.flowKey = some k) (missing : s.flow k = none) :
    removeFlowOwner c (s.flowTaken n) = ⟨s.flowTaken n, status .noFlow, none⟩ := by
  have same : (s.flowTaken n).flow k = none := missing
  unfold removeFlowOwner
  rw [h]
  dsimp only
  rw [same]

theorem removeFlowOwner_found {e : FlowEntry} (n : Nat) (h : c.flowKey = some k) (found : s.flow k = some e) :
    removeFlowOwner c (s.flowTaken n) = ⟨(s.deleteFlow k).flowTaken n, status .ok, e.action.named⟩ := by
  have same : (s.flowTaken n).flow k = some e := found
  unfold removeFlowOwner
  rw [h]
  dsimp only
  rw [same]
  rfl

theorem readFlowOwner_noKey (n : Nat) (h : c.flowKey = none) :
    readFlowOwner c (s.flowTaken n) = ⟨s.flowTaken n, status .badValue, none⟩ := by
  unfold readFlowOwner
  rw [h]

theorem readFlowOwner_noFlow (n : Nat) (h : c.flowKey = some k) (missing : s.flow k = none) :
    readFlowOwner c (s.flowTaken n) = ⟨s.flowTaken n, status .noFlow, none⟩ := by
  have same : (s.flowTaken n).flow k = none := missing
  unfold readFlowOwner
  rw [h]
  dsimp only
  rw [same]

theorem readFlowOwner_found {e : FlowEntry} (n : Nat) (h : c.flowKey = some k) (found : s.flow k = some e) :
    readFlowOwner c (s.flowTaken n) = ⟨s.flowTaken n, { status := .ok, body := readFlowBody e }, none⟩ := by
  have same : (s.flowTaken n).flow k = some e := found
  unfold readFlowOwner
  rw [h]
  dsimp only
  rw [same]

end RemoveRead

/-- The word that a Read Flow reports for an action of code `a` and a record index `i` (section 11.4). -/
theorem flowWord_fields {a i : Nat} (ha : a < 4) : bits (packWord [(0, 2, a), (16, 16, i)]) 1 0 = a ∧
    bits (packWord [(0, 2, a), (16, 16, i)]) 31 16 = i % 65536 := by
  simp only [bits, packWord_cons_toNat, packWord_nil_toNat]
  omega

/-- Settles O27. -/
theorem removeAndReadFlow : Obligations.RemoveAndReadFlow := by
  intro s c lane untagged vlan key bad present deleted waits
  have noKey : bad → c.flowKey = none := Command.flowKey_eq_none
  have hasKey : ¬ bad → c.flowKey = some key := Command.flowKey_eq
  refine ⟨fun h busy => State.serveFlow_waits _ h busy, fun h busy => State.serveFlow_waits _ h busy, fun h => ?_,
    fun a due handed running => State.serveFlow_released _ due handed running, fun h => ?_⟩
  · by_cases isBad : bad
    · obtain ⟨t, ht, answered⟩ := State.serveFlow_refused h fun n => removeFlowOwner_noKey n (noKey isBad)
      exact ⟨t, ht, fun _ => answered, fun ok => absurd isBad ok, fun ok => absurd isBad ok, fun ok => absurd isBad ok⟩
    cases found : present with
    | none =>
      obtain ⟨t, ht, answered⟩ := State.serveFlow_refused h fun n => removeFlowOwner_noFlow n (hasKey isBad) found
      exact ⟨t, ht, fun ok => absurd ok isBad, fun _ _ => answered, fun _ e he => (nomatch he), fun _ e i he => (nomatch he)⟩
    | some e =>
      have gives := fun n => removeFlowOwner_found n (hasKey isBad) (e := e) found
      cases named : e.action.named with
      | some i =>
        rw [named] at gives
        obtain ⟨t, ht, quiet, busy⟩ := State.serveFlow_releases h (u := s.deleteFlow key) rfl rfl rfl gives
        have protect := (FlowAction.named_eq_some _ _).mp named
        refine ⟨t, ht, fun ok => absurd ok isBad, fun _ he => (nomatch he), fun _ e' he other => ?_, fun _ e' j he action => ?_⟩
        · cases he
          exact absurd protect (other i)
        · cases he
          cases protect.symm.trans action
          exact ⟨quiet, busy⟩
      | none =>
        rw [named] at gives
        obtain ⟨t, ht, answered⟩ := State.serveFlow_answered h (u := s.deleteFlow key) rfl rfl gives
        refine ⟨t, ht, fun ok => absurd ok isBad, fun _ he => (nomatch he), fun _ e' he _ => answered, fun _ e' j he action => ?_⟩
        cases he
        exact nomatch named.symm.trans ((FlowAction.named_eq_some _ _).mpr action)
  · by_cases isBad : bad
    · obtain ⟨t, ht, answered⟩ := State.serveFlow_refused h fun n => readFlowOwner_noKey n (noKey isBad)
      exact ⟨t, ht, fun _ => answered, fun ok => absurd isBad ok, fun ok => absurd isBad ok⟩
    cases found : present with
    | none =>
      obtain ⟨t, ht, answered⟩ := State.serveFlow_refused h fun n => readFlowOwner_noFlow n (hasKey isBad) found
      exact ⟨t, ht, fun ok => absurd ok isBad, fun _ _ => answered, fun _ e he => (nomatch he)⟩
    | some e =>
      obtain ⟨t, ht, answered⟩ := State.serveFlow_refused h fun n => readFlowOwner_found n (hasKey isBad) (e := e) found
      refine ⟨t, ht, fun ok => absurd ok isBad, fun _ he => (nomatch he), fun _ e' he => ?_⟩
      cases he
      refine ⟨_, answered, ?_⟩
      cases action : e.action with
      | protect i =>
        obtain ⟨code, index⟩ := flowWord_fields (a := 0) (i := i) (by decide)
        exact ⟨code, fun small => index.trans (Nat.mod_eq_of_lt (by omega))⟩
      | bypass => exact flowWord_fields (a := 1) (i := 0) (by decide)
      | discard => exact flowWord_fields (a := 2) (i := 0) (by decide)

/-! ### Add Flow -/

section AddFlow

variable {s : State} {c : Command} {k : FlowKey} {a : FlowAction}

theorem addFlowOwner_badWord (n : Nat) (h : c.flowKey = none ∨ c.flowAction = none) :
    addFlowOwner c (s.flowTaken n) = ⟨s.flowTaken n, status .badValue, none⟩ := by
  unfold addFlowOwner
  rcases h with h | h
  · rw [h]
  · rw [h]
    cases c.flowKey <;> rfl

theorem addFlowOwner_refused {st : Status} (n : Nat) (hk : c.flowKey = some k) (ha : c.flowAction = some a)
    (refused : s.addFlowRefusal c k a = some st) : addFlowOwner c (s.flowTaken n) = ⟨s.flowTaken n, status st, none⟩ := by
  have same : (s.flowTaken n).addFlowRefusal c k a = some st := refused
  unfold addFlowOwner
  rw [hk, ha]
  dsimp only
  rw [same]

/-- The taking of a flow command and the change of the map can be told in either order. -/
theorem State.addFlow_flowTaken (n : Nat) : (s.flowTaken n).addFlow k a = (s.addFlow k a).flowTaken n := by
  have claim : ∀ old, (s.flowTaken n).claimFor old a = (s.claimFor old a).flowTaken n := fun old => by
    unfold State.claimFor
    cases a with
    | protect i =>
      dsimp only
      split <;> rfl
    | bypass => rfl
    | discard => rfl
  have same : (s.flowTaken n).flow k = s.flow k := rfl
  unfold State.addFlow
  dsimp only
  rw [same, claim]
  cases s.flow k <;> rfl

theorem State.addFlow_present {e : FlowEntry} (found : s.flow k = some e) : s.addFlow k a =
    (s.claimFor (some e.action) a).updateFlow k (fun x => { x with action := a }) := by
  unfold State.addFlow
  rw [found]
  rfl

theorem State.addFlow_absent (missing : s.flow k = none) : s.addFlow k a =
    (s.claimFor none a).insertFlow { key := k, action := a, hits := 0 } := by
  unfold State.addFlow
  rw [missing]
  rfl

theorem addFlowOwner_accepted (n : Nat) (hk : c.flowKey = some k) (ha : c.flowAction = some a)
    (accepted : s.addFlowRefusal c k a = none) : addFlowOwner c (s.flowTaken n) =
    ⟨(s.addFlow k a).flowTaken n, status .ok, releasedBy ((s.flow k).map FlowEntry.action) a⟩ := by
  have same : (s.flowTaken n).addFlowRefusal c k a = none := accepted
  unfold addFlowOwner
  rw [hk, ha]
  dsimp only
  rw [same]
  dsimp only
  rw [State.addFlow_flowTaken]
  rfl

/-- Checks 2 to 8 of R85, for an action given by its code and its record index. -/
theorem State.addFlowRefusal_eq (s : State) (c : Command) (k : FlowKey) (action i : Nat) :
    s.addFlowRefusal c k (if action = 0 then .protect i else if action = 1 then .bypass else .discard) =
    if action = 0 ∧ 8192 ≤ i then some .badIndex
    else if (s.flow k).isSome = true ∧ c.replaces = false then some .duplicate
    else if (s.flow k).isNone = true ∧ 4096 ≤ s.flowMap.length then some .mapFull
    else if action = 0 ∧ (s.record i).state = .free then some .notPresent
    else if action = 0 ∧ (s.record i).state = .retiring then some .retiring
    else if action = 0 ∧ (s.record i).config.kind = .ingress then some .wrongKind
    else if action = 0 ∧ (s.record i).config.laneMask.getLsbD k.lane.val = false then some .badValue
    else none := by
  unfold State.addFlowRefusal
  by_cases zero : action = 0
  · subst zero
    simp only [if_true, true_and, decide_eq_true_eq]
    rfl
  · simp only [zero, false_and, if_false]
    by_cases one : action = 1
    · simp only [if_pos one, Bool.false_eq_true, if_false]
    · simp only [if_neg one, Bool.false_eq_true, if_false]

theorem State.claimFor_keeps (old : Option FlowAction) : (s.claimFor old a).port = s.port ∧ (s.claimFor old a).flowTurn = s.flowTurn ∧
    (s.claimFor old a).transit = s.transit ∧ (s.claimFor old a).flowMap = s.flowMap := by
  unfold State.claimFor
  cases a with
  | protect i =>
    dsimp only
    split <;> exact ⟨rfl, rfl, rfl, rfl⟩
  | bypass => exact ⟨rfl, rfl, rfl, rfl⟩
  | discard => exact ⟨rfl, rfl, rfl, rfl⟩

end AddFlow

/-- Settles O26. -/
theorem addFlow : Obligations.AddFlow := by
  intro s c lane untagged vlan action i key new present old claims claimed changed
  refine ⟨fun h busy => State.serveFlow_waits _ h busy, fun h => ?_,
    fun a due handed running => State.serveFlow_released _ due handed running⟩
  have refused : ∀ st, (∀ n, addFlowOwner c (s.flowTaken n) = ⟨s.flowTaken n, status st, none⟩) →
      ∃ t, exec .addFlow s = .next t ∧ s.flowAnswered s c { status := st } t := fun st => State.serveFlow_refused h
  by_cases bad : 3 < lane ∨ (untagged = false ∧ 4095 < vlan) ∨ action = 3
  · simp only [if_pos bad]
    refine refused _ fun n => addFlowOwner_badWord n ?_
    exact (or_assoc.mpr bad).imp Command.flowKey_eq_none Command.flowAction_eq_none
  simp only [if_neg bad]
  obtain ⟨goodKey, goodAction⟩ := not_or.mp (fun e => bad (or_assoc.mp e))
  have hk : c.flowKey = some key := Command.flowKey_eq goodKey
  have ha : c.flowAction = some new := Command.flowAction_eq goodAction
  have laneOk : ¬ 3 < lane := fun e => bad (Or.inl e)
  have lane_val : key.lane.val = lane := Nat.mod_eq_of_lt (by omega)
  have checks := s.addFlowRefusal_eq c key action i
  rw [lane_val] at checks
  have refuses : ∀ st, s.addFlowRefusal c key new = some st →
      ∃ t, exec .addFlow s = .next t ∧ s.flowAnswered s c { status := st } t :=
    fun st hst => refused st fun n => addFlowOwner_refused n hk ha hst
  have claimed_eq : s.claimFor old new = claimed := by
    simp only [claimed, claims]
    by_cases zero : action = 0
    · have protects : new = .protect i := if_pos zero
      rw [protects]
      by_cases same : old = some (.protect i)
      · exact (if_pos same).trans (if_neg (by simp [same])).symm
      · exact (if_neg same).trans (if_pos (by simp [zero, same])).symm
    · rw [if_neg (by simp [zero])]
      simp only [new, if_neg zero]
      split <;> rfl
  obtain ⟨claim_port, claim_turn, claim_transit, claim_map⟩ := s.claimFor_keeps (a := new) old
  rw [claimed_eq] at claim_port claim_turn claim_transit claim_map
  have changed_eq : s.addFlow key new = changed := by
    cases found : present with
    | some e =>
      have was : some e.action = old := (congrArg (Option.map FlowEntry.action) found).symm
      rw [State.addFlow_present found, was, claimed_eq]
      unfold State.updateFlow
      rw [claim_map]
      simp only [changed, found]
    | none =>
      have was : none = old := (congrArg (Option.map FlowEntry.action) found).symm
      rw [State.addFlow_absent found, was, claimed_eq]
      unfold State.insertFlow
      rw [claim_map]
      simp only [changed, found]
  have changed_port : changed.port = s.port := claim_port
  have changed_turn : changed.flowTurn = s.flowTurn := claim_turn
  have changed_transit : changed.transit = s.transit := claim_transit
  have accepted : s.addFlowRefusal c key new = none → ∀ n, addFlowOwner c (s.flowTaken n) =
      ⟨changed.flowTaken n, status .ok, releasedBy old new⟩ := fun no n => by
    rw [← changed_eq]
    exact addFlowOwner_accepted n hk ha no
  by_cases index : action = 0 ∧ 8192 ≤ i
  · simp only [if_pos index]
    exact refuses _ (checks.trans (if_pos index))
  simp only [if_neg index]
  have checks := checks.trans (if_neg index)
  by_cases twice : present.isSome = true ∧ flag (c.word 0) 13 = false
  · simp only [if_pos twice]
    exact refuses _ (checks.trans (if_pos twice))
  simp only [if_neg twice]
  have checks := checks.trans (if_neg twice)
  by_cases full : present.isNone = true ∧ 4096 ≤ s.flowMap.length
  · simp only [if_pos full]
    exact refuses _ (checks.trans (if_pos full))
  simp only [if_neg full]
  have checks := checks.trans (if_neg full)
  by_cases free : action = 0 ∧ (s.record i).state = .free
  · simp only [if_pos free]
    exact refuses _ (checks.trans (if_pos free))
  simp only [if_neg free]
  have checks := checks.trans (if_neg free)
  by_cases retiring : action = 0 ∧ (s.record i).state = .retiring
  · simp only [if_pos retiring]
    exact refuses _ (checks.trans (if_pos retiring))
  simp only [if_neg retiring]
  have checks := checks.trans (if_neg retiring)
  by_cases ingress : action = 0 ∧ (s.record i).config.kind = .ingress
  · simp only [if_pos ingress]
    exact refuses _ (checks.trans (if_pos ingress))
  simp only [if_neg ingress]
  have checks := checks.trans (if_neg ingress)
  by_cases outside : action = 0 ∧ (s.record i).config.laneMask.getLsbD lane = false
  · simp only [if_pos outside]
    exact refuses _ (checks.trans (if_pos outside))
  simp only [if_neg outside]
  have gives := accepted (checks.trans (if_neg outside))
  clear_value changed claimed claims old new present
  rcases old with _ | a | _ | _
  · exact State.serveFlow_answered h changed_turn changed_port gives
  · by_cases keeps : new = .protect a
    · have released : releasedBy (some (.protect a)) new = none := if_pos keeps
      rw [released] at gives
      simp only [if_pos keeps]
      exact State.serveFlow_answered h changed_turn changed_port gives
    · have released : releasedBy (some (.protect a)) new = some a := if_neg keeps
      rw [released] at gives
      simp only [if_neg keeps]
      obtain ⟨t, ht, quiet, busy⟩ := State.serveFlow_releases h changed_turn changed_port changed_transit gives
      refine ⟨t, ht, ?_⟩
      by_cases none : s.transit.enqueues = []
      · rw [if_pos none]
        exact quiet none
      · rw [if_neg none]
        exact busy none
  · exact State.serveFlow_answered h changed_turn changed_port gives
  · exact State.serveFlow_answered h changed_turn changed_port gives

end Sys2Proof.Machine
end

section
/-!
PROOFS. Read Association (section 9.1).
-/

namespace Sys2Proof.Machine

theorem Kind.code_lt (k : Kind) : k.code < 2 ^ 1 := by cases k <;> decide

theorem Stage.code_lt (st : Stage) : st.code < 2 ^ 3 := by cases st <;> decide

theorem LifetimeSource.code_lt (x : LifetimeSource) : x.code < 2 ^ 1 := by cases x <;> decide

theorem SwitchMode.code_lt (m : SwitchMode) : m.code < 2 ^ 1 := by cases m <;> decide

theorem Role.code_lt (x : Role) : x.code < 2 ^ 3 := by cases x <;> decide

theorem bit_lt (b : Bool) : bit b < 2 ^ 1 := by cases b <;> decide

/-! ### Words -/

section Words

theorem packWord_low_toNat {width : Nat} (v : Nat) (fits : width ≤ 32) : (packWord [(0, width, v)]).toNat = v % 2 ^ width := by
  have small : v % 2 ^ width < 2 ^ 32 :=
    Nat.lt_of_lt_of_le (Nat.mod_lt _ (Nat.two_pow_pos width)) (Nat.pow_le_pow_right (by decide) fits)
  rw [packWord_cons_toNat, packWord_nil_toNat, Nat.add_zero, Nat.pow_zero, Nat.mul_one, Nat.mod_eq_of_lt small]

/-- A word of two halves (section 11.4). -/
theorem packWord_halves_toNat (low high : Nat) :
    (packWord [(0, 16, low), (16, 16, high)]).toNat = low % 2 ^ 16 + 2 ^ 16 * (high % 2 ^ 16) := by
  simp only [packWord_cons_toNat, packWord_nil_toNat]
  omega

theorem tagWord (tag : BitVec 24) : (packWord [(0, 24, tag.toNat)]).toNat = tag.toNat :=
  (packWord_low_toNat _ (by decide)).trans (Nat.mod_eq_of_lt tag.isLt)

theorem windowWord (count window : Nat) :
    (packWord [(0, 16, count), (16, 8, window)]).toNat = count % 2 ^ 16 + 2 ^ 16 * (window % 2 ^ 8) := by
  simp only [packWord_cons_toNat, packWord_nil_toNat]
  omega

theorem wordOf_toNat (n : Nat) : (wordOf n).toNat = n % 2 ^ 32 := BitVec.toNat_ofNat _ _

theorem lowWord_toNat (n : Nat) : (lowWord n).toNat = n % 2 ^ 32 := BitVec.toNat_ofNat _ _

theorem highWord_toNat (n : Nat) : (highWord n).toNat = n / 2 ^ 32 % 2 ^ 32 := BitVec.toNat_ofNat _ _

end Words

/-! ### The words of a body -/

section Body

variable (r : Record)

/-- The fields of word 0 that both kinds have (section 11.4). -/
def Record.sharedFlags : Nat :=
  r.config.kind.code + 2 * r.state.code + 2 ^ 4 * r.haltReason.code + 2 ^ 6 * r.causes.code + 2 ^ 12 * r.stage.code
    + 2 ^ 16 * r.config.laneMask.toNat + 2 ^ 20 * bit r.config.confidential + 2 ^ 22 * r.config.lifetimeSource.code

variable {r}

theorem Record.readFlags_egress (kind : r.config.kind = .egress) : r.readFlags.toNat = r.sharedFlags
    + 2 ^ 21 * r.config.switchMode.code + 2 ^ 24 * bit r.triggerLatch + 2 ^ 25 * bit r.pendingTrigger + 2 ^ 26 * bit r.evidence
    + 2 ^ 27 * bit r.config.companion.isSome := by
  have list : r.readFlags = packWord [(0, 1, r.config.kind.code), (1, 3, r.state.code), (4, 2, r.haltReason.code),
      (6, 5, r.causes.code), (12, 3, r.stage.code), (16, 4, r.config.laneMask.toNat), (20, 1, bit r.config.confidential),
      (22, 1, r.config.lifetimeSource.code), (21, 1, r.config.switchMode.code), (24, 1, bit r.triggerLatch),
      (25, 1, bit r.pendingTrigger), (26, 1, bit r.evidence), (27, 1, bit r.config.companion.isSome)] := by
    unfold Record.readFlags
    rw [kind] <;> rfl
  have kindBit := r.config.kind.code_lt
  have state := r.state.code_lt
  have haltReason := r.haltReason.code_lt
  have causes := r.causes.code_lt
  have stage := r.stage.code_lt
  have mask := r.config.laneMask.isLt
  have confidential := bit_lt r.config.confidential
  have source := r.config.lifetimeSource.code_lt
  have mode := r.config.switchMode.code_lt
  have latch := bit_lt r.triggerLatch
  have pending := bit_lt r.pendingTrigger
  have evidence := bit_lt r.evidence
  have companion := bit_lt r.config.companion.isSome
  rw [list, Record.sharedFlags]
  simp only [packWord_cons_toNat, packWord_nil_toNat, Nat.add_mod_mod, Nat.mod_eq_of_lt kindBit, Nat.mod_eq_of_lt state,
    Nat.mod_eq_of_lt haltReason, Nat.mod_eq_of_lt causes, Nat.mod_eq_of_lt stage, Nat.mod_eq_of_lt mask,
    Nat.mod_eq_of_lt confidential, Nat.mod_eq_of_lt source, Nat.mod_eq_of_lt mode, Nat.mod_eq_of_lt latch,
    Nat.mod_eq_of_lt pending, Nat.mod_eq_of_lt evidence, Nat.mod_eq_of_lt companion]
  omega

theorem Record.readFlags_ingress (kind : r.config.kind = .ingress) : r.readFlags.toNat = r.sharedFlags
    + 2 ^ 24 * bit r.staleMark := by
  have list : r.readFlags = packWord [(0, 1, r.config.kind.code), (1, 3, r.state.code), (4, 2, r.haltReason.code),
      (6, 5, r.causes.code), (12, 3, r.stage.code), (16, 4, r.config.laneMask.toNat), (20, 1, bit r.config.confidential),
      (22, 1, r.config.lifetimeSource.code), (24, 1, bit r.staleMark)] := by
    unfold Record.readFlags
    rw [kind] <;> rfl
  have kindBit := r.config.kind.code_lt
  have state := r.state.code_lt
  have haltReason := r.haltReason.code_lt
  have causes := r.causes.code_lt
  have stage := r.stage.code_lt
  have mask := r.config.laneMask.isLt
  have confidential := bit_lt r.config.confidential
  have source := r.config.lifetimeSource.code_lt
  have stale := bit_lt r.staleMark
  rw [list, Record.sharedFlags]
  simp only [packWord_cons_toNat, packWord_nil_toNat, Nat.add_mod_mod, Nat.mod_eq_of_lt kindBit, Nat.mod_eq_of_lt state,
    Nat.mod_eq_of_lt haltReason, Nat.mod_eq_of_lt causes, Nat.mod_eq_of_lt stage, Nat.mod_eq_of_lt mask,
    Nat.mod_eq_of_lt confidential, Nat.mod_eq_of_lt source, Nat.mod_eq_of_lt stale]
  omega

/-- The words of a slot of an EGRESS record (section 11.4). -/
theorem Slot.readWords_egress (sl : Slot) : ∃ first : Word, sl.readWords .egress =
      [first, lowWord sl.nextSequence, packWord [(0, 17, sl.nextSequence / 2 ^ 32)]] ∧
    first.toNat = sl.role.code + 2 ^ 4 * sl.keyNumber.toNat + 2 ^ 8 * (sl.inFlight % 2 ^ 5) := by
  have role := sl.role.code_lt
  have number := sl.keyNumber.isLt
  refine ⟨_, rfl, ?_⟩
  simp only [packWord_cons_toNat, packWord_nil_toNat]
  omega

/-- The words of a slot of an INGRESS record (section 11.4). -/
theorem Slot.readWords_ingress (sl : Slot) : ∃ first : Word, sl.readWords .ingress =
      [first, lowWord sl.highest, packWord [(0, 16, sl.highest / 2 ^ 32)]] ∧
    first.toNat = sl.role.code + 2 ^ 4 * sl.keyNumber.toNat + 2 ^ 8 * (sl.inFlight % 2 ^ 5)
      + 2 ^ 16 * (sl.accepted.length % 2 ^ 9) := by
  have role := sl.role.code_lt
  have number := sl.keyNumber.isLt
  refine ⟨_, rfl, ?_⟩
  simp only [packWord_cons_toNat, packWord_nil_toNat]
  omega

theorem Record.readBody_egress (kind : r.config.kind = .egress) : r.readBody = r.readFlags :: (r.readEgress
    ++ r.slot0.readWords .egress ++ r.slot1.readWords .egress ++
    [lowWord r.counters.framesProtected, highWord r.counters.framesProtected, lowWord r.counters.octetsProtected,
      highWord r.counters.octetsProtected, wordOf r.counters.framesRefused]) := by
  unfold Record.readBody Record.readCounters
  rw [kind]

theorem Record.readBody_ingress (kind : r.config.kind = .ingress) : r.readBody = r.readFlags :: (r.readIngress
    ++ r.slot0.readWords .ingress ++ r.slot1.readWords .ingress ++
    [lowWord r.counters.framesAccepted, highWord r.counters.framesAccepted, lowWord r.counters.octetsAccepted,
      highWord r.counters.octetsAccepted, 0]) := by
  unfold Record.readBody Record.readCounters
  rw [kind]

end Body

/-- Settles O33. -/
theorem readAssociation : Obligations.ReadAssociation := by
  intro s c h i r g k other shared
  by_cases large : 8192 ≤ i
  · simp only [if_pos large]
    exact State.serve_refuses h fun n => if_pos large
  simp only [if_neg large]
  by_cases free : r.state = .free
  · simp only [if_pos free]
    exact State.serve_refuses h fun n => (if_neg large).trans (if_pos free)
  simp only [if_neg free]
  have turn : ∃ t, exec .readAssociation s = .next t ∧ s.answered s c { status := .ok, body := r.readBody } t :=
    State.serve_answers h rfl rfl fun n => (if_neg large).trans (if_neg free)
  obtain ⟨t, ht, answered⟩ := turn
  have untraced : r.readBody = other.readBody := by
    unfold Record.readBody Slot.readWords Record.readCounters
    rfl
  obtain ⟨e0, egress0, first0⟩ := r.slot0.readWords_egress
  obtain ⟨e1, egress1, first1⟩ := r.slot1.readWords_egress
  obtain ⟨i0, ingress0, head0⟩ := r.slot0.readWords_ingress
  obtain ⟨i1, ingress1, head1⟩ := r.slot1.readWords_ingress
  have counts : r.readBody.length = 26 := by
    cases kind : g.kind with
    | egress =>
      rw [Record.readBody_egress kind, egress0, egress1]
      rfl
    | ingress =>
      rw [Record.readBody_ingress kind, ingress0, ingress1]
      rfl
  refine ⟨t, ht, r.readBody, answered, untraced, counts, ?_⟩
  cases kind : g.kind with
  | egress =>
    have flags := Record.readFlags_egress kind
    rw [Record.readBody_egress kind, egress0, egress1]
    refine ⟨tagWord _, wordOf_toNat _, wordOf_toNat _, packWord_halves_toNat _ _, packWord_low_toNat _ (by decide), lowWord_toNat _,
      wordOf_toNat _, fun _ => ?_, fun other_kind => (nomatch other_kind)⟩
    refine ⟨?_, packWord_low_toNat _ (by decide), wordOf_toNat _, wordOf_toNat _, packWord_low_toNat _ (by decide),
      packWord_halves_toNat _ _, lowWord_toNat _, packWord_halves_toNat _ _, fun n => ?_, ⟨lowWord_toNat _, highWord_toNat _⟩,
      ⟨lowWord_toNat _, highWord_toNat _⟩, wordOf_toNat _⟩
    · exact flags
    · cases n with
      | false => exact ⟨first0, lowWord_toNat _, packWord_low_toNat _ (by decide)⟩
      | true => exact ⟨first1, lowWord_toNat _, packWord_low_toNat _ (by decide)⟩
  | ingress =>
    have flags := Record.readFlags_ingress kind
    rw [Record.readBody_ingress kind, ingress0, ingress1]
    refine ⟨tagWord _, wordOf_toNat _, wordOf_toNat _, packWord_halves_toNat _ _, packWord_low_toNat _ (by decide), lowWord_toNat _,
      wordOf_toNat _, fun other_kind => (nomatch other_kind), fun _ => ?_⟩
    refine ⟨?_, windowWord _ _, wordOf_toNat _, wordOf_toNat _, wordOf_toNat _, wordOf_toNat _, wordOf_toNat _,
      packWord_low_toNat _ (by decide), fun n => ?_, ⟨lowWord_toNat _, highWord_toNat _⟩,
      ⟨lowWord_toNat _, highWord_toNat _⟩, rfl⟩
    · exact flags
    · cases n with
      | false => exact ⟨head0, lowWord_toNat _, packWord_low_toNat _ (by decide)⟩
      | true => exact ⟨head1, lowWord_toNat _, packWord_low_toNat _ (by decide)⟩

end Sys2Proof.Machine
end

section
/-!
PROOFS. Walk Table (section 9.2): the statement fails at a state that no run reaches.
-/

namespace Sys2Proof.Machine

/-! ### A walk whose run starts past the table -/

/-- A walk at the end of the table whose body is full and whose run is held to have started at index 65,536, which no 16-bit resume word
can name. No command begins such a walk; the statement does not exclude it. -/
def strayTurn : WalkTurn where
  tag := 0
  direction := .up
  filter := .all
  count := 1
  next := none
  built := { entries := List.replicate 62 0, run := 1, runStart := 65536, draws := 0 }

/-- The part just after reset, but for that walk. -/
def strayState : State := { State.reset with manager := { State.reset.manager with walk := some strayTurn } }

/-- The walk is answered with a resume word of 0: the low 16 bits of its run's start (section 11.4). -/
theorem exec_walkTable_stray : ∃ t, exec .walkTable strayState = .next t ∧
    t.port.responses = responseWords 0 { status := .ok, body := 0 :: List.replicate 62 0 } := by
  refine ⟨_, rfl, ?_⟩
  rfl

/-- Refutes O34: at a state with a walk whose run started at index 65,536, which `strayState` is and no run reaches, the walk is answered
with the resume word 0, where the statement asks for the word 65,536. -/
theorem not_walkTableDescribesEveryIndex : ¬ Obligations.WalkTableDescribesEveryIndex := by
  intro holds
  obtain ⟨atEnd, -⟩ := (holds strayState).2 strayTurn rfl rfl
  obtain ⟨-, -, noRoom⟩ := atEnd rfl
  obtain ⟨t, ht, asked⟩ := noRoom (by decide) (by decide)
  obtain ⟨t', ht', given⟩ := exec_walkTable_stray
  have same : t' = t := by
    rw [ht'] at ht
    injection ht
  have responses : t.port.responses = responseWords 0 { status := .ok, body := 65536#32 :: List.replicate 62 0 } := by
    rw [asked]
    rfl
  rw [same, responses] at given
  have word := congrArg (fun ws => ws.getD 1 0) given
  exact absurd word (by decide)

end Sys2Proof.Machine
end

section
/-!
LAWS. What every step ends in: how a property of the state that no port register, message count or walk can change is carried through
the ways a command or an event is taken.
-/

namespace Sys2Proof.Machine

/-! ### What a result ends in -/

/-- Whatever state a result goes on with has a property. -/
def Ensures (r : Result) (P : State → Prop) : Prop := ∀ t, r = .next t → P t

section Ensures

variable {P Q : State → Prop} {r : Result} {t : State}

theorem ensures_next (h : P t) : Ensures (.next t) P := fun u hu => by
  injection hu with e
  exact e ▸ h

theorem ensures_ite {c : Prop} [Decidable c] {a b : Result} (ha : c → Ensures a P) (hb : ¬ c → Ensures b P) :
    Ensures (if c then a else b) P := by
  by_cases h : c
  · rw [if_pos h]
    exact ha h
  · rw [if_neg h]
    exact hb h

theorem ensures_unlessResetting {s : State} (hs : P s) (hr : s.port.resetting = false → Ensures r P) :
    Ensures (s.unlessResetting r) P :=
  ensures_ite (fun _ => ensures_next hs) fun h => hr (eq_false_of_ne_true h)

end Ensures

/-! ### The stores of the part -/

/-- Two states hold the same records, tags, ticks, flows, lanes, messages and time: they differ at most in the Command Port, the pins, the
walk and the model's own counts. -/
structure SameCore (s t : State) : Prop where
  records : t.manager.records = s.manager.records
  tagIndex : t.manager.tagIndex = s.manager.tagIndex
  ticksTaken : t.manager.ticksTaken = s.manager.ticksTaken
  flowMap : t.flowMap = s.flowMap
  flowTurn : t.flowTurn = s.flowTurn
  lanes : t.lanes = s.lanes
  timebase : t.timebase = s.timebase
  transit : t.transit = s.transit

section SameCore

variable {s t u : State}

theorem SameCore.refl (s : State) : SameCore s s := ⟨rfl, rfl, rfl, rfl, rfl, rfl, rfl, rfl⟩

theorem SameCore.trans (h : SameCore s t) (h' : SameCore t u) : SameCore s u :=
  ⟨h'.records.trans h.records, h'.tagIndex.trans h.tagIndex, h'.ticksTaken.trans h.ticksTaken, h'.flowMap.trans h.flowMap,
    h'.flowTurn.trans h.flowTurn, h'.lanes.trans h.lanes, h'.timebase.trans h.timebase, h'.transit.trans h.transit⟩

theorem SameCore.symm (h : SameCore s t) : SameCore t s :=
  ⟨h.records.symm, h.tagIndex.symm, h.ticksTaken.symm, h.flowMap.symm, h.flowTurn.symm, h.lanes.symm, h.timebase.symm,
    h.transit.symm⟩

theorem SameCore.record (h : SameCore s t) (i : Nat) : t.record i = s.record i := by
  unfold State.record
  rw [h.records]

theorem SameCore.lane (h : SameCore s t) (l : LaneId) : t.lane l = s.lane l := State.lane_congr h.lanes l

theorem sameCore_notify (s u : State) : SameCore u (s.notify u) := by
  constructor <;> simp

theorem sameCore_notifyWrite (u : State) : SameCore u u.notifyWrite := by
  constructor <;> simp

theorem sameCore_post (s : State) (tag : Nat) (r : Reply) : SameCore s (s.post tag r) :=
  have appended : SameCore s (s.appendResponse (responseWords tag r)) := ⟨rfl, rfl, rfl, rfl, rfl, rfl, rfl, rfl⟩
  appended.trans (sameCore_notify s _)

theorem sameCore_taken (s : State) : SameCore s s.taken :=
  have dropped : SameCore s s.dropCommand := ⟨rfl, rfl, rfl, rfl, rfl, rfl, rfl, rfl⟩
  dropped.trans (sameCore_notify s _)

end SameCore

/-- A property of the stores alone. -/
def OfCore (P : State → Prop) : Prop := ∀ s t, SameCore s t → P s → P t

section OfCore

variable {P : State → Prop} (core : OfCore P) {s u : State}

include core

theorem ensures_takes (h : P u) : Ensures (s.takes u) P := ensures_next (core _ _ (sameCore_notify s u) h)

theorem ensures_takesWrite (h : P u) : Ensures u.takesWrite P := ensures_next (core _ _ (sameCore_notifyWrite u) h)

theorem ensures_posts (h : P u) (tag : Nat) (r : Reply) : Ensures (.next ((s.notify u).post tag r)) P :=
  ensures_next (core _ _ (sameCore_post _ tag r) (core _ _ (sameCore_notify s u) h))

/-- The turn of a command, by what its owner makes of a state with the same stores (R157). -/
theorem ensures_serve {name : CommandName} {owner : Command → State → State × Reply} (hs : P s)
    (ho : ∀ c, s.offers c name → P (owner c s.taken).1) : Ensures (s.serve name owner) P := by
  unfold State.serve
  cases ready : s.ready with
  | none => exact ensures_next hs
  | some c =>
    refine ensures_ite (fun handed => ?_) fun _ => ensures_next hs
    exact ensures_posts core (ho c ⟨ready, handed⟩) _ _

/-- What a flow command's event at the Flow Map ends in (R84). -/
structure FlowEnds (P : State → Prop) (c : Command) (done : FlowOutcome) : Prop where
  quiet : done.release = none → P done.after
  released : ∀ i, done.release = some i → done.after.transit.enqueues = [] → P (done.after.releaseReference i)
  waits : ∀ i, done.release = some i → done.after.transit.enqueues ≠ [] →
    P (done.after.holdFlowTurn (.releasing c i done.after.transit.enqueues))

theorem ensures_flowEvent {c : Command} {owner : Command → State → FlowOutcome} (ends : FlowEnds P c (owner c s.endFlowTurn)) :
    Ensures (s.flowEvent c owner) P := by
  unfold State.flowEvent
  dsimp only
  cases release : (owner c s.endFlowTurn).release with
  | none => exact ensures_posts core (ends.quiet release) _ _
  | some i =>
    exact ensures_ite (fun none => ensures_posts core (ends.released i release none) _ _)
      fun some => ensures_takes core (ends.waits i release some)

/-- The turn of a flow command, by the ends of its events (R84, R157). -/
theorem ensures_serveFlow {name : CommandName} {owner : Command → State → FlowOutcome} (hs : P s)
    (arrives : ∀ c, s.offers c name → s.transit.enqueues ≠ [] → P (s.taken.holdFlowTurn (.waiting c s.transit.enqueues)))
    (begins : ∀ c, s.offers c name → s.transit.enqueues = [] → FlowEnds P c (owner c s.taken.endFlowTurn))
    (resumes : ∀ c, s.flowTurn = some (.waiting c []) → FlowEnds P c (owner c s.endFlowTurn))
    (finishes : ∀ c i, s.flowTurn = some (.releasing c i []) → P (s.endFlowTurn.releaseReference i)) :
    Ensures (s.serveFlow name owner) P := by
  unfold State.serveFlow
  split
  next idle =>
    split
    next c ready =>
      refine ensures_ite (fun handed => ?_) fun _ => ensures_next hs
      have same : s.taken.transit.enqueues = s.transit.enqueues := by rw [(sameCore_taken s).transit]
      unfold State.flowArrives
      rw [same]
      exact ensures_ite (fun none => ensures_flowEvent core (begins c ⟨ready, handed⟩ none))
        fun some => ensures_takes core (arrives c ⟨ready, handed⟩ some)
    next => exact ensures_next hs
  next c waiting =>
    exact ensures_ite (fun _ => ensures_unlessResetting hs fun _ => ensures_flowEvent core (resumes c waiting))
      fun _ => ensures_next hs
  next c i releasing =>
    exact ensures_ite (fun _ => ensures_unlessResetting hs fun _ => ensures_posts core (finishes c i releasing) _ _)
      fun _ => ensures_next hs
  next => exact ensures_next hs

/-- A walk reads the records and touches no store but its own (R146). -/
theorem ensures_walkOn {t : WalkTurn} (hs : P s) : Ensures (s.walkOn t) P := by
  unfold State.walkOn
  split
  next w next _ => exact ensures_takes core (core s (s.holdWalk (some { t with next := next, built := w }) w.draws)
      ⟨rfl, rfl, rfl, rfl, rfl, rfl, rfl, rfl⟩ hs)
  next w resume _ => exact ensures_posts core (core s (s.endWalk resume w.draws)
      ⟨rfl, rfl, rfl, rfl, rfl, rfl, rfl, rfl⟩ hs) _ _

theorem ensures_walkTable (hs : P s) : Ensures (execWalkTable s) P := by
  unfold execWalkTable
  have taken : P s.taken := core _ _ (sameCore_taken s) hs
  split
  · exact ensures_unlessResetting hs fun _ => ensures_walkOn core hs
  · split
    · exact ensures_next hs
    · refine ensures_ite (fun _ => ?_) fun _ => ensures_next hs
      split
      · exact ensures_next (core _ _ (sameCore_post _ _ _) taken)
      · exact ensures_walkOn core taken

theorem ensures_commandAnsweredByPort (hs : P s) : Ensures (execCommandAnsweredByPort s) P := by
  unfold execCommandAnsweredByPort
  split
  · exact ensures_next hs
  · split
    · exact ensures_next (core _ _ (sameCore_post _ _ _) (core _ _ (sameCore_taken s) hs))
    · exact ensures_next hs

/-- An event that touches the Command Port alone. -/
theorem ensures_withPort (hs : P s) (p : CommandPort) : Ensures (s.unlessResetting (s.takes (s.withPort p))) P :=
  ensures_unlessResetting hs fun _ => ensures_takes core (core s _ ⟨rfl, rfl, rfl, rfl, rfl, rfl, rfl, rfl⟩ hs)

theorem ensures_withPortWrite (hs : P s) (p : CommandPort) : Ensures (s.unlessResetting (s.withPort p).takesWrite) P :=
  ensures_unlessResetting hs fun _ => ensures_takesWrite core (core s _ ⟨rfl, rfl, rfl, rfl, rfl, rfl, rfl, rfl⟩ hs)

theorem ensures_responseRead (hs : P s) : Ensures (execResponseRead s) P :=
  ensures_ite (fun _ => ensures_next (core s _ ⟨rfl, rfl, rfl, rfl, rfl, rfl, rfl, rfl⟩ hs))
    fun _ => ensures_takes core (core s _ ⟨rfl, rfl, rfl, rfl, rfl, rfl, rfl, rfl⟩ hs)

end OfCore

/-- The commands and events that touch no store: those that read, that the port answers or assembles, and the window's. -/
def readsOnly : Instr → Bool
  | .readAssociation | .walkTable | .readPart | .commandAnsweredByPort | .headerWrite _ | .bodyWrite _ | .keyWrite _ | .responseRead
  | .serviceStatusWrite _ | .serviceEnableWrite _ | .holdBitWrite _ | .ignoredWrite _ _ | .assemblyExpiry => true
  | _ => false

theorem ensures_readsOnly {P : State → Prop} (core : OfCore P) {s : State} (hs : P s) {c : Instr} (h : readsOnly c = true) :
    Ensures (exec c s) P := by
  have taken : P s.taken := core _ _ (sameCore_taken s) hs
  cases c with
  | readAssociation =>
    refine ensures_serve core hs fun c _ => ?_
    unfold readAssociationOwner
    dsimp only
    split
    · exact taken
    · split <;> exact taken
  | readPart => exact ensures_serve core hs fun c _ => taken
  | walkTable => exact ensures_walkTable core hs
  | commandAnsweredByPort => exact ensures_commandAnsweredByPort core hs
  | headerWrite w => exact ensures_withPort core hs _
  | bodyWrite w => exact ensures_withPort core hs _
  | keyWrite w => exact ensures_withPort core hs _
  | assemblyExpiry => exact ensures_withPort core hs _
  | serviceStatusWrite w => exact ensures_withPortWrite core hs _
  | serviceEnableWrite w => exact ensures_withPortWrite core hs _
  | holdBitWrite b => exact ensures_withPortWrite core hs _
  | ignoredWrite o w => exact ensures_next hs
  | responseRead => exact ensures_responseRead core hs
  | _ => cases h

end Sys2Proof.Machine
end

section
/-!
LAWS. The events of the lanes leave the tables of the part as they are: the records, the Tag Index, the Flow Map but for its hit counts,
and the time.
-/

namespace Sys2Proof.Machine

/-- A flow entry without its hit count. -/
def FlowEntry.bare (e : FlowEntry) : FlowKey × FlowAction := (e.key, e.action)

/-- Two states hold the same tables: records, tags, ticks and time, the same flow command in its turn, and the same flow entries but for
their hit counts. -/
structure SameTables (s t : State) : Prop where
  records : t.manager.records = s.manager.records
  tagIndex : t.manager.tagIndex = s.manager.tagIndex
  ticksTaken : t.manager.ticksTaken = s.manager.ticksTaken
  flows : t.flowMap.map FlowEntry.bare = s.flowMap.map FlowEntry.bare
  flowTurn : t.flowTurn = s.flowTurn
  timebase : t.timebase = s.timebase

section SameTables

variable {s t u : State}

theorem SameTables.refl (s : State) : SameTables s s := ⟨rfl, rfl, rfl, rfl, rfl, rfl⟩

theorem SameTables.trans (h : SameTables s t) (h' : SameTables t u) : SameTables s u :=
  ⟨h'.records.trans h.records, h'.tagIndex.trans h.tagIndex, h'.ticksTaken.trans h.ticksTaken, h'.flows.trans h.flows,
    h'.flowTurn.trans h.flowTurn, h'.timebase.trans h.timebase⟩

theorem SameCore.tables (h : SameCore s t) : SameTables s t :=
  ⟨h.records, h.tagIndex, h.ticksTaken, by rw [h.flowMap], h.flowTurn, h.timebase⟩

theorem SameTables.record (h : SameTables s t) (i : Nat) : t.record i = s.record i := by
  unfold State.record
  rw [h.records]

end SameTables

/-- A property of the tables alone. -/
def OfTables (P : State → Prop) : Prop := ∀ s t, SameTables s t → P s → P t

theorem OfTables.core {P : State → Prop} (tables : OfTables P) : OfCore P := fun s t h => tables s t h.tables

/-! ### What the operations of the lanes leave -/

/-- Two states hold the same tables, and the same words and walk at the Command Port. -/
structure Beside (s t : State) : Prop where
  tables : SameTables s t
  commands : t.port.commands = s.port.commands
  responses : t.port.responses = s.port.responses
  walk : t.manager.walk = s.manager.walk

section Operations

variable {s t u : State} (l : LaneId)

theorem Beside.refl (s : State) : Beside s s := ⟨.refl s, rfl, rfl, rfl⟩

theorem Beside.trans (h : Beside s t) (h' : Beside t u) : Beside s u :=
  ⟨h.tables.trans h'.tables, h'.commands.trans h.commands, h'.responses.trans h.responses, h'.walk.trans h.walk⟩

/-- States whose lanes, messages in transit and pins alone may differ. -/
theorem Beside.of_same (manager : t.manager = s.manager) (flowMap : t.flowMap = s.flowMap) (flowTurn : t.flowTurn = s.flowTurn)
    (timebase : t.timebase = s.timebase) (commands : t.port.commands = s.port.commands) (responses : t.port.responses = s.port.responses) :
    Beside s t :=
  ⟨⟨by rw [manager], by rw [manager], by rw [manager], by rw [flowMap], flowTurn, timebase⟩, commands, responses, by rw [manager]⟩

variable (s)

theorem beside_setLane (v : Lane) : Beside s (s.setLane l v) := .of_same rfl rfl rfl rfl rfl rfl

theorem beside_hit (k : FlowKey) : Beside s (s.updateFlow k FlowEntry.hit) := by
  refine ⟨⟨rfl, rfl, rfl, ?_, rfl, rfl⟩, rfl, rfl, rfl⟩
  unfold State.updateFlow
  rw [List.map_map]
  refine List.map_congr_left fun e _ => ?_
  rw [Function.comp_apply]
  split <;> rfl

theorem beside_classify (f : Frame) : Beside s (s.classify l f).1 := by
  unfold State.classify
  split
  · exact beside_hit s _
  · exact .refl s

theorem beside_applyAction (a : FlowAction) : Beside s (s.applyAction l a) := by
  cases a <;> exact .of_same rfl rfl rfl rfl rfl rfl

theorem beside_disposeOutbound (f : Frame) : Beside s (s.disposeOutbound l f) := by
  unfold State.disposeOutbound
  split
  · exact beside_setLane s l _
  · exact beside_setLane s l _
  all_goals exact (beside_classify s l f).trans (beside_applyAction _ l _)

theorem beside_completeOutbound (f : Frame) : Beside s (s.completeOutbound l f) := by
  unfold State.completeOutbound
  dsimp only
  split
  · exact beside_setLane s l _
  · split
    · exact beside_setLane s l _
    · split
      · exact beside_setLane s l _
      · split
        · exact beside_setLane s l _
        · exact beside_disposeOutbound s l f

theorem beside_takeHead (x : Entry) : Beside s (s.takeHead l x) := by
  unfold State.takeHead
  split <;> exact .of_same rfl rfl rfl rfl rfl rfl

theorem beside_takeAllocationAnswer (k : SlotNo) (d : Destination) (a : AllocationAnswer) (n : Nat) :
    Beside s (s.takeAllocationAnswer l k d a n) := by
  unfold State.takeAllocationAnswer
  dsimp only
  split
  · exact .of_same rfl rfl rfl rfl rfl rfl
  · exact .of_same rfl rfl rfl rfl rfl rfl
  · split <;> exact .of_same rfl rfl rfl rfl rfl rfl

theorem beside_completeTransmission (k : SlotNo) (f : StoredFrame) : Beside s (s.completeTransmission l k f) :=
  .of_same rfl rfl rfl rfl rfl rfl

end Operations

/-- The commands and events that change lanes and messages, and no table but the hit counts of the Flow Map. -/
def lanesOnly : Instr → Bool
  | .setLaneMode | .configureLane | .sampleLaneCounters | .restartLane | .partResetEnd _ | .cellClaim _ _ _
  | .egressReceiveCompletion _ | .headTaken _ | .allocationAnswer _ | .transmissionBegin _ | .transmissionCompletion _
  | .linePauseIndication _ | .linePauseExpiry _ | .refreshExpiry _ | .pauseFrameSend _ | .linkEvent _ _ _ _ | .lineFrameStart _
  | .loopHandoverStart _ | .ingressReceiveCompletion _ _ | .systemPauseIndication _ | .lookupAnswer _ _
  | .verificationCompletion _ _ | .commitAnswer _ _ | .deliveryStart _ | .deliveryCompletion _ | .systemPauseExpiry _ => true
  | _ => false

/-- How a command or event of the lanes is taken: not at all, as one event beside the tables and the port, as a command of one response,
or as the end of a Part Reset. -/
inductive LaneEvent (s : State) : Result → Prop where
  | stays : LaneEvent s (.next s)
  | taken {u : State} (beside : Beside s u) : LaneEvent s (s.takes u)
  | served (name : CommandName) {owner : Command → State → State × Reply} (beside : ∀ c u, Beside u (owner c u).1)
      (short : ∀ c u, (owner c u).2.body.length ≤ Config.walkBody) : LaneEvent s (s.serve name owner)
  | ended (links : LinkStates) : LaneEvent s (.next (s.endReset links))

section LaneEvents

variable {s : State} {r a b : Result}

theorem LaneEvent.ite {p : Prop} [Decidable p] (ha : LaneEvent s a) (hb : LaneEvent s b) : LaneEvent s (if p then a else b) := by
  split
  · exact ha
  · exact hb

theorem LaneEvent.unlessResetting (h : LaneEvent s r) : LaneEvent s (s.unlessResetting r) := .ite .stays h

/-- A lane given anew as one event. -/
theorem LaneEvent.setLane (l : LaneId) (v : Lane) : LaneEvent s (s.takes (s.setLane l v)) := .taken (beside_setLane s l v)

/-- A command at the lanes whose response is a status alone. -/
theorem LaneEvent.command (name : CommandName) {owner : Command → State → State × Reply}
    (settles : ∀ c u, Beside u (owner c u).1 ∧ (owner c u).2.body = []) : LaneEvent s (s.serve name owner) :=
  .served name (fun c u => (settles c u).1) fun c u => by
    rw [(settles c u).2]
    exact Nat.zero_le _

theorem laneEvent_exec (s : State) {c : Instr} (h : lanesOnly c = true) : LaneEvent s (exec c s) := by
  cases c with
  | setLaneMode =>
    refine .command .setLaneMode (owner := setLaneModeOwner) fun c u => ?_
    unfold setLaneModeOwner
    dsimp only
    split
    · split
      · exact ⟨.refl u, rfl⟩
      · split
        · exact ⟨.of_same rfl rfl rfl rfl rfl rfl, rfl⟩
        · exact ⟨.refl u, rfl⟩
    · exact ⟨.refl u, rfl⟩
  | configureLane =>
    refine .command .configureLane (owner := configureLaneOwner) fun c u => ?_
    unfold configureLaneOwner
    dsimp only
    split
    · exact ⟨.refl u, rfl⟩
    · split
      · exact ⟨.refl u, rfl⟩
      · split
        · exact ⟨beside_setLane u _ _, rfl⟩
        · exact ⟨.refl u, rfl⟩
  | sampleLaneCounters =>
    refine .served .sampleLaneCounters (owner := sampleLaneCountersOwner) (fun c u => ?_) fun c u => ?_
    all_goals
      unfold sampleLaneCountersOwner
      split
    · exact .refl u
    · exact beside_setLane u _ _
    · exact Nat.zero_le _
    next l _ =>
      show (u.lane l).control.sampleBody.length ≤ _
      unfold LaneControl.sampleBody
      rw [List.length_append, List.length_append, List.length_map, List.length_map, Vector.length_toList, Vector.length_toList]
      show (39 : Nat) ≤ 63
      decide
  | restartLane =>
    refine .command .restartLane (owner := restartLaneOwner) fun c u => ?_
    unfold restartLaneOwner
    split
    · exact ⟨.refl u, rfl⟩
    · exact ⟨.of_same rfl rfl rfl rfl rfl rfl, rfl⟩
  | partResetEnd links => exact .ite (.ended links) .stays
  | cellClaim | transmissionBegin | loopHandoverStart => exact .unlessResetting (.setLane _ _)
  | egressReceiveCompletion l =>
    refine .unlessResetting ?_
    split
    · exact .stays
    · exact .taken (beside_completeOutbound s l _)
  | headTaken l =>
    refine .unlessResetting ?_
    split
    · exact .stays
    · exact .ite (.taken (beside_takeHead s l _)) .stays
  | allocationAnswer l =>
    refine .unlessResetting ?_
    split
    · exact .taken (beside_takeAllocationAnswer s l _ _ _ _)
    · exact .stays
  | transmissionCompletion l =>
    refine .unlessResetting ?_
    split
    · exact .taken (beside_completeTransmission s l _ _)
    · exact .stays
  | linePauseIndication l | systemPauseIndication l =>
    refine .unlessResetting ?_
    split
    · exact .stays
    · exact .setLane l _
  | linePauseExpiry l | refreshExpiry l | deliveryStart l | systemPauseExpiry l => exact .unlessResetting (.ite (.setLane l _) .stays)
  | pauseFrameSend l =>
    refine .unlessResetting ?_
    split
    · exact .stays
    · exact .ite (.setLane l _) .stays
  | linkEvent l side up n => exact .unlessResetting (.ite .stays (.taken (.of_same rfl rfl rfl rfl rfl rfl)))
  | lineFrameStart l | deliveryCompletion l =>
    refine .unlessResetting ?_
    split
    · exact .setLane l _
    · exact .stays
  | ingressReceiveCompletion l arrival =>
    refine .unlessResetting ?_
    split
    · exact .setLane l _
    · exact .stays
    · unfold State.completeLoop
      split
      · exact .ite (.taken (beside_completeTransmission s l _ _)) .stays
      · exact .stays
  | lookupAnswer l j | verificationCompletion l j | commitAnswer l j =>
    refine .unlessResetting ?_
    split
    · split
      · exact .taken (.of_same rfl rfl rfl rfl rfl rfl)
      · exact .stays
    · exact .stays
  | _ => cases h

end LaneEvents

theorem ensures_lanesOnly {P : State → Prop} (tables : OfTables P) {s : State} (hs : P s) {c : Instr} (h : lanesOnly c = true) :
    Ensures (exec c s) P := by
  have event := laneEvent_exec s h
  generalize exec c s = r at event
  cases event with
  | stays => exact ensures_next hs
  | taken beside => exact ensures_takes tables.core (tables _ _ beside.tables hs)
  | served name beside short =>
    exact ensures_serve tables.core hs fun c _ => tables _ _ (beside c s.taken).tables (tables.core _ _ (sameCore_taken s) hs)
  | ended links => exact ensures_next (tables s _ ⟨rfl, rfl, rfl, rfl, rfl, rfl⟩ hs)

end Sys2Proof.Machine
end

section
/-!
PROOFS. Every step keeps each replay window (sections 1.2 and 7.5).
-/

namespace Sys2Proof.Machine

/-! ### Windows of a record -/

/-- Both of a record's windows are as R119 says. -/
def Record.windowsOk (r : Record) : Prop := ∀ k, r.windowOk k

section Windows

variable {r r' : Record}

theorem Record.windowsOk_free : Record.free.windowsOk := Record.windowOk_free

/-- What a rollover operation leaves of a record. -/
theorem Record.windowsOk_of_follows (h : r.windowsOk) (f : r.Follows Slot.sameWindow r') : r'.windowsOk := fun k => by
  unfold Record.windowOk
  rw [f.config]
  exact Slot.windowOk_of_sameWindow (f.slots k) (h k)

/-- A change of fields that touches neither the window size nor a window. -/
theorem Record.windowsOk_of_same (h : r.windowsOk) (window : r'.config.window = r.config.window)
    (slots : ∀ k, (r.slot k).sameWindow (r'.slot k)) : r'.windowsOk := fun k => by
  unfold Record.windowOk
  rw [window]
  exact Slot.windowOk_of_sameWindow (slots k) (h k)

theorem Slot.sameWindow_refl (sl : Slot) : sl.sameWindow sl := .inl ⟨rfl, rfl⟩

/-- A change of fields beside the slots and the configuration. -/
theorem Record.windowsOk_fields (h : r.windowsOk) (window : r'.config.window = r.config.window) (slot0 : r'.slot0 = r.slot0)
    (slot1 : r'.slot1 = r.slot1) : r'.windowsOk :=
  Record.windowsOk_of_same h window fun k => by
    cases k
    · show r.slot0.sameWindow r'.slot0
      rw [slot0]
      exact Slot.sameWindow_refl _
    · show r.slot1.sameWindow r'.slot1
      rw [slot1]
      exact Slot.sameWindow_refl _

theorem Record.windowsOk_setSlot (h : r.windowsOk) {k : SlotNo} {sl : Slot} (hsl : sl.windowOk r.config.window) :
    (r.setSlot k sl).windowsOk := fun j => by
  unfold Record.windowOk
  rw [Record.setSlot_config, Record.slot_setSlot]
  split
  · exact hsl
  · exact h j

theorem Record.windowsOk_freeWhenDrained (h : r.windowsOk) : r.freeWhenDrained.windowsOk := by
  unfold Record.freeWhenDrained
  split
  · exact Record.windowsOk_free
  · exact h

theorem Record.windowsOk_halt (h : r.windowsOk) (why : HaltReason) : (r.halt why).windowsOk := Record.windowsOk_fields h rfl rfl rfl

end Windows

theorem Slot.windowOk_written (role : Role) (n : BitVec 2) (key : BitVec 256) (salt : BitVec 48) (window : Nat) :
    (Slot.written role n key salt).windowOk window := Slot.windowOk_erased window

/-- A number that the window accepts (R119). -/
theorem Slot.windowOk_accept {sl : Slot} {window s : Nat} (h : sl.windowOk window)
    (judged : judge sl.highest sl.accepted window s = .accept) : (sl.accept window s).windowOk window := by
  obtain ⟨rising, empty, inside⟩ := h
  have lower : ∀ x ∈ sl.accepted, max 1 (sl.highest - window) ≤ x ∧ x ≤ sl.highest := fun x hx => by
    rcases Nat.eq_zero_or_pos sl.highest with zero | pos
    · rw [empty zero] at hx
      cases hx
    · exact (inside pos).2 x hx
  unfold judge at judged
  unfold Slot.accept
  by_cases newer : sl.highest < s
  · rw [if_pos newer]
    refine ⟨(addMember_rising rising).sublist List.filter_sublist, fun zero => absurd zero (by dsimp only; omega), fun _ => ⟨?_, ?_⟩⟩
    · exact List.mem_filter.mpr ⟨mem_addMember.mpr (.inl rfl), decide_eq_true (Nat.sub_le ..)⟩
    · intro x hx
      obtain ⟨mem, near⟩ := List.mem_filter.mp hx
      have near : s - window ≤ x := of_decide_eq_true near
      rcases mem_addMember.mp mem with rfl | old
      · dsimp only
        omega
      · have := lower x old
        dsimp only
        omega
  · rw [if_neg newer] at judged ⊢
    by_cases within : max 1 (sl.highest - window) ≤ s
    swap
    · rw [if_neg within] at judged
      cases judged
    have pos : 0 < sl.highest := by omega
    refine ⟨addMember_rising rising, fun zero => absurd zero (by dsimp only; omega), fun _ => ⟨?_, ?_⟩⟩
    · exact mem_addMember.mpr (.inr (inside pos).1)
    · intro x hx
      rcases mem_addMember.mp hx with rfl | old
      · dsimp only
        omega
      · exact lower x old

/-- A window trimmed to a smaller size (R12). -/
theorem Slot.windowOk_trim {sl : Slot} {window smaller : Nat} (h : sl.windowOk window) : (sl.trim smaller).windowOk smaller := by
  obtain ⟨rising, empty, inside⟩ := h
  refine ⟨rising.sublist List.filter_sublist, fun zero => ?_, fun pos => ⟨?_, fun x hx => ?_⟩⟩
  · have none := empty zero
    unfold Slot.trim
    dsimp only
    rw [none]
    rfl
  · exact List.mem_filter.mpr ⟨(inside pos).1, decide_eq_true (Nat.sub_le ..)⟩
  · obtain ⟨mem, near⟩ := List.mem_filter.mp hx
    have near : sl.highest - smaller ≤ x := of_decide_eq_true near
    have := (inside pos).2 x mem
    unfold Slot.trim
    dsimp only
    omega

/-- A window under a larger size (R12). -/
theorem Slot.windowOk_mono {sl : Slot} {window larger : Nat} (h : sl.windowOk window) (le : window ≤ larger) : sl.windowOk larger := by
  obtain ⟨rising, empty, inside⟩ := h
  refine ⟨rising, empty, fun pos => ⟨(inside pos).1, fun x hx => ?_⟩⟩
  have := (inside pos).2 x hx
  omega

/-! ### What the operations on a record keep -/

section Operations

variable {r : Record} (h : r.windowsOk) (n : Nat)

theorem Command.windowsOk_installed (c : Command) : c.installed.windowsOk := fun k => by
  cases k
  · exact Slot.windowOk_written ..
  · exact Slot.windowOk_erased _

include h

theorem Record.windowsOk_reconfigure (c : Command) : (r.reconfigure c).windowsOk := fun k => by
  have slot_eq : ∀ k, (r.reconfigure c).slot k = if decide ((c.modifyConfig r.config).window < r.config.window) then
      (r.slot k).trim (c.modifyConfig r.config).window else r.slot k := fun k => by cases k <;> rfl
  have config : (r.reconfigure c).config = c.modifyConfig r.config := rfl
  unfold Record.windowOk
  rw [slot_eq, config]
  by_cases lower : (c.modifyConfig r.config).window < r.config.window
  · rw [if_pos (decide_eq_true lower)]
    exact Slot.windowOk_trim (h k)
  · rw [if_neg (by simpa using lower)]
    exact Slot.windowOk_mono (h k) (Nat.le_of_not_lt lower)

theorem Record.windowsOk_modifyFires (c : Command) : (r.modifyFires c n).windowsOk := by
  unfold Record.modifyFires
  split
  · have aged : (if c.selects 25 then r.lifetimeCheck n else r).windowsOk := by
      split
      · exact Record.windowsOk_of_follows h (Record.follows_lifetimeCheck slotRule_sameWindow n r)
      · exact h
    dsimp only
    generalize (if c.selects 25 then r.lifetimeCheck n else r) = a at aged
    split
    · exact Record.windowsOk_of_follows aged (Record.follows_trigger slotRule_sameWindow n _)
    · exact aged
  · exact h

theorem Record.windowsOk_retire : r.retire.windowsOk := by
  have retired : ∀ sl : Slot, sl.sameWindow sl.retire := fun sl => by
    unfold Slot.retire
    split
    · exact Slot.sameWindow_refl sl
    · exact slotRule_sameWindow.close sl
  exact Record.windowsOk_of_same h rfl fun k => by cases k <;> exact retired _

theorem Record.windowsOk_loadNext (key : BitVec 256) (salt : BitVec 48) : (r.loadNext key salt n).windowsOk := by
  have loaded : (r.withNext key salt).windowsOk := Record.windowsOk_setSlot h (Slot.windowOk_written ..)
  unfold Record.loadNext
  split
  · have cleared : ({ r.withNext key salt with causes := { (r.withNext key salt).causes with keyNeeded := false } } : Record).windowsOk :=
      Record.windowsOk_fields loaded rfl rfl rfl
    unfold Record.loadedEgress
    dsimp only
    split
    · split
      · exact Record.windowsOk_of_follows cleared (Record.follows_enterLead slotRule_sameWindow n _)
      · split
        · exact Record.windowsOk_of_follows cleared (Record.follows_egressSwitch slotRule_sameWindow n _)
        · exact cleared
      · exact cleared
    · exact cleared
  · exact Record.windowsOk_fields loaded rfl rfl rfl

theorem Record.windowsOk_ingressSwitch (capture : Nat) : (r.ingressSwitch capture n).windowsOk :=
  Record.windowsOk_of_follows h (Record.follows_ingressSwitch slotRule_sameWindow n capture (fun _ => .inl ⟨rfl, rfl⟩) (.inl ⟨rfl, rfl⟩))

theorem Record.windowsOk_exhaustion (k : SlotNo) (s : Nat) : (r.exhaustion k s n).windowsOk := by
  unfold Record.exhaustion Record.exhaust
  split
  · split
    next hn =>
      have next := r.usableNext_iff.mp hn
      split
      · exact Record.windowsOk_of_follows h (Record.follows_switchTo slotRule_sameWindow n next)
      · exact Record.windowsOk_halt (Record.windowsOk_of_follows h (Record.follows_nextFault slotRule_sameWindow next)) _
    next => exact Record.windowsOk_halt h _
  · exact h

theorem Record.windowsOk_grant (m : Nat) : (r.grant m n).windowsOk := by
  have counted : ({ r.setSlot r.currentSlot { r.currentPosition with
      nextSequence := r.currentPosition.nextSequence + 1, inFlight := r.currentPosition.inFlight + 1 } with
      queuedFrames := r.queuedFrames - 1 } : Record).windowsOk :=
    Record.windowsOk_fields (Record.windowsOk_setSlot h (k := r.currentSlot) (sl := { r.currentPosition with
      nextSequence := r.currentPosition.nextSequence + 1, inFlight := r.currentPosition.inFlight + 1 }) (h r.currentSlot)) rfl rfl rfl
  have assigned : (r.assign m).windowsOk := Record.windowsOk_of_follows counted (Record.follows_credit slotRule_sameWindow m _)
  exact Record.windowsOk_exhaustion
    (Record.windowsOk_of_follows assigned (Record.follows_thresholds slotRule_sameWindow n _ _)) n _ _

theorem Record.windowsOk_refuse : r.refuse.windowsOk := Record.windowsOk_fields h rfl rfl rfl

theorem Record.windowsOk_currentFault : r.currentFault.windowsOk :=
  Record.windowsOk_halt (Record.windowsOk_setSlot h (k := r.currentSlot) (sl := r.currentPosition.damage) (h r.currentSlot)) _

theorem Record.windowsOk_allocate (i : Nat) (l : LaneId) (m : Nat) : (r.allocate i l m n).1.windowsOk := by
  unfold Record.allocate
  split
  · exact Record.windowsOk_freeWhenDrained (Record.windowsOk_refuse h)
  · split
    · exact Record.windowsOk_grant h n m
    · exact Record.windowsOk_currentFault (Record.windowsOk_refuse h)

theorem Record.windowsOk_endGrant (k : SlotNo) : (r.endGrant k n).windowsOk := by
  have erased : (r.setSlot k Slot.erased).windowsOk := Record.windowsOk_setSlot h (Slot.windowOk_erased _)
  unfold Record.endGrant
  dsimp only
  split
  · split
    · exact Record.windowsOk_of_follows erased (Record.follows_endDrain slotRule_sameWindow n _)
    · exact erased
  · exact Record.windowsOk_setSlot h (k := k) (sl := { r.slot k with inFlight := (r.slot k).inFlight - 1 }) (h k)

theorem Record.windowsOk_release (m : ReleaseMsg) : (r.release m n).windowsOk := by
  have counted : ({ r with counters := r.counters.released m } : Record).windowsOk := Record.windowsOk_fields h rfl rfl rfl
  exact Record.windowsOk_freeWhenDrained (Record.windowsOk_endGrant counted n m.slot)

theorem Record.windowsOk_abandon (m : AbandonMsg) : (r.abandon m n).windowsOk := by
  have counted : ({ r with counters := r.counters.abandoned m.reason } : Record).windowsOk := Record.windowsOk_fields h rfl rfl rfl
  exact Record.windowsOk_freeWhenDrained (Record.windowsOk_endGrant counted n m.slot)

theorem Record.windowsOk_lookupFault (k : SlotNo) : (r.lookupFault k).windowsOk := by
  have damaged : (r.setSlot k (r.slot k).damage).windowsOk := Record.windowsOk_setSlot h (k := k) (sl := (r.slot k).damage) (h k)
  unfold Record.lookupFault
  split
  · exact Record.windowsOk_halt damaged _
  · exact Record.windowsOk_of_follows h ((Record.follows_endOverlap slotRule_sameWindow r k).trans slotRule_sameWindow
      (Record.follows_raiseKeyFault slotRule_sameWindow _))
  · exact Record.windowsOk_fields damaged rfl rfl rfl

theorem Record.windowsOk_lookup (i : Nat) (l : LaneId) (e : EnvelopeFields) : (r.lookup i l e).1.windowsOk := by
  unfold Record.lookup
  split
  · exact h
  · split
    · exact Record.windowsOk_fields h rfl rfl rfl
    next k _ =>
      unfold Record.lookupSlot
      split
      · exact Record.windowsOk_fields h rfl rfl rfl
      · exact Record.windowsOk_fields h rfl rfl rfl
      · split
        · exact Record.windowsOk_setSlot h (k := k) (sl := { r.slot k with inFlight := (r.slot k).inFlight + 1 }) (h k)
        · have counted : r.countNoKey.windowsOk := Record.windowsOk_fields h rfl rfl rfl
          exact Record.windowsOk_lookupFault counted k

theorem Record.windowsOk_acceptCommit (k : SlotNo) (s m : Nat)
    (judged : judge (r.slot k).highest (r.slot k).accepted r.config.window s = .accept) : (r.acceptCommit k s m n).windowsOk := by
  have windowed : (r.setSlot k ((r.slot k).accept r.config.window s)).windowsOk :=
    Record.windowsOk_setSlot h (Slot.windowOk_accept (h k) judged)
  have switched : (if r.commitSwitches k then (r.setSlot k ((r.slot k).accept r.config.window s)).ingressSwitch s n
      else r.setSlot k ((r.slot k).accept r.config.window s)).windowsOk := by
    split
    · exact Record.windowsOk_ingressSwitch windowed n s
    · exact windowed
  unfold Record.acceptCommit
  dsimp only
  generalize (if r.commitSwitches k then (r.setSlot k ((r.slot k).accept r.config.window s)).ingressSwitch s n
      else r.setSlot k ((r.slot k).accept r.config.window s)) = a at switched
  refine Record.windowsOk_fields (r := a.commitCredit k m) ?_ rfl rfl rfl
  unfold Record.commitCredit
  split
  · split
    · exact Record.windowsOk_of_follows switched ((Record.follows_credit slotRule_sameWindow m a).trans slotRule_sameWindow
        (Record.follows_staleCheck slotRule_sameWindow _))
    · exact switched
  · exact switched

omit h in
theorem Record.judge_of_judgeCommit {k : SlotNo} {s : Nat} (accepted : r.judgeCommit k s = .accepted) :
    judge (r.slot k).highest (r.slot k).accepted r.config.window s = .accept := by
  unfold Record.judgeCommit at accepted
  split at accepted
  · cases accepted
  · split at accepted
    · cases accepted
    · split at accepted
      · cases accepted
      · cases accepted
      · assumption

theorem Record.windowsOk_commit (k : SlotNo) (s m : Nat) : (r.commit k s m n).windowsOk := by
  refine Record.windowsOk_freeWhenDrained (Record.windowsOk_endGrant ?_ n k)
  unfold Record.answerCommit
  cases answer : r.judgeCommit k s with
  | accepted => exact Record.windowsOk_acceptCommit h n k s m (Record.judge_of_judgeCommit answer)
  | retired => exact h
  | noKey => exact Record.windowsOk_fields h rfl rfl rfl
  | late => exact Record.windowsOk_fields h rfl rfl rfl
  | replay => exact Record.windowsOk_fields h rfl rfl rfl

end Operations

end Sys2Proof.Machine
end

section
/-!
LAWS. What the commands and the ticks do to the records: the operation that each leaves at an index, while the lanes, the flows and the
messages of frames stay as they are.
-/

namespace Sys2Proof.Machine

/-- A record as the Association Table holds it: one in state FREE is the FREE record (R2). -/
def Record.stored (r : Record) : Record := if r.state = .free then Record.free else r

theorem State.record_setRecord_stored (s : State) (i j : Nat) (r : Record) :
    (s.setRecord i r).record j = if i = j then r.stored else s.record j := State.record_setRecord s i j r

/-- What a command or a tick may make of a record, at a tick count: the operations that neither a frame nor a flow brings about. -/
inductive QuietMove (n : Nat) (r : Record) : Record → Prop where
  | installed (c : Command) (free : r.state = .free) : QuietMove n r c.installed
  | activated (staged : r.state = .staged) : QuietMove n r r.activate
  | counted (m : Nat) : QuietMove n r { r with companionCount := m }
  | modified (c : Command) (inUse : r.inUse) : QuietMove n r ((r.reconfigure c).modifyFires c n)
  | retired (inUse : r.inUse) : QuietMove n r r.retire.freeWhenDrained
  | cleared : QuietMove n r { r with counters := {} }
  | attended : QuietMove n r { r with causes := {} }
  | loaded (key : BitVec 256) (salt : BitVec 48) (running : r.state = .live ∨ r.state = .halted) (notBusy : r.slotBusy = false) :
      QuietMove n r (r.loadNext key salt n)
  | rolled (live : r.state = .live) (egress : r.config.kind = .egress) (steady : r.stage = .steady) : QuietMove n r (r.trigger n)
  | switched (running : r.state = .live ∨ r.state = .halted) (egress : r.config.kind = .egress) (next : r.usableNext = true) :
      QuietMove n r (r.egressSwitch n)
  | forced (ingress : r.config.kind = .ingress) (switchable : r.ingressSwitchable = true) : QuietMove n r (r.ingressSwitch 0 n)
  | ticked : QuietMove n r (r.tick n)
  | evident (sender : Nat) : QuietMove n r (r.evidenceArrives sender n)

/-- A state is what a command or a tick leaves of another: no lane, flow or message of a frame has changed, and each record stands or
has moved. -/
structure Quiet (s t : State) : Prop where
  lanes : t.lanes = s.lanes
  flowMap : t.flowMap = s.flowMap
  flowTurn : t.flowTurn = s.flowTurn
  enqueues : t.transit.enqueues = s.transit.enqueues
  withdrawals : t.transit.withdrawals = s.transit.withdrawals
  releases : t.transit.releases = s.transit.releases
  abandons : t.transit.abandons = s.transit.abandons
  records : ∀ i, t.record i = s.record i ∨ ∃ r, QuietMove s.timebase.tickCount (s.record i) r ∧ t.record i = r.stored

section Quiet

variable {s t u : State}

theorem Quiet.refl (s : State) : Quiet s s := ⟨rfl, rfl, rfl, rfl, rfl, rfl, rfl, fun _ => .inl rfl⟩

theorem quiet_core (s : State) : OfCore (Quiet s) := fun t u same h => {
    lanes := same.lanes.trans h.lanes
    flowMap := same.flowMap.trans h.flowMap
    flowTurn := same.flowTurn.trans h.flowTurn
    enqueues := by rw [same.transit, h.enqueues]
    withdrawals := by rw [same.transit, h.withdrawals]
    releases := by rw [same.transit, h.releases]
    abandons := by rw [same.transit, h.abandons]
    records := fun i => by
      rw [same.record]
      exact h.records i }

/-- What is quiet after the taking of a command is quiet. -/
theorem Quiet.of_taken (h : Quiet s.taken t) : Quiet s t := by
  have same := sameCore_taken s
  exact {
    lanes := h.lanes.trans same.lanes
    flowMap := h.flowMap.trans same.flowMap
    flowTurn := h.flowTurn.trans same.flowTurn
    enqueues := by rw [h.enqueues, same.transit]
    withdrawals := by rw [h.withdrawals, same.transit]
    releases := by rw [h.releases, same.transit]
    abandons := by rw [h.abandons, same.transit]
    records := fun i => by
      have moved := h.records i
      rw [same.record, same.timebase] at moved
      exact moved }

/-- One record given anew, beside others that stand or have moved. -/
theorem quiet_setRecord {i : Nat} {r : Record} (h : Quiet s t) (moved : QuietMove s.timebase.tickCount (s.record i) r) :
    Quiet s (t.setRecord i r) where
  lanes := h.lanes
  flowMap := h.flowMap
  flowTurn := h.flowTurn
  enqueues := h.enqueues
  withdrawals := h.withdrawals
  releases := h.releases
  abandons := h.abandons
  records j := by
    rw [State.record_setRecord_stored]
    split
    next e =>
      subst e
      exact .inr ⟨r, moved, rfl⟩
    next => exact h.records j

/-- A state that differs in the tags, the ticks taken and the evidence in transit alone. -/
theorem Quiet.of_same (h : Quiet s t) (records : u.manager.records = t.manager.records) (lanes : u.lanes = t.lanes)
    (flowMap : u.flowMap = t.flowMap) (flowTurn : u.flowTurn = t.flowTurn)
    (transit : u.transit = { t.transit with evidence := u.transit.evidence }) : Quiet s u where
  lanes := lanes.trans h.lanes
  flowMap := flowMap.trans h.flowMap
  flowTurn := flowTurn.trans h.flowTurn
  enqueues := by rw [transit]; exact h.enqueues
  withdrawals := by rw [transit]; exact h.withdrawals
  releases := by rw [transit]; exact h.releases
  abandons := by rw [transit]; exact h.abandons
  records i := by
    have same : u.record i = t.record i := by
      unfold State.record
      rw [records]
    rw [same]
    exact h.records i

/-- Companion counts given anew, whatever they were. -/
def Quiet.companions (s t : State) : Prop :=
  Quiet s t ∧ ∀ i, t.record i = s.record i ∨ ∃ m, t.record i = ({ s.record i with companionCount := m } : Record).stored

theorem Record.stored_counted (r : Record) (m m' : Nat) :
    ({ ({ r with companionCount := m } : Record).stored with companionCount := m' } : Record).stored =
      ({ r with companionCount := m' } : Record).stored := by
  unfold Record.stored
  by_cases free : r.state = .free
  · simp [free, Record.free]
  · simp [free]

theorem quiet_count {i m : Nat} (h : Quiet.companions s t) :
    Quiet.companions s (t.setRecord i { t.record i with companionCount := m }) := by
  obtain ⟨quiet, counts⟩ := h
  have at_index : ({ t.record i with companionCount := m } : Record).stored =
      ({ s.record i with companionCount := m } : Record).stored := by
    rcases counts i with same | ⟨m', same⟩
    · rw [same]
    · rw [same, Record.stored_counted]
  refine ⟨⟨quiet.lanes, quiet.flowMap, quiet.flowTurn, quiet.enqueues, quiet.withdrawals, quiet.releases, quiet.abandons,
    fun j => ?_⟩, fun j => ?_⟩
  · rw [State.record_setRecord_stored]
    split
    next e =>
      subst e
      exact .inr ⟨_, .counted m, at_index⟩
    next => exact quiet.records j
  · rw [State.record_setRecord_stored]
    split
    next e =>
      subst e
      exact .inr ⟨m, at_index⟩
    next => exact counts j

theorem Quiet.companions_refl (s : State) : Quiet.companions s s := ⟨Quiet.refl s, fun _ => .inl rfl⟩

theorem quiet_gainCompanion (h : Quiet.companions s t) (o : Option Nat) : Quiet.companions s (t.gainCompanion o) := by
  cases o with
  | none => exact h
  | some c => exact quiet_count h

theorem quiet_loseCompanion (h : Quiet.companions s t) (o : Option Nat) : Quiet.companions s (t.loseCompanion o) := by
  cases o with
  | none => exact h
  | some c => exact quiet_count h

end Quiet

/-! ### The commands -/

section Commands

variable {s : State} {c : Command}

theorem quiet_install (refused : s.installRefusal c = none) : Quiet s (s.install c) := by
  have free : (s.record c.index).state = .free := by
    unfold State.installRefusal at refused
    split_ifs at refused with _ occupied
    exact not_not.mp occupied
  have placed : Quiet s (s.setRecord c.index c.installed) := quiet_setRecord (Quiet.refl s) (.installed c free)
  unfold State.install
  dsimp only
  split
  · cases companion : c.installCompanion with
    | none => exact placed
    | some j =>
      have other : c.index ≠ j := by
        rintro rfl
        unfold State.installRefusal at refused
        rw [companion] at refused
        split_ifs at refused with _ _ _ _ present
        exact present (by simp [State.companionNotPresent, free])
      refine quiet_setRecord placed ?_
      rw [State.record_setRecord_ne s _ other]
      exact .counted _
  · exact placed.of_same rfl rfl rfl rfl rfl

theorem quiet_modify (refused : s.modifyRefusal c = none) : Quiet s (s.modify c) := by
  obtain ⟨-, inUse, -⟩ := State.modifyRefusal_eq_none refused
  rw [State.modify_eq]
  refine quiet_setRecord ?_ (.modified c inUse)
  unfold State.relink
  split
  · exact (quiet_gainCompanion (quiet_loseCompanion (Quiet.companions_refl s) _) _).1
  · exact Quiet.refl s

/-- A record that is neither FREE nor RETIRING is in use. -/
theorem Record.inUse_of_not {r : Record} (hf : r.state ≠ .free) (hr : r.state ≠ .retiring) : r.inUse := by
  unfold Record.inUse
  cases hs : r.state <;> simp_all

theorem State.retireRefusal_eq_none (refused : s.retireRefusal c = none) : c.index < 8192 ∧ (s.record c.index).inUse ∧
    (match (s.record c.index).config.kind with
      | .egress => (s.record c.index).flowReferences
      | .ingress => (s.record c.index).companionCount) = 0 := by
  unfold State.retireRefusal at refused
  dsimp only at refused
  split_ifs at refused with hi hf hr hu
  exact ⟨Nat.lt_of_not_le hi, Record.inUse_of_not hf hr, not_not.mp hu⟩

theorem quiet_retire (refused : s.retireRefusal c = none) : Quiet s (s.retire c) := by
  obtain ⟨-, inUse, -⟩ := State.retireRefusal_eq_none refused
  unfold State.retire
  dsimp only
  refine quiet_setRecord ?_ (.retired inUse)
  split
  · exact (Quiet.refl s).of_same rfl rfl rfl rfl rfl
  · exact (quiet_loseCompanion (Quiet.companions_refl s) _).1

theorem State.loadRefusal_eq_none (refused : s.loadRefusal c = none) : c.index < 8192 ∧
    ((s.record c.index).state = .live ∨ (s.record c.index).state = .halted) ∧ (s.record c.index).slotBusy = false := by
  unfold State.loadRefusal at refused
  dsimp only at refused
  split_ifs at refused with hi hf hr hs hb hg
  exact ⟨Nat.lt_of_not_le hi, Record.state_of_switchable hf hr hs, eq_false_of_ne_true hb⟩

theorem State.rollRefusal_eq_none (refused : s.rollRefusal c = none) : c.index < 8192 ∧ (s.record c.index).state = .live ∧
    (s.record c.index).config.kind = .egress ∧ (s.record c.index).stage = .steady := by
  unfold State.rollRefusal at refused
  dsimp only at refused
  split_ifs at refused with hi hf hr hk hs hst
  refine ⟨Nat.lt_of_not_le hi, ?_, ?_, not_not.mp hst⟩
  · obtain ⟨staged, halted⟩ := not_or.mp hs
    exact (Record.state_of_switchable hf hr staged).resolve_right halted
  · cases kind : (s.record c.index).config.kind with
    | egress => rfl
    | ingress => exact absurd kind hk

theorem State.forceRefusal_eq_none (refused : s.forceRefusal c = none) : c.index < 8192 ∧
    ((s.record c.index).state = .live ∨ (s.record c.index).state = .halted) ∧
    (match (s.record c.index).config.kind with
      | .egress => (s.record c.index).usableNext
      | .ingress => (s.record c.index).ingressSwitchable) = true := by
  unfold State.forceRefusal at refused
  dsimp only at refused
  split_ifs at refused with hi hf hr hs hn
  exact ⟨Nat.lt_of_not_le hi, Record.state_of_switchable hf hr hs, hn⟩

end Commands

/-- The commands and events that move records alone. -/
def quietInstr : Instr → Bool
  | .installAssociation | .activateAssociation | .modifyAssociation | .retireAssociation | .clearCounters | .loadNextKey | .rollNow
  | .forceSwitch | .takeAttention | .configurePart | .tick | .recordTick _ | .lifetimeThreshold _ | .leadExpiry _ | .graceExpiry _
  | .overlapExpiry _ | .evidenceArrival _ _ => true
  | _ => false

section Events

variable (s : State)

theorem quiet_tickWhen (i : Nat) (condition : Record → Bool) : Ensures (s.tickWhen i condition) (Quiet s) := by
  have counted : Quiet s { s with manager := s.manager.countTick i } := (Quiet.refl s).of_same rfl rfl rfl rfl rfl
  exact ensures_unlessResetting (Quiet.refl s) fun _ => ensures_ite
    (fun _ => ensures_takes (quiet_core s) (quiet_setRecord counted .ticked)) fun _ => ensures_next (Quiet.refl s)

theorem quiet_serve {name : CommandName} {owner : Command → State → State × Reply} (ho : ∀ c u, Quiet u (owner c u).1) :
    Ensures (s.serve name owner) (Quiet s) :=
  ensures_serve (quiet_core s) (Quiet.refl s) fun c _ => (ho c s.taken).of_taken

theorem ensures_quiet {c : Instr} (h : quietInstr c = true) : Ensures (exec c s) (Quiet s) := by
  cases c with
  | installAssociation =>
    refine quiet_serve s fun c u => ?_
    unfold installOwner
    split
    · exact Quiet.refl u
    next refused => exact quiet_install refused
  | activateAssociation =>
    refine quiet_serve s fun c u => ?_
    unfold activateOwner
    dsimp only
    split
    · exact Quiet.refl u
    · split
      iterate 4 exact Quiet.refl u
      next staged => exact quiet_setRecord (Quiet.refl u) (.activated staged)
  | modifyAssociation =>
    refine quiet_serve s fun c u => ?_
    unfold modifyOwner
    split
    · exact Quiet.refl u
    next refused => exact quiet_modify refused
  | retireAssociation =>
    refine quiet_serve s fun c u => ?_
    unfold retireOwner
    split
    · exact Quiet.refl u
    next refused => exact quiet_retire refused
  | clearCounters =>
    refine quiet_serve s fun c u => ?_
    unfold clearCountersOwner
    dsimp only
    split
    · exact Quiet.refl u
    · split
      · exact Quiet.refl u
      · exact quiet_setRecord (Quiet.refl u) .cleared
  | loadNextKey =>
    refine quiet_serve s fun c u => ?_
    unfold loadNextKeyOwner
    split
    · exact Quiet.refl u
    next refused =>
      obtain ⟨-, running, idle⟩ := State.loadRefusal_eq_none refused
      exact quiet_setRecord (Quiet.refl u) (.loaded _ _ running idle)
  | rollNow =>
    refine quiet_serve s fun c u => ?_
    unfold rollNowOwner
    split
    · exact Quiet.refl u
    next refused =>
      obtain ⟨-, live, egress, steady⟩ := State.rollRefusal_eq_none refused
      exact quiet_setRecord (Quiet.refl u) (.rolled live egress steady)
  | forceSwitch =>
    refine quiet_serve s fun c u => ?_
    unfold forceSwitchOwner
    split
    · exact Quiet.refl u
    next refused =>
      obtain ⟨-, running, switchable⟩ := State.forceRefusal_eq_none refused
      dsimp only
      split
      next egress =>
        rw [egress] at switchable
        exact quiet_setRecord (Quiet.refl u) (.switched running egress switchable)
      next ingress =>
        rw [ingress] at switchable
        exact (quiet_setRecord (Quiet.refl u) (.forced ingress switchable)).of_same rfl rfl rfl rfl rfl
  | takeAttention =>
    refine quiet_serve s fun c u => ?_
    unfold takeAttentionOwner
    split
    · exact Quiet.refl u
    · exact quiet_setRecord (Quiet.refl u) .attended
  | configurePart =>
    refine quiet_serve s fun c u => ?_
    unfold configurePartOwner
    split
    · exact Quiet.refl u
    · exact (Quiet.refl u).of_same rfl rfl rfl rfl rfl
  | tick =>
    exact ensures_unlessResetting (Quiet.refl s) fun _ =>
      ensures_takes (quiet_core s) ((Quiet.refl s).of_same rfl rfl rfl rfl rfl)
  | recordTick i => exact quiet_tickWhen s i fun _ => true
  | lifetimeThreshold i => exact quiet_tickWhen s i Record.thresholdAtTick
  | leadExpiry i => exact quiet_tickWhen s i fun r => r.leadAtTick s.timebase.tickCount
  | graceExpiry i => exact quiet_tickWhen s i fun r => r.graceAtTick s.timebase.tickCount
  | overlapExpiry i => exact quiet_tickWhen s i fun r => r.overlapAtTick s.timebase.tickCount
  | evidenceArrival sender receiver =>
    refine ensures_unlessResetting (Quiet.refl s) fun _ => ensures_ite (fun _ => ?_) fun _ => ensures_next (Quiet.refl s)
    have taken : Quiet s { s with transit := { s.transit with evidence := s.transit.evidence.erase (sender, receiver) } } :=
      (Quiet.refl s).of_same rfl rfl rfl rfl rfl
    exact ensures_takes (quiet_core s) (quiet_setRecord taken (.evident sender))
  | _ => cases h

end Events

/-! ### The groups of commands and events -/

/-- A property of every command and event, by what they change: records alone, no store, no table, or what a flow command, a reset or a
message of a frame changes. -/
theorem Instr.byGroup {motive : Instr → Prop} (quiet : ∀ c, quietInstr c = true → motive c)
    (reads : ∀ c, readsOnly c = true → motive c) (lanes : ∀ c, lanesOnly c = true → motive c)
    (addFlow : motive .addFlow) (removeFlow : motive .removeFlow) (readFlow : motive .readFlow)
    (partReset : ∀ hold, motive (.partReset hold)) (powerOnReset : ∀ links, motive (.powerOnReset links))
    (fundamentalReset : ∀ links, motive (.pcieFundamentalReset links)) (enqueue : ∀ l i, motive (.enqueue l i))
    (withdrawal : ∀ l i, motive (.queuedFrameWithdrawal l i)) (allocation : ∀ l, motive (.allocationRequest l))
    (release : ∀ m, motive (.release m)) (abandon : ∀ m, motive (.abandon m)) (lookup : ∀ l j, motive (.lookup l j))
    (commit : ∀ l j, motive (.commit l j)) (c : Instr) : motive c := by
  cases hq : quietInstr c with
  | true => exact quiet c hq
  | false =>
    cases hr : readsOnly c with
    | true => exact reads c hr
    | false =>
      cases hl : lanesOnly c with
      | true => exact lanes c hl
      | false =>
        cases c with
        | addFlow => exact addFlow
        | removeFlow => exact removeFlow
        | readFlow => exact readFlow
        | partReset hold => exact partReset hold
        | powerOnReset links => exact powerOnReset links
        | pcieFundamentalReset links => exact fundamentalReset links
        | enqueue l i => exact enqueue l i
        | queuedFrameWithdrawal l i => exact withdrawal l i
        | allocationRequest l => exact allocation l
        | release m => exact release m
        | abandon m => exact abandon m
        | lookup l j => exact lookup l j
        | commit l j => exact commit l j
        | _ => contradiction

theorem ensures_step {P : State → Prop} (core : OfCore P) {s : State} (h : P s) (quantum : P s.quantum)
    (each : ∀ c (u : State), P u → Ensures (exec c u) P) : Ensures (step s) P := by
  unfold step
  split
  · exact ensures_next quantum
  next c rest _ => exact each c _ (core s { s with pending := rest } ⟨rfl, rfl, rfl, rfl, rfl, rfl, rfl, rfl⟩ h)

end Sys2Proof.Machine
end

section
/-!
PROOFS. Every step keeps each replay window: the commands and events one by one (sections 1.2 and 7.5).
-/

namespace Sys2Proof.Machine

/-! ### What a command or a tick makes of a record -/

theorem Record.windowsOk_stored {r : Record} (h : r.windowsOk) : r.stored.windowsOk := by
  unfold Record.stored
  split
  · exact Record.windowsOk_free
  · exact h

theorem QuietMove.windowsOk {n : Nat} {r r' : Record} (moved : QuietMove n r r') (h : r.windowsOk) : r'.windowsOk := by
  cases moved with
  | installed c => exact c.windowsOk_installed
  | activated | counted | cleared | attended => exact Record.windowsOk_fields h rfl rfl rfl
  | modified c => exact Record.windowsOk_modifyFires (Record.windowsOk_reconfigure h c) n c
  | retired => exact Record.windowsOk_freeWhenDrained (Record.windowsOk_retire h)
  | loaded key salt => exact Record.windowsOk_loadNext h n key salt
  | rolled => exact Record.windowsOk_of_follows h (Record.follows_trigger slotRule_sameWindow n r)
  | switched => exact Record.windowsOk_of_follows h (Record.follows_egressSwitch slotRule_sameWindow n r)
  | forced => exact Record.windowsOk_ingressSwitch h n 0
  | ticked => exact Record.windowsOk_of_follows h (Record.follows_tick slotRule_sameWindow n r)
  | evident sender => exact Record.windowsOk_of_follows h (Record.follows_evidenceArrives slotRule_sameWindow n r sender)

/-! ### The windows of a state -/

/-- Every window of the part is as R119 says. -/
def State.windowsOk (s : State) : Prop := ∀ i, (s.record i).windowsOk

section Windows

variable {s t : State}

theorem windowsOk_tables : OfTables State.windowsOk := fun s t same h i => by
  rw [same.record]
  exact h i

theorem windowsOk_setRecord (h : s.windowsOk) {i : Nat} {r : Record} (hr : r.windowsOk) : (s.setRecord i r).windowsOk := fun j => by
  rw [State.record_setRecord_stored]
  split
  · exact Record.windowsOk_stored hr
  · exact h j

theorem Quiet.windowsOk (q : Quiet s t) (h : s.windowsOk) : t.windowsOk := fun i => by
  rcases q.records i with same | ⟨r, moved, same⟩
  · rw [same]
    exact h i
  · rw [same]
    exact Record.windowsOk_stored (moved.windowsOk (h i))

theorem windowsOk_resetBlocks (s : State) (lanes : Vector Lane 4) : (s.resetBlocks lanes).windowsOk :=
  fun _ => Record.windowsOk_free

/-! ### The flow commands -/

theorem windowsOk_reference (h : s.windowsOk) (i m : Nat) : (s.setRecord i { s.record i with flowReferences := m }).windowsOk :=
  windowsOk_setRecord h (Record.windowsOk_fields (h i) rfl rfl rfl)

theorem windowsOk_flowEnds {c : Command} {done : FlowOutcome} (h : done.after.windowsOk) : FlowEnds State.windowsOk c done where
  quiet _ := h
  released i _ _ := windowsOk_reference h i _
  waits _ _ _ := h

theorem windowsOk_serveFlow {name : CommandName} {owner : Command → State → FlowOutcome} (h : s.windowsOk)
    (ho : ∀ c (u : State), u.windowsOk → (owner c u).after.windowsOk) : Ensures (s.serveFlow name owner) State.windowsOk := by
  have taken : s.taken.windowsOk := windowsOk_tables.core _ _ (sameCore_taken s) h
  exact ensures_serveFlow windowsOk_tables.core h (fun _ _ _ => taken) (fun c _ _ => windowsOk_flowEnds (ho c _ taken))
    (fun c _ => windowsOk_flowEnds (ho c _ h)) fun _ i _ => windowsOk_reference (s := s.endFlowTurn) h i _

theorem windowsOk_addFlow (h : s.windowsOk) (k : FlowKey) (a : FlowAction) : (s.addFlow k a).windowsOk := by
  have claimed : (s.claimFor ((s.flow k).map FlowEntry.action) a).windowsOk := by
    unfold State.claimFor
    split
    · split
      · exact h
      · exact windowsOk_reference h _ _
    all_goals exact h
  unfold State.addFlow
  dsimp only
  split <;> exact claimed

theorem windowsOk_addFlowOwner (c : Command) (u : State) (h : u.windowsOk) : (addFlowOwner c u).after.windowsOk := by
  unfold addFlowOwner
  split
  · split
    · exact h
    · exact windowsOk_addFlow h _ _
  · exact h

theorem windowsOk_removeFlowOwner (c : Command) (u : State) (h : u.windowsOk) : (removeFlowOwner c u).after.windowsOk := by
  unfold removeFlowOwner
  split
  · exact h
  · split <;> exact h

theorem windowsOk_readFlowOwner (c : Command) (u : State) (h : u.windowsOk) : (readFlowOwner c u).after.windowsOk := by
  unfold readFlowOwner
  split
  · exact h
  · split <;> exact h

/-! ### The requests and messages of the engines -/

theorem windowsOk_judgeLookup (h : s.windowsOk) (l : LaneId) (e : EnvelopeFields) : (s.judgeLookup l e).1.windowsOk := by
  unfold State.judgeLookup
  split
  · exact h
  · exact windowsOk_setRecord h (Record.windowsOk_lookup (h _) _ l e)

theorem windowsOk_takeCommit (h : s.windowsOk) (l : LaneId) (k : StoreId) (f : FrameStore) (octets : Frame) (e : EnvelopeFields)
    (g : IngressGrant) (plaintext : List Byte) : (s.takeCommit l k f octets e g plaintext).windowsOk := by
  have committed : (s.setRecord g.record ((s.record g.record).commit g.slot e.sequence (deliveredCount octets)
      s.timebase.tickCount)).windowsOk := windowsOk_setRecord h (Record.windowsOk_commit (h _) _ _ _ _)
  unfold State.takeCommit State.commitEvidence
  dsimp only
  split
  · exact windowsOk_tables _ _ ⟨rfl, rfl, rfl, rfl, rfl, rfl⟩ committed
  · exact windowsOk_tables _ _ ⟨rfl, rfl, rfl, rfl, rfl, rfl⟩ committed

theorem windowsOk_reset (lanes : Vector Lane 4) : Ensures (.next (s.resetBlocks lanes)) State.windowsOk :=
  ensures_next (windowsOk_resetBlocks s lanes)

/-- Every command and event keeps the windows. -/
theorem windowsOk_exec (h : s.windowsOk) : ∀ c, Ensures (exec c s) State.windowsOk := by
  have core := windowsOk_tables.core
  refine Instr.byGroup (fun c quiet t next => (ensures_quiet s quiet t next).windowsOk h) (fun c => ensures_readsOnly core h)
    (fun c => ensures_lanesOnly windowsOk_tables h) (windowsOk_serveFlow h windowsOk_addFlowOwner)
    (windowsOk_serveFlow h windowsOk_removeFlowOwner) (windowsOk_serveFlow h windowsOk_readFlowOwner)
    (fun _ => ensures_unlessResetting h fun _ => ensures_next fun _ => Record.windowsOk_free) (fun _ => windowsOk_reset _)
    (fun _ => windowsOk_reset _) ?enqueue ?withdrawal ?allocation ?release ?abandon ?lookup ?commit
  case enqueue =>
    intro l i
    have gained : (s.record i).gainQueued.windowsOk := Record.windowsOk_fields (h i) rfl rfl rfl
    exact ensures_unlessResetting h fun _ => ensures_ite (fun _ => ensures_takes core
      (windowsOk_setRecord (s := { s with transit := _, flowTurn := _ }) h gained)) fun _ => ensures_next h
  case withdrawal =>
    intro l i
    have lost : (s.record i).loseQueued.windowsOk := Record.windowsOk_fields (h i) rfl rfl rfl
    exact ensures_unlessResetting h fun _ => ensures_ite (fun _ => ensures_takes core
      (windowsOk_setRecord (s := { s with transit := _ }) h (Record.windowsOk_freeWhenDrained lost))) fun _ => ensures_next h
  case allocation =>
    intro l
    refine ensures_unlessResetting h fun _ => ?_
    split
    next q _ =>
      have judged := Record.windowsOk_allocate (h q.record) s.timebase.tickCount q.record l q.protectedOctets
      exact ensures_ite (fun _ => ensures_takes core (windowsOk_setRecord (s := s.setLane l _) h judged)) fun _ => ensures_next h
    next => exact ensures_next h
  case release =>
    intro m
    exact ensures_unlessResetting h fun _ => ensures_ite (fun _ => ensures_takes core
      (windowsOk_setRecord (s := { s with transit := _ }) h (Record.windowsOk_release (h m.record) _ m))) fun _ => ensures_next h
  case abandon =>
    intro m
    exact ensures_unlessResetting h fun _ => ensures_ite (fun _ => ensures_takes core
      (windowsOk_setRecord (s := { s with transit := _ }) h (Record.windowsOk_abandon (h m.record) _ m))) fun _ => ensures_next h
  case lookup =>
    intro l j
    refine ensures_unlessResetting h fun _ => ?_
    split
    · split
      · exact ensures_ite (fun _ => ensures_next h) fun _ => ensures_takes core (windowsOk_judgeLookup h l _)
      · exact ensures_next h
    · exact ensures_next h
  case commit =>
    intro l j
    refine ensures_unlessResetting h fun _ => ?_
    split
    · split
      · exact ensures_takes core (windowsOk_takeCommit h _ _ _ _ _ _ _)
      · exact ensures_next h
    · exact ensures_next h

end Windows

/-- Settles O7: each command or event leaves at a record what an operation that keeps its windows makes of it. -/
theorem stepKeepsReplayWindows : Obligations.StepKeepsReplayWindows := by
  intro s t h next i k
  exact ensures_step windowsOk_tables.core (fun i k => h i k) (fun i k => h i k) (fun c u hu => windowsOk_exec hu c) t next i k

end Sys2Proof.Machine
end

section
/-!
PROOFS. Every step keeps each record's slots, stage, latch, halt reason and key numbers together (chapters 1, 2 and 4): what the rollover
operations keep of a LIVE or HALTED record.
-/

namespace Sys2Proof.Machine

/-! ### Slots -/

section Slots

variable {sl : Slot} {kind : Kind}

/-- A present slot given a role that asks for nothing more. -/
theorem Slot.Ok.withRole (h : sl.Ok kind) {role : Role} (absent : role ≠ .absent) (closing : role = .closing → 0 < sl.inFlight)
    (next : role ≠ .next) (old : kind = .egress → role ≠ .old) : Slot.Ok { sl with role := role } kind where
  absent e := absurd e absent
  closing := closing
  egress e := by
    obtain ⟨-, highest, accepted, low, high, -, room⟩ := h.egress e
    exact ⟨old e, highest, accepted, low, high, fun e => absurd e next, room⟩
  ingress e := by
    obtain ⟨number, -, room⟩ := h.ingress e
    exact ⟨number, fun e => absurd e next, room⟩

theorem Slot.Ok.damage (h : sl.Ok kind) : sl.damage.Ok kind := by
  unfold Slot.damage
  exact h.withRole (by decide) (fun e => nomatch e) (by decide) (fun _ => by decide)

theorem Slot.Ok.close (h : sl.Ok kind) : sl.close.Ok kind := by
  by_cases idle : sl.inFlight = 0
  · rw [Slot.close_of_idle idle]
    exact Slot.ok_erased kind
  · rw [Slot.close_of_held idle]
    exact h.withRole (by decide) (fun _ => Nat.pos_of_ne_zero idle) (by decide) (fun _ => by decide)

theorem Slot.close_role (sl : Slot) : (sl.inFlight = 0 ∧ sl.close.role = .absent) ∨ (sl.inFlight ≠ 0 ∧ sl.close.role = .closing) := by
  by_cases idle : sl.inFlight = 0
  · exact .inl ⟨idle, by rw [Slot.close_of_idle idle]; rfl⟩
  · exact .inr ⟨idle, by rw [Slot.close_of_held idle]⟩

theorem Slot.close_keyNumber (h : sl.close.role ≠ .absent) : sl.close.keyNumber = sl.keyNumber := by
  by_cases idle : sl.inFlight = 0
  · rw [Slot.close_of_idle idle] at h
    exact absurd rfl h
  · rw [Slot.close_of_held idle]

theorem Slot.close_not_next (sl : Slot) : sl.close.role ≠ .next := by
  rcases sl.close_role with ⟨-, role⟩ | ⟨-, role⟩ <;> rw [role] <;> decide

/-- A NEXT slot has given no number yet. -/
theorem Slot.Ok.next_number (h : sl.Ok kind) (next : sl.role = .next) : sl.nextSequence = 1 := by
  cases kind with
  | egress => exact ((h.egress rfl).2.2.2.2.2.1 next).1
  | ingress => exact (h.ingress rfl).1

/-- A NEXT slot that becomes CURRENT. -/
theorem Slot.Ok.current (h : sl.Ok kind) : Slot.Ok { sl with role := .current } kind :=
  h.withRole (by decide) (fun e => nomatch e) (by decide) (fun _ => by decide)

theorem Slot.ok_written (role : Role) (h : role = .current ∨ role = .next) (number : BitVec 2) (key : BitVec 256) (salt : BitVec 48) :
    (Slot.written role number key salt).Ok kind where
  absent e := by rcases h with rfl | rfl <;> cases e
  closing e := by rcases h with rfl | rfl <;> cases e
  egress _ := ⟨(by rcases h with rfl | rfl <;> exact fun e => (nomatch e)), rfl, rfl, Nat.le_refl _, Nat.one_le_two_pow,
    fun _ => ⟨rfl, rfl⟩, Nat.zero_le _⟩
  ingress _ := ⟨rfl, fun _ => rfl, Nat.zero_le _⟩

end Slots

/-! ### Records that run -/

/-- A record runs: LIVE, with a CURRENT key whose next number is at most a bound, or HALTED for a reason. -/
def Record.runsAs (r : Record) (top : Nat) : Prop :=
  (r.state = .live ∧ r.currentPosition.role = .current ∧ r.haltReason = .none ∧ (r.pendingTrigger = true → r.stage = .drainOld) ∧
    r.currentPosition.nextSequence ≤ top) ∨
  (r.state = .halted ∧ ((r.haltReason = .keyFault ∧ r.currentPosition.role = .damaged) ∨
    (r.config.kind = .egress ∧ (r.haltReason = .graceExpired ∨ r.haltReason = .seqExhausted) ∧ r.currentPosition.role = .current)))

/-- A LIVE or HALTED record stands as `Record.Ok` says, by the two positions of its slots; the next number of its CURRENT key is at
most a bound. -/
structure Record.Runs (r : Record) (top : Nat) : Prop where
  current : r.currentPosition.Ok r.config.kind
  other : r.otherPosition.Ok r.config.kind
  stage : r.stageOk
  status : r.runsAs top
  triggers : r.config.kind = .ingress → r.triggerLatch = false ∧ r.pendingTrigger = false
  numbers : r.otherPosition.role ≠ .absent → r.currentPosition.keyNumber ≠ r.otherPosition.keyNumber
  next : r.otherPosition.role = .next → r.otherPosition.keyNumber = r.currentPosition.keyNumber + 1

/-- The most that the next number of a LIVE record's CURRENT key can be. -/
def Config.lastNext : Nat := 2 ^ 48 - 1

section Runs

variable {r r' : Record} {top : Nat}

theorem Record.slots_iff (r : Record) (p : Slot → Prop) : (p r.slot0 ∧ p r.slot1) ↔ (p r.currentPosition ∧ p r.otherPosition) := by
  unfold Record.currentPosition Record.otherPosition Record.slot
  cases r.currentSlot
  · exact Iff.rfl
  · exact and_comm

theorem Record.Runs.present (h : r.Runs top) : r.currentPosition.role ≠ .absent := by
  rcases h.status with ⟨-, role, -⟩ | ⟨-, ⟨-, role⟩ | ⟨-, -, role⟩⟩ <;> rw [role] <;> decide

theorem Record.Runs.ok (h : r.Runs Config.lastNext) : r.Ok where
  slot0 := ((r.slots_iff (Slot.Ok · r.config.kind)).mpr ⟨h.current, h.other⟩).1
  slot1 := ((r.slots_iff (Slot.Ok · r.config.kind)).mpr ⟨h.current, h.other⟩).2
  state := by
    unfold Record.stateOk
    rcases h.status with ⟨state, role, reason, pending, number⟩ | ⟨state, status⟩
    · rw [state]
      have : Config.lastNext < 2 ^ 48 := by decide
      exact ⟨role, reason, h.stage, pending, by omega⟩
    · rw [state]
      exact ⟨h.stage, status⟩
  triggers := h.triggers
  numbers h0 h1 := by
    have present := h.present
    have numbers := h.numbers
    unfold Record.currentPosition Record.otherPosition Record.slot at *
    cases hk : r.currentSlot <;> rw [hk] at numbers present
    · exact numbers h1
    · exact (numbers h0).symm
  next := h.next

theorem Record.Ok.runs (h : r.Ok) (running : r.state = .live ∨ r.state = .halted) : r.Runs Config.lastNext := by
  obtain ⟨current, other⟩ := (r.slots_iff (Slot.Ok · r.config.kind)).mp ⟨h.slot0, h.slot1⟩
  have hs := h.state
  unfold Record.stateOk at hs
  have status : r.runsAs Config.lastNext ∧ r.stageOk := by
    rcases running with state | state <;> rw [state] at hs
    · obtain ⟨role, reason, stage, pending, number⟩ := hs
      have : Config.lastNext + 1 = 2 ^ 48 := by decide
      exact ⟨.inl ⟨state, role, reason, pending, by omega⟩, stage⟩
    · exact ⟨.inr ⟨state, hs.2⟩, hs.1⟩
  obtain ⟨status, stage⟩ := status
  refine ⟨current, other, stage, status, h.triggers, fun beside => ?_, h.next⟩
  have present : r.currentPosition.role ≠ .absent := by
    rcases status with ⟨-, role, -⟩ | ⟨-, ⟨-, role⟩ | ⟨-, -, role⟩⟩ <;> rw [role] <;> decide
  have numbers := h.numbers
  unfold Record.currentPosition Record.otherPosition Record.slot at *
  cases hk : r.currentSlot <;> rw [hk] at present beside
  · exact numbers present beside
  · exact (numbers beside present).symm

/-- A change of fields that no part of the invariant reads. -/
theorem Record.Runs.fields (h : r.Runs top) (kind : r'.config.kind = r.config.kind) (state : r'.state = r.state)
    (stage : r'.stage = r.stage) (latch : r'.triggerLatch = r.triggerLatch) (pending : r'.pendingTrigger = r.pendingTrigger)
    (reason : r'.haltReason = r.haltReason) (current : r'.currentPosition = r.currentPosition)
    (other : r'.otherPosition = r.otherPosition) : r'.Runs top := by
  have stageOk := h.stage
  have status := h.status
  unfold Record.stageOk at stageOk
  unfold Record.runsAs at status
  rw [← kind, ← state, ← stage, ← latch, ← other] at stageOk
  rw [← kind, ← state, ← stage, ← pending, ← reason, ← current] at status
  exact ⟨by rw [current, kind]; exact h.current, by rw [other, kind]; exact h.other, stageOk, status,
    by rw [kind, latch, pending]; exact h.triggers, by rw [current, other]; exact h.numbers, by rw [current, other]; exact h.next⟩

theorem Record.stageOk_egress_iff (egress : r.config.kind = .egress) : r.stageOk ↔
    (r.stage = .steady ∧ r.triggerLatch = false ∧
      (r.otherPosition.role = .absent ∨ r.otherPosition.role = .next ∨ r.otherPosition.role = .damaged)) ∨
    (r.stage = .awaitKey ∧ r.triggerLatch = true ∧ (r.otherPosition.role = .absent ∨ r.otherPosition.role = .damaged ∨
      (r.state = .halted ∧ r.otherPosition.role = .next))) ∨
    ((r.stage = .lead ∨ r.stage = .awaitEvidence) ∧ r.triggerLatch = true ∧
      (r.otherPosition.role = .next ∨ r.otherPosition.role = .damaged)) ∨
    (r.stage = .drainOld ∧ r.triggerLatch = false ∧ r.otherPosition.role = .closing) := by
  unfold Record.stageOk
  rw [egress]
  cases r.stage <;> simp

theorem Record.stageOk_ingress_iff (ingress : r.config.kind = .ingress) : r.stageOk ↔
    (r.stage = .steady ∧ r.otherPosition.role = .absent) ∨
    (r.stage = .armed ∧ (r.otherPosition.role = .next ∨ r.otherPosition.role = .damaged)) ∨
    (r.stage = .overlap ∧ r.otherPosition.role = .old) ∨ (r.stage = .drainOld ∧ r.otherPosition.role = .closing) := by
  unfold Record.stageOk
  rw [ingress]
  cases r.stage <;> simp

/-- The CURRENT slot changed with its role, key number and next number kept. -/
theorem Record.Runs.setCurrent (h : r.Runs top) {sl : Slot} (role : sl.role = r.currentPosition.role)
    (keyNumber : sl.keyNumber = r.currentPosition.keyNumber) (ok : sl.Ok r.config.kind) {top' : Nat}
    (number : r.state = .live → sl.nextSequence ≤ top') : (r.setSlot r.currentSlot sl).Runs top' := by
  have current : (r.setSlot r.currentSlot sl).currentPosition = sl := by
    unfold Record.currentPosition
    rw [Record.setSlot_currentSlot, Record.slot_setSlot_self]
  have other : (r.setSlot r.currentSlot sl).otherPosition = r.otherPosition := by
    unfold Record.otherPosition
    rw [Record.setSlot_currentSlot, Record.slot_setSlot_not]
  have stage := h.stage
  refine ⟨by rw [current, Record.setSlot_config]; exact ok, by rw [other, Record.setSlot_config]; exact h.other, ?_, ?_, ?_, ?_, ?_⟩
  · unfold Record.stageOk at stage ⊢
    rw [other, Record.setSlot_config, Record.setSlot_stage, Record.setSlot_state, Record.setSlot_triggerLatch]
    exact stage
  · unfold Record.runsAs
    rw [current, Record.setSlot_config, Record.setSlot_stage, Record.setSlot_state, Record.setSlot_pendingTrigger,
      Record.setSlot_haltReason, role]
    rcases h.status with ⟨state, role, reason, pending, -⟩ | halted
    · exact .inl ⟨state, role, reason, pending, number state⟩
    · exact .inr halted
  · rw [Record.setSlot_config, Record.setSlot_triggerLatch, Record.setSlot_pendingTrigger]
    exact h.triggers
  · rw [current, other, keyNumber]
    exact h.numbers
  · rw [current, other, keyNumber]
    exact h.next

/-- The slot beside the CURRENT one changed, where the record's stage allows it. -/
theorem Record.Runs.setOther (h : r.Runs top) {sl : Slot} (ok : sl.Ok r.config.kind) (stage : (r.setSlot (!r.currentSlot) sl).stageOk)
    (numbers : sl.role ≠ .absent → r.currentPosition.keyNumber ≠ sl.keyNumber)
    (next : sl.role = .next → sl.keyNumber = r.currentPosition.keyNumber + 1) : (r.setSlot (!r.currentSlot) sl).Runs top := by
  have current : (r.setSlot (!r.currentSlot) sl).currentPosition = r.currentPosition := by
    unfold Record.currentPosition
    rw [Record.setSlot_currentSlot, Record.slot_setSlot_of_not]
  have other : (r.setSlot (!r.currentSlot) sl).otherPosition = sl := by
    unfold Record.otherPosition
    rw [Record.setSlot_currentSlot, Record.slot_setSlot_self]
  have status := h.status
  refine ⟨by rw [current, Record.setSlot_config]; exact h.current, by rw [other, Record.setSlot_config]; exact ok, stage, ?_, ?_, ?_, ?_⟩
  · unfold Record.runsAs at status ⊢
    rw [current, Record.setSlot_config, Record.setSlot_stage, Record.setSlot_state, Record.setSlot_pendingTrigger,
      Record.setSlot_haltReason]
    exact status
  · rw [Record.setSlot_config, Record.setSlot_triggerLatch, Record.setSlot_pendingTrigger]
    exact h.triggers
  · rw [current, other]
    exact numbers
  · rw [current, other]
    exact next

@[simp] theorem Record.setOther_otherPosition (r : Record) (sl : Slot) : (r.setSlot (!r.currentSlot) sl).otherPosition = sl := by
  unfold Record.otherPosition
  rw [Record.setSlot_currentSlot, Record.slot_setSlot_self]

/-- The record with its trigger latch set, as a trigger in STEADY leaves it before its stage changes (R55). -/
def Record.latched (r : Record) : Record := { r with triggerLatch := true, graceTimer := 0 }

/-! ### The rollover of an EGRESS record -/

section Egress

variable (h : r.Runs top) (egress : r.config.kind = .egress) (low : 1 ≤ top) (n : Nat)

theorem Record.switchTo_positions (r : Record) (n : Nat) :
    (r.switchTo n).currentPosition = { r.otherPosition with role := .current, nextSequence := 1 } ∧
      (r.switchTo n).otherPosition = r.currentPosition.close := by
  unfold Record.switchTo Record.currentPosition Record.otherPosition Record.slot Record.setSlot
  cases r.currentSlot <;> exact ⟨rfl, rfl⟩

include h in
theorem Record.Runs.displaced_number (next : r.otherPosition.role = .next) :
    r.currentPosition.close.role ≠ .absent → r.otherPosition.keyNumber ≠ r.currentPosition.close.keyNumber := fun kept => by
  rw [Slot.close_keyNumber kept]
  exact (h.numbers (by rw [next]; decide)).symm

include h egress

/-- A switch ends in a LIVE record, whose key begins (R63). -/
theorem Record.switchTo_runs (next : r.otherPosition.role = .next) {top' : Nat} (low : 1 ≤ top') : (r.switchTo n).Runs top' := by
  obtain ⟨current, other⟩ := r.switchTo_positions n
  have config : (r.switchTo n).config = r.config := (Record.follows_switchTo slotRule_carries n next).config
  have kind : (r.switchTo n).config.kind = .egress := by rw [config, egress]
  have live : (r.switchTo n).state = .live := by
    unfold Record.switchTo
    rcases h.status with ⟨state, -⟩ | ⟨state, -⟩ <;> simp [state]
  have reason : (r.switchTo n).haltReason = .none := by
    unfold Record.switchTo
    rcases h.status with ⟨state, -, reason, -⟩ | ⟨state, -⟩
    · simp [state, reason]
    · simp [state]
  have begun := h.other.next_number next
  have started : Slot.Ok { r.otherPosition with role := .current, nextSequence := 1 } r.config.kind := by
    have ok := h.other.current
    rw [← begun]
    exact ok
  refine ⟨by rw [current, config]; exact started, by rw [other, config]; exact h.current.close, ?_, .inl ⟨live, by rw [current], reason, ?_, by rw [current]; exact low⟩,
    fun ingress => (nomatch kind.symm.trans ingress), ?_, ?_⟩
  · rw [Record.stageOk_egress_iff kind, other]
    rcases r.currentPosition.close_role with ⟨idle, role⟩ | ⟨held, role⟩
    · exact .inl ⟨if_pos idle, rfl, .inl role⟩
    · exact .inr (.inr (.inr ⟨if_neg held, rfl, role⟩))
  · intro pending
    cases pending
  · rw [current, other]
    exact h.displaced_number next
  · rw [other]
    exact fun e => absurd e (Slot.close_not_next _)

/-- A NEXT key found damaged (R64). -/
theorem Record.nextFault_runs (next : r.otherPosition.role = .next) : r.nextFault.Runs top := by
  have damaged : (r.setSlot (!r.currentSlot) r.otherPosition.damage).Runs top := by
    refine h.setOther h.other.damage ?_ (fun _ => h.numbers (by rw [next]; decide)) fun e => nomatch e
    have stage := (Record.stageOk_egress_iff egress).mp h.stage
    rw [Record.stageOk_egress_iff (by rw [Record.setSlot_config]; exact egress), Record.setOther_otherPosition, Record.setSlot_stage,
      Record.setSlot_triggerLatch]
    rcases stage with ⟨stage, latch, -⟩ | ⟨stage, latch, -⟩ | ⟨stage, latch, -⟩ | ⟨-, -, role⟩
    · exact .inl ⟨stage, latch, .inr (.inr rfl)⟩
    · exact .inr (.inl ⟨stage, latch, .inr (.inl rfl)⟩)
    · exact .inr (.inr (.inl ⟨stage, latch, .inr rfl⟩))
    · cases next.symm.trans role
  exact damaged.fields rfl rfl rfl rfl rfl rfl rfl rfl

include low

theorem Record.egressSwitch_runs : (r.egressSwitch n).Runs top := by
  unfold Record.egressSwitch
  split
  next usable =>
    have next := r.usableNext_iff.mp usable
    split
    · exact Record.switchTo_runs h egress n next low
    · exact Record.nextFault_runs h egress next
  next => exact h

theorem Record.leadExpiry_runs (lead : r.stage = .lead) : (r.leadExpiry n).Runs top := by
  unfold Record.leadExpiry
  split
  · exact Record.egressSwitch_runs h egress low n
  · have stage : (r.enter .awaitEvidence).stageOk := by
      rw [Record.stageOk_egress_iff (r := r.enter .awaitEvidence) egress]
      rcases (Record.stageOk_egress_iff egress).mp h.stage with ⟨e, -⟩ | ⟨e, -⟩ | ⟨-, latch, role⟩ | ⟨e, -⟩
      · cases lead.symm.trans e
      · cases lead.symm.trans e
      · exact .inr (.inr (.inl ⟨.inr rfl, latch, role⟩))
      · cases lead.symm.trans e
    refine ⟨h.current, h.other, stage, ?_, h.triggers, h.numbers, h.next⟩
    rcases h.status with ⟨state, role, reason, pending, number⟩ | halted
    · exact .inl ⟨state, role, reason, fun e => (nomatch lead.symm.trans (pending e)), number⟩
    · exact .inr halted

omit h egress in
theorem Record.enterLead_runs (h : (r.enter .lead).Runs top) (egress : r.config.kind = .egress) : (r.enterLead n).Runs top := by
  unfold Record.enterLead
  split
  · exact Record.leadExpiry_runs h egress low n rfl
  · exact h

omit h egress low in
/-- A trigger in STEADY, where the trigger latch is set first (R55). -/
theorem Record.trigger_of_steady_eq (stage : r.stage = .steady) : r.trigger n =
    if r.usableNext then r.latched.enterLead n
    else (r.latched.enter .awaitKey).raiseKeyNeeded := by
  simp only [Record.trigger, stage, Record.latched]

omit h egress low in
theorem Record.trigger_of_drainOld (stage : r.stage = .drainOld) : r.trigger n = { r with pendingTrigger := true } := by
  simp only [Record.trigger, stage]

omit h egress low in
theorem Record.trigger_of_rolling (steady : r.stage ≠ .steady) (drain : r.stage ≠ .drainOld) : r.trigger n = r := by
  unfold Record.trigger
  cases stage : r.stage <;> simp_all

omit low in
/-- The latch set in STEADY, and the stage that it leads to entered (R55). -/
theorem Record.latched_runs (live : r.state = .live) (steady : r.stage = .steady) {st : Stage}
    (stage : (r.latched.enter st).stageOk) :
    (r.latched.enter st).Runs top := by
  refine ⟨h.current, h.other, stage, ?_, fun ingress => (nomatch egress.symm.trans ingress), h.numbers, h.next⟩
  rcases h.status with ⟨state, role, reason, pending, number⟩ | ⟨state, -⟩
  · exact .inl ⟨state, role, reason, fun e => (nomatch steady.symm.trans (pending e)), number⟩
  · cases live.symm.trans state

/-- A trigger at a LIVE record (R55, R56). -/
theorem Record.trigger_runs (live : r.state = .live) : (r.trigger n).Runs top := by
  by_cases steady : r.stage = .steady
  · have beside : r.otherPosition.role = .absent ∨ r.otherPosition.role = .next ∨ r.otherPosition.role = .damaged := by
      rcases (Record.stageOk_egress_iff egress).mp h.stage with ⟨-, -, beside⟩ | ⟨e, -⟩ | ⟨e | e, -⟩ | ⟨e, -⟩
      · exact beside
      all_goals cases steady.symm.trans e
    rw [Record.trigger_of_steady_eq n steady]
    split
    next usable =>
      have next := r.usableNext_iff.mp usable
      refine Record.enterLead_runs low n (Record.latched_runs h egress live steady ?_) egress
      exact (Record.stageOk_egress_iff (r := r.latched.enter .lead) egress).mpr (.inr (.inr (.inl ⟨.inl rfl, rfl, .inl next⟩)))
    next usable =>
      have next : r.otherPosition.role ≠ .next := fun e => usable (r.usableNext_iff.mpr e)
      have waits : (r.latched.enter .awaitKey).Runs top := by
        refine Record.latched_runs h egress live steady
          ((Record.stageOk_egress_iff (r := r.latched.enter .awaitKey) egress).mpr (.inr (.inl ⟨rfl, rfl, ?_⟩)))
        rcases beside with e | e | e
        · exact .inl e
        · exact absurd e next
        · exact .inr (.inl e)
      exact waits.fields rfl rfl rfl rfl rfl rfl rfl rfl
  by_cases drain : r.stage = .drainOld
  · rw [Record.trigger_of_drainOld n drain]
    have pending : ({ r with pendingTrigger := true } : Record).runsAs top := by
      rcases h.status with ⟨state, role, reason, -, number⟩ | halted
      · exact .inl ⟨state, role, reason, fun _ => drain, number⟩
      · exact .inr halted
    exact ⟨h.current, h.other, h.stage, pending, fun ingress => (nomatch egress.symm.trans ingress), h.numbers, h.next⟩
  · rw [Record.trigger_of_rolling n steady drain]
    exact h

end Egress

end Runs

end Sys2Proof.Machine
end

section
/-!
PROOFS. Every step keeps each record's slots, stage, latch, halt reason and key numbers together: what the commands and the ticks keep.
-/

namespace Sys2Proof.Machine

section Records

variable {r r' : Record}

/-! ### Records of any state -/

theorem Record.Ok.free (h : r.Ok) (free : r.state = .free) : r = Record.free := by
  have state := h.state
  unfold Record.stateOk at state
  rw [free] at state
  exact state

theorem Record.Ok.stored (h : r.Ok) : r.stored = r := by
  unfold Record.stored
  split
  next free => exact (h.free free).symm
  next => rfl

theorem Record.Ok.slot (h : r.Ok) (k : SlotNo) : (r.slot k).Ok r.config.kind := by
  cases k
  · exact h.slot0
  · exact h.slot1

/-- Two records that differ in no field that says how slots, stage and latch stand, but for what their slots hold beside role, key number
and next number. -/
structure Record.SameShape (r r' : Record) : Prop where
  kind : r'.config.kind = r.config.kind
  state : r'.state = r.state
  stage : r'.stage = r.stage
  latch : r'.triggerLatch = r.triggerLatch
  pending : r'.pendingTrigger = r.pendingTrigger
  reason : r'.haltReason = r.haltReason
  currentSlot : r'.currentSlot = r.currentSlot
  slots : ∀ k, (r'.slot k).role = (r.slot k).role ∧ (r'.slot k).keyNumber = (r.slot k).keyNumber ∧
    (r'.slot k).nextSequence = (r.slot k).nextSequence

theorem Record.Ok.sameShape (h : r.Ok) (present : r.state ≠ .free) (same : r.SameShape r')
    (slots : ∀ k, (r'.slot k).Ok r.config.kind) : r'.Ok := by
  have s0 : r'.slot0.role = r.slot0.role ∧ r'.slot0.keyNumber = r.slot0.keyNumber ∧ r'.slot0.nextSequence = r.slot0.nextSequence :=
    same.slots false
  have s1 : r'.slot1.role = r.slot1.role ∧ r'.slot1.keyNumber = r.slot1.keyNumber ∧ r'.slot1.nextSequence = r.slot1.nextSequence :=
    same.slots true
  have current : r'.currentPosition.role = r.currentPosition.role ∧ r'.currentPosition.keyNumber = r.currentPosition.keyNumber ∧
      r'.currentPosition.nextSequence = r.currentPosition.nextSequence := by
    unfold Record.currentPosition
    rw [same.currentSlot]
    exact same.slots _
  have other : r'.otherPosition.role = r.otherPosition.role ∧ r'.otherPosition.keyNumber = r.otherPosition.keyNumber ∧
      r'.otherPosition.nextSequence = r.otherPosition.nextSequence := by
    unfold Record.otherPosition
    rw [same.currentSlot]
    exact same.slots _
  have stageOk : r'.stageOk ↔ r.stageOk := by
    unfold Record.stageOk
    rw [other.1, same.kind, same.stage, same.latch, same.state]
  have state := h.state
  refine ⟨by rw [same.kind]; exact slots false, by rw [same.kind]; exact slots true, ?_, ?_, ?_, ?_⟩
  · unfold Record.stateOk at state ⊢
    rw [same.state, stageOk, current.1, current.2.2, same.kind, same.reason, same.pending, same.stage, s0.1, s0.2.2, s1.1,
      same.currentSlot, same.latch]
    cases hs : r.state with
    | free => exact absurd hs present
    | staged | live | halted | retiring =>
      rw [hs] at state
      exact state
  · rw [same.kind, same.latch, same.pending]
    exact h.triggers
  · rw [s0.1, s1.1, s0.2.1, s1.2.1]
    exact h.numbers
  · rw [other.1, other.2.1, current.2.1]
    exact h.next

/-- A change of fields beside the slots that the invariant does not read. -/
theorem Record.Ok.fields (h : r.Ok) (present : r.state ≠ .free) (kind : r'.config.kind = r.config.kind) (state : r'.state = r.state)
    (stage : r'.stage = r.stage) (latch : r'.triggerLatch = r.triggerLatch) (pending : r'.pendingTrigger = r.pendingTrigger)
    (reason : r'.haltReason = r.haltReason) (currentSlot : r'.currentSlot = r.currentSlot) (slot0 : r'.slot0 = r.slot0)
    (slot1 : r'.slot1 = r.slot1) : r'.Ok := by
  have slots : ∀ k, r'.slot k = r.slot k := fun k => by cases k; exacts [slot0, slot1]
  exact h.sameShape present ⟨kind, state, stage, latch, pending, reason, currentSlot, fun k => by rw [slots k]; exact ⟨rfl, rfl, rfl⟩⟩
    fun k => by rw [slots k]; exact h.slot k

/-- One slot changed with its role, key number and next number kept. -/
theorem Record.Ok.setSlot (h : r.Ok) (present : r.state ≠ .free) {k : SlotNo} {sl : Slot} (role : sl.role = (r.slot k).role)
    (keyNumber : sl.keyNumber = (r.slot k).keyNumber) (number : sl.nextSequence = (r.slot k).nextSequence)
    (ok : sl.Ok r.config.kind) : (r.setSlot k sl).Ok := by
  refine h.sameShape present ⟨by simp, by simp, by simp, by simp, by simp, by simp, by simp, fun j => ?_⟩ fun j => ?_
  · rw [Record.slot_setSlot]
    split
    next e => exact e ▸ ⟨role, keyNumber, number⟩
    next => exact ⟨rfl, rfl, rfl⟩
  · rw [Record.slot_setSlot]
    split
    · exact ok
    · exact h.slot j

theorem Record.Ok.freeWhenDrained (h : r.Ok) : r.freeWhenDrained.Ok := by
  unfold Record.freeWhenDrained
  split
  · exact Record.ok_free
  · exact h

/-! ### Install, Activate, Modify and Retire -/

theorem Command.ok_installed (c : Command) : c.installed.Ok where
  slot0 := Slot.ok_written _ (.inl rfl) _ _ _
  slot1 := Slot.ok_erased _
  state := ⟨rfl, rfl, rfl, rfl, rfl, rfl, rfl, rfl⟩
  triggers _ := ⟨rfl, rfl⟩
  numbers _ present := absurd rfl present
  next e := nomatch e

theorem Record.ok_activate (h : r.Ok) (staged : r.state = .staged) : r.activate.Ok := by
  have state := h.state
  unfold Record.stateOk at state
  rw [staged] at state
  obtain ⟨current, role, number, absent, stage, latch, pending, reason⟩ := state
  have currentPosition : r.activate.currentPosition = r.slot0 := by
    unfold Record.currentPosition Record.slot Record.activate
    dsimp only
    rw [current]
    rfl
  have otherPosition : r.activate.otherPosition = r.slot1 := by
    unfold Record.otherPosition Record.slot Record.activate
    dsimp only
    rw [current]
    rfl
  refine ⟨h.slot0, h.slot1, ?_, h.triggers, h.numbers, ?_⟩
  · refine ⟨by rw [currentPosition]; exact role, reason, ?_, fun e => (nomatch pending.symm.trans e), ?_⟩
    · cases kind : r.config.kind with
      | egress => exact (Record.stageOk_egress_iff (r := r.activate) kind).mpr (.inl ⟨rfl, latch, .inl (by rw [otherPosition]; exact absent)⟩)
      | ingress => exact (Record.stageOk_ingress_iff (r := r.activate) kind).mpr (.inl ⟨rfl, by rw [otherPosition]; exact absent⟩)
    · rw [currentPosition, number]
      decide
  · rw [otherPosition, absent]
    exact fun e => nomatch e

theorem Slot.Ok.trim {sl : Slot} {kind : Kind} (h : sl.Ok kind) (window : Nat) : (sl.trim window).Ok kind where
  absent e := by
    have erased := h.absent e
    subst erased
    rfl
  closing := h.closing
  egress e := by
    obtain ⟨old, highest, accepted, rest⟩ := h.egress e
    refine ⟨old, highest, ?_, rest⟩
    unfold Slot.trim
    dsimp only
    rw [accepted]
    rfl
  ingress := h.ingress

theorem Record.reconfigure_slot (r : Record) (c : Command) (k : SlotNo) : (r.reconfigure c).slot k = r.slot k ∨
    ∃ window, (r.reconfigure c).slot k = (r.slot k).trim window := by
  have slot : (r.reconfigure c).slot k = if decide ((c.modifyConfig r.config).window < r.config.window) then
      (r.slot k).trim (c.modifyConfig r.config).window else r.slot k := by cases k <;> rfl
  rw [slot]
  split
  · exact .inr ⟨_, rfl⟩
  · exact .inl rfl

theorem Record.ok_reconfigure (h : r.Ok) (present : r.state ≠ .free) (c : Command) : (r.reconfigure c).Ok := by
  have kind : (r.reconfigure c).config.kind = r.config.kind := Command.modifyConfig_kind _
  refine h.sameShape present ⟨kind, rfl, rfl, rfl, rfl, rfl, rfl, fun k => ?_⟩ fun k => ?_
  · rcases r.reconfigure_slot c k with same | ⟨window, trimmed⟩
    · rw [same]
      exact ⟨rfl, rfl, rfl⟩
    · rw [trimmed]
      exact ⟨rfl, rfl, rfl⟩
  · rcases r.reconfigure_slot c k with same | ⟨window, trimmed⟩
    · rw [same]
      exact h.slot k
    · rw [trimmed]
      exact (h.slot k).trim window

theorem Record.staleCheck_runs {top : Nat} (h : r.Runs top) : r.staleCheck.Runs top := by
  unfold Record.staleCheck
  split
  · exact h.fields rfl rfl rfl rfl rfl rfl rfl rfl
  · exact h

theorem Record.lifetimeCheck_runs {top : Nat} (h : r.Runs top) (low : 1 ≤ top) (live : r.state = .live) (n : Nat) :
    (r.lifetimeCheck n).Runs top := by
  unfold Record.lifetimeCheck
  split
  next egress =>
    split
    · exact Record.trigger_runs h egress low n live
    · exact h
  next => exact Record.staleCheck_runs h

theorem Record.lifetimeCheck_live (live : r.state = .live) (n : Nat) : (r.lifetimeCheck n).state = .live := by
  unfold Record.lifetimeCheck Record.staleCheck
  repeat' split
  · exact Record.trigger_live live
  all_goals exact live

theorem Config.one_le_lastNext : 1 ≤ Config.lastNext := by decide

theorem Record.ok_modifyFires (h : r.Ok) (c : Command) (n : Nat) : (r.modifyFires c n).Ok := by
  unfold Record.modifyFires
  split
  next live =>
    have runs := h.runs (.inl live)
    have aged : (if c.selects 25 then r.lifetimeCheck n else r).Runs Config.lastNext ∧
        (if c.selects 25 then r.lifetimeCheck n else r).state = .live := by
      split
      · exact ⟨Record.lifetimeCheck_runs runs Config.one_le_lastNext live n, Record.lifetimeCheck_live live n⟩
      · exact ⟨runs, live⟩
    dsimp only
    generalize (if c.selects 25 then r.lifetimeCheck n else r) = a at aged
    obtain ⟨aged, live⟩ := aged
    split
    next fires =>
      simp only [Bool.and_eq_true, beq_iff_eq] at fires
      obtain ⟨⟨-, egress⟩, -⟩ := fires
      exact (Record.trigger_runs aged egress Config.one_le_lastNext n live).ok
    next => exact aged.ok
  next => exact h

theorem Slot.retire_eq (sl : Slot) : sl.retire = sl ∧ sl.role = .absent ∨ sl.retire = sl.close := by
  unfold Slot.retire
  split
  next absent => exact .inl ⟨rfl, absent⟩
  next => exact .inr rfl

theorem Slot.Ok.retire {sl : Slot} {kind : Kind} (h : sl.Ok kind) : sl.retire.Ok kind ∧
    (sl.retire.role = .absent ∨ sl.retire.role = .closing) ∧ (sl.retire.role ≠ .absent → sl.role ≠ .absent ∧ sl.retire.keyNumber = sl.keyNumber) := by
  rcases sl.retire_eq with ⟨same, absent⟩ | closed
  · rw [same]
    exact ⟨h, .inl absent, fun e => absurd absent e⟩
  · rw [closed]
    refine ⟨h.close, ?_, fun e => ⟨fun absent => e ?_, Slot.close_keyNumber e⟩⟩
    · rcases sl.close_role with ⟨-, role⟩ | ⟨-, role⟩
      · exact .inl role
      · exact .inr role
    · rw [h.absent absent]
      rfl

theorem Record.ok_retire (h : r.Ok) : r.retire.Ok := by
  obtain ⟨ok0, role0, number0⟩ := h.slot0.retire
  obtain ⟨ok1, role1, number1⟩ := h.slot1.retire
  refine ⟨ok0, ok1, ⟨role0, role1, rfl, rfl, rfl, rfl⟩, fun _ => ⟨rfl, rfl⟩, fun present0 present1 => ?_, fun next => ?_⟩
  · obtain ⟨was0, same0⟩ := number0 present0
    obtain ⟨was1, same1⟩ := number1 present1
    show r.slot0.retire.keyNumber ≠ r.slot1.retire.keyNumber
    rw [same0, same1]
    exact h.numbers was0 was1
  · have other : r.retire.otherPosition.role = .absent ∨ r.retire.otherPosition.role = .closing := by
      unfold Record.otherPosition Record.slot
      split
      · exact role1
      · exact role0
    rcases other with e | e <;> cases next.symm.trans e

/-! ### Load Next Key, Roll Now and Force Switch -/

theorem Record.withNext_positions (r : Record) (key : BitVec 256) (salt : BitVec 48) :
    (r.withNext key salt).currentPosition = r.currentPosition ∧
      (r.withNext key salt).otherPosition = Slot.written .next (r.currentPosition.keyNumber + 1) key salt := by
  unfold Record.withNext Record.currentPosition Record.otherPosition
  rw [Record.setSlot_currentSlot, Record.slot_setSlot_of_not, Record.slot_setSlot_self]
  exact ⟨rfl, rfl⟩

theorem keyNumber_ne_succ (n : BitVec 2) : n ≠ n + 1 := by decide +revert

/-- A key written beside the CURRENT one: the record with a stage that allows it runs. -/
theorem Record.Runs.loaded {top : Nat} (h : r.Runs top) (key : BitVec 256) (salt : BitVec 48) (kind : r'.config.kind = r.config.kind)
    (state : r'.state = r.state) (reason : r'.haltReason = r.haltReason)
    (positions : r'.currentPosition = r.currentPosition ∧
      r'.otherPosition = Slot.written .next (r.currentPosition.keyNumber + 1) key salt) (stage : r'.stageOk)
    (pending : r'.pendingTrigger = true → r.state = .live → r'.stage = .drainOld)
    (triggers : r.config.kind = .ingress → r'.triggerLatch = false ∧ r'.pendingTrigger = false) : r'.Runs top := by
  obtain ⟨current, other⟩ := positions
  refine ⟨by rw [current, kind]; exact h.current, by rw [other]; exact Slot.ok_written _ (.inr rfl) _ _ _, stage, ?_,
    by rw [kind]; exact triggers, ?_, ?_⟩
  · unfold Record.runsAs
    rw [kind, state, reason, current]
    rcases h.status with ⟨live, role, reason, -, number⟩ | halted
    · exact .inl ⟨live, role, reason, fun e => pending e live, number⟩
    · exact .inr halted
  · rw [current, other]
    exact fun _ => keyNumber_ne_succ _
  · rw [current, other]
    exact fun _ => rfl

/-- A LIVE record outside DRAIN_OLD has no pending trigger. -/
theorem Record.Runs.not_pending {top : Nat} (h : r.Runs top) (live : r.state = .live) (stage : r.stage ≠ .drainOld) :
    r.pendingTrigger = false := by
  rcases h.status with ⟨-, -, -, pending, -⟩ | ⟨state, -⟩
  · exact eq_false_of_ne_true fun e => stage (pending e)
  · cases live.symm.trans state

/-- The record with KEY_NEEDED removed, as an accepted Load Next Key leaves it first (R58). -/
def Record.keyGiven (r : Record) : Record := { r with causes := { r.causes with keyNeeded := false } }

/-- What a loaded key brings about at an EGRESS record (R59). -/
theorem Record.loadedEgress_cases (r : Record) (n : Nat) :
    (r.state = .live ∧ r.stage = .awaitKey ∧ r.loadedEgress n = r.keyGiven.enterLead n) ∨
    ((r.stage = .awaitKey → r.state ≠ .live) ∧ (r.loadedEgress n = r.keyGiven.egressSwitch n ∨ r.loadedEgress n = r.keyGiven)) := by
  have made : r.loadedEgress n = if r.keyGiven.state = .live then
      (match r.keyGiven.stage with
        | .awaitKey => r.keyGiven.enterLead n
        | .awaitEvidence => if r.keyGiven.evidence then r.keyGiven.egressSwitch n else r.keyGiven
        | _ => r.keyGiven)
      else r.keyGiven := rfl
  rw [made]
  split
  next live =>
    split
    next stage => exact .inl ⟨live, stage, rfl⟩
    next stage =>
      refine .inr ⟨fun e => (nomatch stage.symm.trans e), ?_⟩
      split
      · exact .inl rfl
      · exact .inr rfl
    next waits _ => exact .inr ⟨fun e => absurd e waits, .inr rfl⟩
  next live => exact .inr ⟨fun _ => live, .inr rfl⟩

theorem Record.Runs.keyGiven {top : Nat} (h : r.Runs top) : r.keyGiven.Runs top := h.fields rfl rfl rfl rfl rfl rfl rfl rfl

section Load

variable (h : r.Runs Config.lastNext) (notBusy : r.slotBusy = false) (key : BitVec 256) (salt : BitVec 48) (n : Nat)

include h

theorem Record.loadNext_ingress (ingress : r.config.kind = .ingress) : (r.loadNext key salt n).Ok := by
  have made : r.loadNext key salt n = (r.withNext key salt).enter .armed := by
    unfold Record.loadNext
    rw [ingress]
  have kind : (r.withNext key salt).config.kind = r.config.kind := by
    unfold Record.withNext
    rw [Record.setSlot_config]
  obtain ⟨noLatch, noPending⟩ := h.triggers ingress
  have latch : (r.withNext key salt).triggerLatch = false := by
    unfold Record.withNext
    rw [Record.setSlot_triggerLatch, noLatch]
  have pending : (r.withNext key salt).pendingTrigger = false := by
    unfold Record.withNext
    rw [Record.setSlot_pendingTrigger, noPending]
  rw [made]
  refine (h.loaded (r' := (r.withNext key salt).enter .armed) key salt kind ?_ ?_ (r.withNext_positions key salt) ?_
    (fun e => (nomatch pending.symm.trans e)) fun _ => ⟨latch, pending⟩).ok
  · exact Record.setSlot_state ..
  · exact Record.setSlot_haltReason ..
  · refine (Record.stageOk_ingress_iff (r := (r.withNext key salt).enter .armed) (kind.trans ingress)).mpr (.inr (.inl ⟨rfl, .inl ?_⟩))
    show (r.withNext key salt).otherPosition.role = .next
    rw [(r.withNext_positions key salt).2]
    rfl

/-- The NEXT key written beside the CURRENT one of an EGRESS record, where its stage allows it. -/
theorem Record.withNext_runs (egress : r.config.kind = .egress) (busy : r.stage ≠ .drainOld)
    (allows : r.stage = .awaitKey → r.state = .halted) : (r.withNext key salt).Runs Config.lastNext := by
  have positions := r.withNext_positions key salt
  have stage : (r.withNext key salt).stage = r.stage := Record.setSlot_stage ..
  have latch : (r.withNext key salt).triggerLatch = r.triggerLatch := Record.setSlot_triggerLatch ..
  have state : (r.withNext key salt).state = r.state := Record.setSlot_state ..
  have pending : (r.withNext key salt).pendingTrigger = r.pendingTrigger := Record.setSlot_pendingTrigger ..
  have kind : (r.withNext key salt).config.kind = r.config.kind := by
    unfold Record.withNext
    rw [Record.setSlot_config]
  refine h.loaded key salt kind state (Record.setSlot_haltReason ..) positions ?_ ?_
    fun ingress => (nomatch egress.symm.trans ingress)
  · rw [Record.stageOk_egress_iff (kind.trans egress), positions.2, stage, latch, state]
    rcases (Record.stageOk_egress_iff egress).mp h.stage with ⟨e, latch, -⟩ | ⟨e, latch, -⟩ | ⟨e, latch, -⟩ | ⟨e, -⟩
    · exact .inl ⟨e, latch, .inr (.inl rfl)⟩
    · exact .inr (.inl ⟨e, latch, .inr (.inr ⟨allows e, rfl⟩)⟩)
    · exact .inr (.inr (.inl ⟨e, latch, .inl rfl⟩))
    · exact absurd e busy
  · intro e live
    rw [pending, h.not_pending live busy] at e
    cases e

/-- A LIVE record in AWAIT_KEY that is given its key enters LEAD (R59). -/
theorem Record.withNext_lead_runs (egress : r.config.kind = .egress) (live : r.state = .live) (stage : r.stage = .awaitKey) :
    ((r.withNext key salt).enter .lead).Runs Config.lastNext := by
  have positions := r.withNext_positions key salt
  have kind : (r.withNext key salt).config.kind = r.config.kind := by
    unfold Record.withNext
    rw [Record.setSlot_config]
  have latch : (r.withNext key salt).triggerLatch = true := by
    rcases (Record.stageOk_egress_iff egress).mp h.stage with ⟨e, -⟩ | ⟨-, latch, -⟩ | ⟨e | e, -⟩ | ⟨e, -⟩
    · cases stage.symm.trans e
    · exact (Record.setSlot_triggerLatch ..).trans latch
    all_goals cases stage.symm.trans e
  refine h.loaded key salt kind (Record.setSlot_state ..) (Record.setSlot_haltReason ..) positions ?_ ?_
    fun ingress => (nomatch egress.symm.trans ingress)
  · refine (Record.stageOk_egress_iff (r := (r.withNext key salt).enter .lead) (kind.trans egress)).mpr
      (.inr (.inr (.inl ⟨.inl rfl, latch, .inl ?_⟩)))
    show (r.withNext key salt).otherPosition.role = .next
    rw [positions.2]
    rfl
  · intro e _
    have pending : r.pendingTrigger = true := (Record.setSlot_pendingTrigger ..).symm.trans e
    rw [h.not_pending live (by rw [stage]; decide)] at pending
    cases pending

include notBusy in
theorem Record.loadNext_egress (egress : r.config.kind = .egress) : (r.loadNext key salt n).Ok := by
  have made : r.loadNext key salt n = (r.withNext key salt).loadedEgress n := by
    unfold Record.loadNext
    rw [egress]
  have kind : (r.withNext key salt).config.kind = .egress := by
    unfold Record.withNext
    rw [Record.setSlot_config, egress]
  have stage : (r.withNext key salt).stage = r.stage := Record.setSlot_stage ..
  have state : (r.withNext key salt).state = r.state := Record.setSlot_state ..
  have notClosing : r.otherPosition.role ≠ .closing := fun e =>
    Bool.eq_false_iff.mp notBusy ((Record.slotBusy_egress egress).mpr (.inl e))
  have notDrain : r.stage ≠ .drainOld := fun drain => by
    rcases (Record.stageOk_egress_iff egress).mp h.stage with ⟨e, -⟩ | ⟨e, -⟩ | ⟨e | e, -⟩ | ⟨-, -, role⟩
    iterate 4 cases drain.symm.trans e
    exact notClosing role
  rw [made]
  rcases (r.withNext key salt).loadedEgress_cases n with ⟨live, awaits, entered⟩ | ⟨allows, other⟩
  · have lead := Record.withNext_lead_runs h key salt egress (state ▸ live) (stage ▸ awaits)
    have given : ((r.withNext key salt).keyGiven.enter .lead).Runs Config.lastNext := lead.fields rfl rfl rfl rfl rfl rfl rfl rfl
    rw [entered]
    exact (Record.enterLead_runs Config.one_le_lastNext n given kind).ok
  · rw [stage, state] at allows
    have halted (e : r.stage = .awaitKey) : r.state = .halted := by
      rcases h.status with ⟨live, -⟩ | ⟨halted, -⟩
      · exact absurd live (allows e)
      · exact halted
    have given := (Record.withNext_runs h key salt egress notDrain halted).keyGiven
    rcases other with switched | same
    · rw [switched]
      exact (Record.egressSwitch_runs given kind Config.one_le_lastNext n).ok
    · rw [same]
      exact given.ok

include notBusy in
theorem Record.ok_loadNext : (r.loadNext key salt n).Ok := by
  cases kind : r.config.kind with
  | egress => exact Record.loadNext_egress h notBusy key salt n kind
  | ingress => exact Record.loadNext_ingress h key salt n kind

end Load

/-! ### The rollover of an INGRESS record -/

theorem Record.ingressSwitch_positions (r : Record) (capture n : Nat) :
    (r.ingressSwitch capture n).currentPosition = { r.otherPosition with role := .current } ∧
      (r.ingressSwitch capture n).otherPosition = if (r.currentPosition.role != .damaged && r.config.overlap != 0) = true then
        { r.currentPosition with role := .old } else r.currentPosition.close := by
  unfold Record.ingressSwitch Record.currentPosition Record.otherPosition Record.slot Record.setSlot
  cases r.currentSlot <;> exact ⟨rfl, rfl⟩

/-- The ingress switch to a slot given beside the CURRENT one: it begins as the new CURRENT slot (R70). -/
theorem Record.ingressSwitch_ok (h : r.Runs Config.lastNext) (ingress : r.config.kind = .ingress) {sl : Slot}
    (ok : Slot.Ok { sl with role := .current } .ingress) (differs : r.currentPosition.keyNumber ≠ sl.keyNumber) (capture n : Nat) :
    ((r.setSlot (!r.currentSlot) sl).ingressSwitch capture n).Ok := by
  have hc : (r.setSlot (!r.currentSlot) sl).currentPosition = r.currentPosition := by
    unfold Record.currentPosition
    rw [Record.setSlot_currentSlot, Record.slot_setSlot_of_not]
  obtain ⟨current, other⟩ := (r.setSlot (!r.currentSlot) sl).ingressSwitch_positions capture n
  rw [Record.setOther_otherPosition] at current
  rw [hc, Record.setSlot_config] at other
  have kind : ((r.setSlot (!r.currentSlot) sl).ingressSwitch capture n).config.kind = .ingress := by
    show ((r.setSlot (!r.currentSlot) sl).setSlot _ _ |>.setSlot _ _).config.kind = .ingress
    rw [Record.setSlot_config, Record.setSlot_config, Record.setSlot_config, ingress]
  obtain ⟨noLatch, noPending⟩ := h.triggers ingress
  have latch : ((r.setSlot (!r.currentSlot) sl).ingressSwitch capture n).triggerLatch = false := by
    show ((r.setSlot (!r.currentSlot) sl).setSlot _ _ |>.setSlot _ _).triggerLatch = false
    rw [Record.setSlot_triggerLatch, Record.setSlot_triggerLatch, Record.setSlot_triggerLatch, noLatch]
  have pending : ((r.setSlot (!r.currentSlot) sl).ingressSwitch capture n).pendingTrigger = false := by
    show ((r.setSlot (!r.currentSlot) sl).setSlot _ _ |>.setSlot _ _).pendingTrigger = false
    rw [Record.setSlot_pendingTrigger, Record.setSlot_pendingTrigger, Record.setSlot_pendingTrigger, noPending]
  have state : ((r.setSlot (!r.currentSlot) sl).ingressSwitch capture n).state = .live := by
    unfold Record.ingressSwitch
    dsimp only
    rw [Record.setSlot_state]
    rcases h.status with ⟨e, -⟩ | ⟨e, -⟩ <;> simp [e]
  have reason : ((r.setSlot (!r.currentSlot) sl).ingressSwitch capture n).haltReason = .none := by
    unfold Record.ingressSwitch
    dsimp only
    rw [Record.setSlot_state, Record.setSlot_haltReason]
    rcases h.status with ⟨e, -, reason, -⟩ | ⟨e, -⟩
    · simp [e, reason]
    · simp [e]
  have stage : ((r.setSlot (!r.currentSlot) sl).ingressSwitch capture n).stage =
      if (r.currentPosition.role != .damaged && r.config.overlap != 0) = true then .overlap
      else if r.currentPosition.inFlight = 0 then .steady else .drainOld := by
    unfold Record.ingressSwitch
    dsimp only
    rw [hc, Record.setSlot_config]
  have curOk : r.currentPosition.Ok .ingress := by
    rw [← ingress]
    exact h.current
  refine Record.Runs.ok ⟨?_, ?_, ?_, .inl ⟨state, ?_, reason, ?_, ?_⟩, fun _ => ⟨latch, pending⟩, ?_, ?_⟩
  · rw [current, kind]
    exact ok
  · rw [other, kind]
    split
    · exact curOk.withRole (by decide) (fun e => nomatch e) (by decide) (fun e => nomatch e)
    · exact curOk.close
  · rw [Record.stageOk_ingress_iff kind, stage, other]
    split
    · exact .inr (.inr (.inl ⟨rfl, rfl⟩))
    · rcases r.currentPosition.close_role with ⟨idle, role⟩ | ⟨held, role⟩
      · exact .inl ⟨if_pos idle, role⟩
      · exact .inr (.inr (.inr ⟨if_neg held, role⟩))
  · rw [current]
  · intro e
    cases pending.symm.trans e
  · rw [current]
    have number : sl.nextSequence = 1 := (ok.ingress rfl).1
    show sl.nextSequence ≤ Config.lastNext
    rw [number]
    exact Config.one_le_lastNext
  · rw [current, other]
    split
    · exact fun _ => differs.symm
    · intro kept
      rw [Slot.close_keyNumber kept]
      exact differs.symm
  · rw [other]
    split
    · exact fun e => nomatch e
    · exact fun e => absurd e (Slot.close_not_next _)

theorem Record.ok_forced (h : r.Ok) (ingress : r.config.kind = .ingress) (switchable : r.ingressSwitchable = true) (n : Nat) :
    (r.ingressSwitch 0 n).Ok := by
  unfold Record.ingressSwitchable at switchable
  simp only [Bool.and_eq_true, Bool.or_eq_true, beq_iff_eq] at switchable
  obtain ⟨usable, running⟩ := switchable
  have next := r.usableNext_iff.mp usable
  have runs := h.runs (running.imp And.left id)
  have other : r.otherPosition.Ok .ingress := by
    rw [← ingress]
    exact runs.other
  have switched := Record.ingressSwitch_ok runs ingress other.current (runs.numbers (by rw [next]; decide)) 0 n
  unfold Record.otherPosition at switched
  rw [Record.setSlot_slot] at switched
  exact switched

/-- The end of an OLD slot's overlap (R72). -/
theorem Record.endOverlap_runs {top : Nat} (h : r.Runs top) (ingress : r.config.kind = .ingress) (present : r.otherPosition.role ≠ .absent) :
    (r.endOverlap (!r.currentSlot)).Runs top := by
  have positions : (r.endOverlap (!r.currentSlot)).currentPosition = r.currentPosition ∧
      (r.endOverlap (!r.currentSlot)).otherPosition = r.otherPosition.close := by
    unfold Record.endOverlap Record.enter Record.currentPosition Record.otherPosition Record.slot Record.setSlot
    cases r.currentSlot <;> exact ⟨rfl, rfl⟩
  obtain ⟨current, other⟩ := positions
  have config : (r.endOverlap (!r.currentSlot)).config = r.config := Record.setSlot_config ..
  obtain ⟨noLatch, noPending⟩ := h.triggers ingress
  have latch : (r.endOverlap (!r.currentSlot)).triggerLatch = false := (Record.setSlot_triggerLatch ..).trans noLatch
  have pending : (r.endOverlap (!r.currentSlot)).pendingTrigger = false := (Record.setSlot_pendingTrigger ..).trans noPending
  have state : (r.endOverlap (!r.currentSlot)).state = r.state := Record.setSlot_state ..
  have reason : (r.endOverlap (!r.currentSlot)).haltReason = r.haltReason := Record.setSlot_haltReason ..
  refine ⟨by rw [current, config]; exact h.current, by rw [other, config]; exact h.other.close, ?_, ?_, fun _ => ⟨latch, pending⟩, ?_, ?_⟩
  · rw [Record.stageOk_ingress_iff (by rw [config, ingress]), other]
    rcases r.otherPosition.close_role with ⟨idle, role⟩ | ⟨held, role⟩
    · exact .inl ⟨if_pos idle, role⟩
    · exact .inr (.inr (.inr ⟨if_neg held, role⟩))
  · unfold Record.runsAs
    rw [current, config, state, reason]
    rcases h.status with ⟨live, role, reason, -, number⟩ | halted
    · exact .inl ⟨live, role, reason, fun e => (nomatch pending.symm.trans e), number⟩
    · exact .inr halted
  · rw [current, other]
    intro kept
    rw [Slot.close_keyNumber kept]
    exact h.numbers present
  · rw [other]
    exact fun e => absurd e (Slot.close_not_next _)

/-! ### Ticks -/

/-- A LIVE EGRESS record halts with its CURRENT key kept (R7). -/
theorem Record.halt_runs {top top' : Nat} (h : r.Runs top) (live : r.state = .live) (egress : r.config.kind = .egress) {why : HaltReason}
    (hw : why = .graceExpired ∨ why = .seqExhausted) : (r.halt why).Runs top' := by
  refine ⟨h.current, h.other, ?_, ?_, h.triggers, h.numbers, h.next⟩
  · refine (Record.stageOk_egress_iff (r := r.halt why) egress).mpr ?_
    rcases (Record.stageOk_egress_iff egress).mp h.stage with steady | ⟨e, latch, role⟩ | lead | drain
    · exact .inl steady
    · refine .inr (.inl ⟨e, latch, ?_⟩)
      rcases role with e | e | ⟨e, -⟩
      · exact .inl e
      · exact .inr (.inl e)
      · cases live.symm.trans e
    · exact .inr (.inr (.inl lead))
    · exact .inr (.inr (.inr drain))
  · rcases h.status with ⟨-, role, -⟩ | ⟨e, -⟩
    · exact .inr ⟨rfl, .inr ⟨egress, hw, role⟩⟩
    · cases live.symm.trans e

theorem Record.egressSwitch_live (live : r.state = .live) (n : Nat) : (r.egressSwitch n).state = .live := by
  unfold Record.egressSwitch
  split
  · split
    · simp [Record.switchTo, live]
    · exact (Record.setSlot_state ..).trans live
  · exact live

theorem Record.leadStep_live (live : r.state = .live) (n : Nat) : (r.leadStep n).state = .live := by
  unfold Record.leadStep Record.leadExpiry
  repeat' split
  · exact Record.egressSwitch_live live n
  all_goals exact live

theorem Record.leadStep_runs {top : Nat} (h : r.Runs top) (low : 1 ≤ top) (n : Nat) : (r.leadStep n).Runs top := by
  unfold Record.leadStep
  split
  next met =>
    unfold Record.leadMet at met
    simp only [Bool.and_eq_true, beq_iff_eq] at met
    obtain ⟨⟨egress, lead⟩, -⟩ := met
    exact Record.leadExpiry_runs h egress low n lead
  next => exact h

theorem Record.ok_tick (h : r.Ok) (n : Nat) : (r.tick n).Ok := by
  unfold Record.tick
  split
  next live =>
    have advanced : r.advance.Runs Config.lastNext := (h.runs (.inl live)).fields rfl rfl rfl rfl rfl rfl rfl rfl
    have third := Record.lifetimeCheck_runs advanced Config.one_le_lastNext live n
    have third_live : (r.advance.lifetimeCheck n).state = .live := Record.lifetimeCheck_live (r := r.advance) live n
    have led := Record.leadStep_runs third Config.one_le_lastNext n
    have led_live := Record.leadStep_live third_live n
    have graced : ((r.tickThirdStep n).leadStep n).graceStep.Runs Config.lastNext := by
      unfold Record.graceStep
      split
      next met =>
        unfold Record.graceMet at met
        simp only [Bool.and_eq_true, beq_iff_eq] at met
        obtain ⟨⟨⟨egress, -⟩, -⟩, -⟩ := met
        exact Record.halt_runs led led_live egress (.inl rfl)
      next => exact led
    unfold Record.overlapStep
    split
    next met =>
      unfold Record.overlapMet at met
      simp only [Bool.and_eq_true, beq_iff_eq] at met
      obtain ⟨⟨ingress, overlap⟩, -⟩ := met
      refine (Record.endOverlap_runs graced ingress fun absent => ?_).ok
      rcases (Record.stageOk_ingress_iff ingress).mp graced.stage with ⟨e, -⟩ | ⟨e, -⟩ | ⟨-, old⟩ | ⟨e, -⟩
      · cases overlap.symm.trans e
      · cases overlap.symm.trans e
      · cases absent.symm.trans old
      · cases overlap.symm.trans e
    next => exact graced.ok
  next => exact h

theorem Record.takesEvidence_egress {sender : Nat} (takes : r.takesEvidence sender = true) :
    r.config.kind = .egress ∧ r.inUse ∧ r.config.companion = some sender := by
  unfold Record.takesEvidence at takes
  simpa [Record.inUse, and_assoc, or_assoc] using takes

theorem Record.ok_evidence (h : r.Ok) (sender n : Nat) : (r.evidenceArrives sender n).Ok := by
  unfold Record.evidenceArrives
  split
  next takes =>
    obtain ⟨egress, inUse, -⟩ := Record.takesEvidence_egress takes
    have flagged : ({ r with evidence := true } : Record).Ok := h.fields (Record.inUse_ne_free inUse) rfl rfl rfl rfl rfl rfl rfl rfl rfl
    dsimp only
    split
    next waits =>
      obtain ⟨live, -⟩ := waits
      exact (Record.egressSwitch_runs (flagged.runs (.inl live)) egress Config.one_le_lastNext n).ok
    next => exact flagged
  next => exact h

/-- What a command or a tick makes of a record that stands as it should. -/
theorem QuietMove.ok {n : Nat} (moved : QuietMove n r r') (h : r.Ok) : r'.stored.Ok := by
  have kept {q : Record} (state : q.state = r.state) (ok : r.state ≠ .free → q.Ok) : q.stored.Ok := by
    unfold Record.stored
    split
    · exact Record.ok_free
    next present => exact ok (state ▸ present)
  have exactly {q : Record} (ok : q.Ok) : q.stored.Ok := by
    rw [ok.stored]
    exact ok
  cases moved with
  | installed c => exact exactly c.ok_installed
  | activated staged => exact exactly (Record.ok_activate h staged)
  | counted | cleared | attended => exact kept rfl fun present => h.fields present rfl rfl rfl rfl rfl rfl rfl rfl rfl
  | modified c inUse => exact exactly (Record.ok_modifyFires (Record.ok_reconfigure h (Record.inUse_ne_free inUse) c) c n)
  | retired => exact exactly (Record.ok_retire h).freeWhenDrained
  | loaded key salt running notBusy => exact exactly (Record.ok_loadNext (h.runs running) notBusy key salt n)
  | rolled live egress => exact exactly (Record.trigger_runs (h.runs (.inl live)) egress Config.one_le_lastNext n live).ok
  | switched running egress => exact exactly (Record.egressSwitch_runs (h.runs running) egress Config.one_le_lastNext n).ok
  | forced ingress switchable => exact exactly (Record.ok_forced h ingress switchable n)
  | ticked => exact exactly (Record.ok_tick h n)
  | evident sender => exact exactly (Record.ok_evidence h sender n)

end Records

end Sys2Proof.Machine
end

section
/-!
PROOFS. Next numbers and counts of frames: what a command or a tick makes of a record's slots and of the frames that it counts (sections
1.2, 1.9 and 2.2).
-/

namespace Sys2Proof.Machine

/-! ### How a slot may move -/

/-- A slot's key keeps its next number, or gives one number under the CURRENT key; or the slot is erased; or a key is written into a slot
that holds no usable key, where it begins. -/
def Slot.moves (a b : Slot) : Prop :=
  (b.key = a.key ∧ b.salt = a.salt ∧
    (b.nextSequence = a.nextSequence ∨ (a.role = .current ∧ b.nextSequence = a.nextSequence + 1))) ∨
  b = Slot.erased ∨
  ((a.role = .absent ∨ a.role = .damaged ∨ a.role = .old) ∧ b.nextSequence = 1 ∧ b.inFlight = 0 ∧
    b.checkCode = Config.checkCode b.key b.salt)

theorem Slot.moves_same {a b : Slot} (key : b.key = a.key) (salt : b.salt = a.salt) (number : b.nextSequence = a.nextSequence) :
    a.moves b := .inl ⟨key, salt, .inl number⟩

theorem Slot.Carries.moves {a b : Slot} {kind : Kind} (h : a.Carries b) (ok : a.Ok kind) : a.moves b := by
  cases h with
  | same e => exact e ▸ Slot.moves_same rfl rfl rfl
  | changed key salt _ _ _ number =>
    rcases number with same | ⟨next, first⟩
    · exact Slot.moves_same key salt same
    · exact Slot.moves_same key salt (first.trans (ok.next_number next).symm)
  | erased _ e => exact .inr (.inl e)

/-- A slot that holds no usable key is given one, whatever follows within the command. -/
theorem Slot.moves_written {a b : Slot} {role : Role} {n : BitVec 2} {key : BitVec 256} {salt : BitVec 48}
    (unusable : a.role = .absent ∨ a.role = .damaged ∨ a.role = .old) (h : (Slot.written role n key salt).Carries b) : a.moves b := by
  have number : (Slot.written role n key salt).nextSequence = 1 := rfl
  have idle : (Slot.written role n key salt).inFlight = 0 := rfl
  cases h with
  | same e => exact .inr (.inr ⟨unusable, e ▸ rfl, e ▸ rfl, e ▸ rfl⟩)
  | changed sameKey sameSalt code inFlight _ first =>
    refine .inr (.inr ⟨unusable, ?_, inFlight.trans idle, ?_⟩)
    · rcases first with same | ⟨-, one⟩
      · exact same.trans number
      · exact one
    · rw [sameKey, sameSalt, code]
      rfl
  | erased _ e => exact .inr (.inl e)

/-! ### What a record counts -/

/-- Two records count the same frames, and are of the same kind unless neither counts any. -/
structure Record.SameCounts (r r' : Record) : Prop where
  queued : r'.queuedFrames = r.queuedFrames
  inFlight : ∀ k, (r'.slot k).inFlight = (r.slot k).inFlight
  kind : r'.config.kind = r.config.kind ∨ (r.queuedFrames = 0 ∧ ∀ k, (r.slot k).inFlight = 0)

/-- What a command or a tick leaves of a record's slots and counts. -/
structure Record.QuietSlots (r r' : Record) : Prop where
  counts : r.SameCounts r'
  slots : ∀ k, (r.slot k).moves (r'.slot k)

section Records

variable {r r' : Record}

theorem Record.SameCounts.refl (r : Record) : r.SameCounts r := ⟨rfl, fun _ => rfl, .inl rfl⟩

theorem Record.QuietSlots.refl (r : Record) : r.QuietSlots r := ⟨.refl r, fun _ => Slot.moves_same rfl rfl rfl⟩

/-- A record that is FREE where it was, as the table holds it. -/
theorem Record.QuietSlots.stored (h : r.Ok) (state : r'.state = .free ↔ r.state = .free) (present : r.state ≠ .free → r.QuietSlots r') :
    r.QuietSlots r'.stored := by
  unfold Record.stored
  split
  next free => exact h.free (state.mp free) ▸ .refl _
  next kept => exact present fun free => kept (state.mpr free)

/-- What the rollover operations leave. -/
theorem Record.QuietSlots.of_follows (h : r.Ok) (follows : r.Follows Slot.Carries r') : r.QuietSlots r' :=
  ⟨⟨follows.queuedFrames, fun k => (follows.slots k).inFlight_eq, .inl (by rw [follows.config])⟩,
    fun k => (follows.slots k).moves (h.slot k)⟩

theorem Record.Follows.free_iff {R : Slot → Slot → Prop} (follows : r.Follows R r') : r'.state = .free ↔ r.state = .free := by
  rcases follows.state with same | ⟨before, after⟩
  · rw [same]
  · exact iff_of_false (Record.inUse_ne_free after) (Record.inUse_ne_free before)

theorem Record.QuietSlots.stored_of_follows (h : r.Ok) (follows : r.Follows Slot.Carries r') : r.QuietSlots r'.stored :=
  .stored h follows.free_iff fun _ => .of_follows h follows

/-- Before a follow-up that only carries slots on, a change that keeps what each slot has given. -/
theorem Record.QuietSlots.then_follows {q : Record} (counts : r.SameCounts q) (kind : q.config.kind = r.config.kind)
    (slots : ∀ k b, (q.slot k).Carries b → (r.slot k).moves b) (follows : q.Follows Slot.Carries r') : r.QuietSlots r' where
  counts := {
    queued := follows.queuedFrames.trans counts.queued
    inFlight := fun k => (follows.slots k).inFlight_eq.trans (counts.inFlight k)
    kind := .inl (by rw [follows.config, kind]) }
  slots k := slots k _ (follows.slots k)

theorem Record.quietSlots_installed (h : r.Ok) (free : r.state = .free) (c : Command) : r.QuietSlots c.installed := by
  rw [h.free free]
  refine ⟨⟨rfl, fun k => ?_, .inr ⟨rfl, fun k => ?_⟩⟩, fun k => ?_⟩
  · cases k <;> rfl
  · cases k <;> rfl
  · cases k
    · exact Slot.moves_written (.inl rfl) (slotRule_carries.refl _)
    · exact Slot.moves_same rfl rfl rfl

theorem Record.follows_modifyFires (r : Record) (c : Command) (n : Nat) : r.Follows Slot.Carries (r.modifyFires c n) := by
  have rule := slotRule_carries
  unfold Record.modifyFires
  split
  · have aged : r.Follows Slot.Carries (if c.selects 25 then r.lifetimeCheck n else r) := by
      split
      · exact Record.follows_lifetimeCheck rule n r
      · exact Record.follows_refl rule r
    dsimp only
    generalize (if c.selects 25 then r.lifetimeCheck n else r) = a at aged
    split
    · exact aged.trans rule (Record.follows_trigger rule n _)
    · exact aged
  · exact Record.follows_refl rule r

theorem Record.quietSlots_modified (h : r.Ok) (c : Command) (n : Nat) : r.QuietSlots ((r.reconfigure c).modifyFires c n) := by
  have kind : (r.reconfigure c).config.kind = r.config.kind := Command.modifyConfig_kind _
  refine .then_follows (q := r.reconfigure c) ⟨rfl, fun k => ?_, .inl kind⟩ kind (fun k b carries => ?_) (Record.follows_modifyFires _ c n)
  · rcases r.reconfigure_slot c k with same | ⟨window, trimmed⟩
    · rw [same]
    · rw [trimmed]
      rfl
  · rcases r.reconfigure_slot c k with same | ⟨window, trimmed⟩
    · rw [same] at carries
      exact carries.moves (h.slot k)
    · rw [trimmed] at carries
      exact carries.moves ((h.slot k).trim window)

theorem Record.retire_slot (r : Record) (k : SlotNo) : r.retire.slot k = (r.slot k).retire := by cases k <;> rfl

theorem Slot.carries_retire (sl : Slot) : sl.Carries sl.retire := by
  rcases sl.retire_eq with ⟨same, -⟩ | closed
  · rw [same]
    exact slotRule_carries.refl sl
  · rw [closed]
    exact slotRule_carries.close sl

/-- The return to FREE of a record that counts nothing (R16). -/
theorem Record.QuietSlots.freeWhenDrained (h : r.QuietSlots r') : r.QuietSlots r'.freeWhenDrained := by
  unfold Record.freeWhenDrained
  split
  next drained =>
    obtain ⟨-, queued, idle0, idle1⟩ := drained
    have idle : ∀ k, (r'.slot k).inFlight = 0 := fun k => by cases k; exacts [idle0, idle1]
    have idle_before : ∀ k, (r.slot k).inFlight = 0 := fun k => (h.counts.inFlight k).symm.trans (idle k)
    refine ⟨⟨?_, fun k => ?_, .inr ⟨h.counts.queued.symm.trans queued, idle_before⟩⟩, fun k => .inr (.inl ?_)⟩
    · exact queued.symm.trans h.counts.queued
    · rw [idle_before k]
      cases k <;> rfl
    · cases k <;> rfl
  next => exact h

theorem Record.quietSlots_retired (h : r.Ok) : r.QuietSlots r.retire.freeWhenDrained := by
  refine Record.QuietSlots.freeWhenDrained ⟨⟨rfl, fun k => ?_, .inl rfl⟩, fun k => ?_⟩
  · rw [r.retire_slot]
    exact (r.slot k).carries_retire.inFlight_eq
  · rw [r.retire_slot]
    exact (r.slot k).carries_retire.moves (h.slot k)

/-! ### A key loaded -/

/-- Where a key may be loaded, the slot beside the CURRENT one holds no usable key and no frame (R58, R69). -/
theorem Record.slot_of_notBusy (h : r.Runs Config.lastNext) (notBusy : r.slotBusy = false) :
    (r.otherPosition.role = .absent ∨ r.otherPosition.role = .damaged ∨ r.otherPosition.role = .old) ∧
      r.otherPosition.inFlight = 0 := by
  have absent (e : r.otherPosition.role = .absent) : r.otherPosition.inFlight = 0 := by
    rw [h.other.absent e]
    rfl
  cases kind : r.config.kind with
  | egress =>
    have free : ¬ r.slotBusy = true := by rw [notBusy]; decide
    rw [Record.slotBusy_egress kind, not_or, not_or] at free
    obtain ⟨closing, next, damaged⟩ := free
    have beside : r.otherPosition.role = .absent ∨ r.otherPosition.role = .damaged := by
      rcases (Record.stageOk_egress_iff kind).mp h.stage with ⟨-, -, e | e | e⟩ | ⟨-, -, e | e | ⟨-, e⟩⟩ | ⟨-, -, e | e⟩ | ⟨-, -, e⟩
      · exact .inl e
      · exact absurd e next
      · exact .inr e
      · exact .inl e
      · exact .inr e
      · exact absurd e next
      · exact absurd e next
      · exact .inr e
      · exact absurd e closing
    rcases beside with e | e
    · exact ⟨.inl e, absent e⟩
    · exact ⟨.inr (.inl e), not_not.mp fun held => damaged ⟨e, held⟩⟩
  | ingress =>
    have free : ¬ r.slotBusy = true := by rw [notBusy]; decide
    rcases h.status with ⟨live, -⟩ | ⟨halted, -⟩
    · rw [Record.slotBusy_live kind live, not_or, not_or] at free
      obtain ⟨overlap, drain, armed⟩ := free
      rcases (Record.stageOk_ingress_iff kind).mp h.stage with ⟨-, e⟩ | ⟨stage, e | e⟩ | ⟨stage, -⟩ | ⟨stage, -⟩
      · exact ⟨.inl e, absent e⟩
      · exact absurd ⟨stage, .inl e⟩ armed
      · exact ⟨.inr (.inl e), not_not.mp fun held => armed ⟨stage, .inr ⟨e, held⟩⟩⟩
      · exact absurd stage overlap
      · exact absurd stage drain
    · rw [Record.slotBusy_halted kind halted, not_or, not_or] at free
      obtain ⟨closing, next, held⟩ := free
      rcases (Record.stageOk_ingress_iff kind).mp h.stage with ⟨-, e⟩ | ⟨-, e | e⟩ | ⟨-, e⟩ | ⟨-, e⟩
      · exact ⟨.inl e, absent e⟩
      · exact absurd e next
      · exact ⟨.inr (.inl e), not_not.mp fun frames => held ⟨.inr e, frames⟩⟩
      · exact ⟨.inr (.inr e), not_not.mp fun frames => held ⟨.inl e, frames⟩⟩
      · exact absurd e closing

theorem Record.follows_loadedEgress (r : Record) (n : Nat) : r.Follows Slot.Carries (r.loadedEgress n) := by
  have rule := slotRule_carries
  have given : r.Follows Slot.Carries r.keyGiven := Record.follows_fields rule rfl
  rcases r.loadedEgress_cases n with ⟨-, -, made⟩ | ⟨-, made | made⟩ <;> rw [made]
  · exact given.trans rule (Record.follows_enterLead rule n _)
  · exact given.trans rule (Record.follows_egressSwitch rule n _)
  · exact given

theorem Record.follows_loadNext (r : Record) (key : BitVec 256) (salt : BitVec 48) (n : Nat) :
    (r.withNext key salt).Follows Slot.Carries (r.loadNext key salt n) := by
  unfold Record.loadNext
  split
  · exact Record.follows_loadedEgress _ n
  · exact Record.follows_enter slotRule_carries _ _

theorem Record.quietSlots_loaded (h : r.Ok) (running : r.state = .live ∨ r.state = .halted) (notBusy : r.slotBusy = false)
    (key : BitVec 256) (salt : BitVec 48) (n : Nat) : r.QuietSlots (r.loadNext key salt n) := by
  obtain ⟨unusable, idle⟩ := Record.slot_of_notBusy (h.runs running) notBusy
  have kind : (r.withNext key salt).config.kind = r.config.kind := by
    unfold Record.withNext
    rw [Record.setSlot_config]
  have slot : ∀ k, (r.withNext key salt).slot k =
      if (!r.currentSlot) = k then Slot.written .next (r.currentPosition.keyNumber + 1) key salt else r.slot k :=
    fun k => Record.slot_setSlot ..
  refine .then_follows (q := r.withNext key salt) ⟨Record.setSlot_queuedFrames .., fun k => ?_, .inl kind⟩ kind (fun k b carries => ?_)
    (r.follows_loadNext key salt n)
  · rw [slot k]
    split
    next e =>
      subst e
      exact idle.symm
    next => rfl
  · rw [slot k] at carries
    split at carries
    next e =>
      subst e
      exact Slot.moves_written unusable carries
    next => exact carries.moves (h.slot k)

/-! ### The ingress switch -/

theorem Record.follows_ingressSwitch_carries (h : r.Runs Config.lastNext) (next : r.otherPosition.role = .next) (capture n : Nat) :
    r.Follows Slot.Carries (r.ingressSwitch capture n) :=
  Record.follows_ingressSwitch slotRule_carries n capture
    (fun _ => Slot.carries_role (Slot.ne_erased_of_role h.present) fun e => nomatch e)
    (Slot.carries_role (Slot.ne_erased_of_role (by rw [next]; decide)) fun _ => next)

/-- What a command or a tick makes of the slots and the counts of a record that stands as it should. -/
theorem QuietMove.slots {n : Nat} (moved : QuietMove n r r') (h : r.Ok) : r.QuietSlots r'.stored := by
  have rule := slotRule_carries
  have exactly {q : Record} (present : q.state ≠ .free) (slots : r.QuietSlots q) : r.QuietSlots q.stored := by
    unfold Record.stored
    rw [if_neg present]
    exact slots
  have fields {q : Record} (state : q.state = r.state) (slots : r.QuietSlots q) : r.QuietSlots q.stored :=
    .stored h (by rw [state]) fun _ => slots
  have same : r.QuietSlots r := .refl r
  cases moved with
  | installed c free => exact exactly (fun e => nomatch e) (Record.quietSlots_installed h free c)
  | activated => exact exactly (fun e => nomatch e) ⟨⟨rfl, fun _ => rfl, .inl rfl⟩, same.slots⟩
  | counted m => exact fields rfl ⟨⟨rfl, fun _ => rfl, .inl rfl⟩, same.slots⟩
  | cleared => exact fields rfl ⟨⟨rfl, fun _ => rfl, .inl rfl⟩, same.slots⟩
  | attended => exact fields rfl ⟨⟨rfl, fun _ => rfl, .inl rfl⟩, same.slots⟩
  | modified c => exact fields Record.modifyFires_state (Record.quietSlots_modified h c n)
  | retired =>
    have freed := Record.quietSlots_retired h
    rw [(Record.ok_retire h).freeWhenDrained.stored]
    exact freed
  | loaded key salt running notBusy =>
    rw [(Record.ok_loadNext (h.runs running) notBusy key salt n).stored]
    exact Record.quietSlots_loaded h running notBusy key salt n
  | rolled => exact .stored_of_follows h (Record.follows_trigger rule n r)
  | switched => exact .stored_of_follows h (Record.follows_egressSwitch rule n r)
  | forced ingress switchable =>
    unfold Record.ingressSwitchable at switchable
    simp only [Bool.and_eq_true, Bool.or_eq_true, beq_iff_eq] at switchable
    obtain ⟨usable, running⟩ := switchable
    exact .stored_of_follows h
      (Record.follows_ingressSwitch_carries (h.runs (running.imp And.left id)) (r.usableNext_iff.mp usable) 0 n)
  | ticked => exact .stored_of_follows h (Record.follows_tick rule n r)
  | evident sender => exact .stored_of_follows h (Record.follows_evidenceArrives rule n r sender)

end Records

end Sys2Proof.Machine
end

section
/-!
PROOFS. What the requests and messages of the engines make of a record: its slots and stage stand as they should, and it counts one
frame more or one fewer (sections 1.9, 2.2, 2.6, 7.4 and 7.7).
-/

namespace Sys2Proof.Machine

/-- A record is what an operation leaves of another that then counts some queued frames, and some frames in flight under each slot; it
keeps its kind unless it counts none. -/
structure Record.CountsTo (r r' : Record) (n : Nat) (f : SlotNo → Nat) : Prop where
  queued : r'.queuedFrames = n
  inFlight : ∀ k, (r'.slot k).inFlight = f k
  kind : r'.config.kind = r.config.kind ∨ (n = 0 ∧ ∀ k, f k = 0)

section Records

variable {r r' q : Record} {queued : Nat} {held : SlotNo → Nat}

theorem Record.CountsTo.freeWhenDrained (h : r.CountsTo r' queued held) : r.CountsTo r'.freeWhenDrained queued held := by
  unfold Record.freeWhenDrained
  split
  next drained =>
    obtain ⟨-, none, idle0, idle1⟩ := drained
    have idle : ∀ k, held k = 0 := fun k => by
      rw [← h.inFlight k]
      cases k; exacts [idle0, idle1]
    refine ⟨none.symm.trans h.queued, fun k => ?_, .inr ⟨h.queued.symm.trans none, idle⟩⟩
    rw [idle k]
    cases k <;> rfl
  next => exact h

theorem Record.CountsTo.then_follows (h : r.CountsTo q queued held) (kind : q.config.kind = r.config.kind)
    (follows : q.Follows Slot.Carries r') : r.CountsTo r' queued held :=
  ⟨follows.queuedFrames.trans h.queued, fun k => (follows.slots k).inFlight_eq.trans (h.inFlight k),
    .inl (by rw [follows.config, kind])⟩

theorem Record.slots_moves_freeWhenDrained (slots : ∀ k, (r.slot k).moves (r'.slot k)) (k : SlotNo) :
    (r.slot k).moves (r'.freeWhenDrained.slot k) := by
  unfold Record.freeWhenDrained
  split
  · exact .inr (.inl (by cases k <;> rfl))
  · exact slots k

/-! ### Queued frames -/

theorem Record.ok_gainQueued (h : r.Ok) (present : r.state ≠ .free) : r.gainQueued.Ok :=
  h.fields present rfl rfl rfl rfl rfl rfl rfl rfl rfl

theorem Record.ok_loseQueued (h : r.Ok) (present : r.state ≠ .free) : r.loseQueued.Ok :=
  h.fields present rfl rfl rfl rfl rfl rfl rfl rfl rfl

theorem Record.ok_refuse (h : r.Ok) (present : r.state ≠ .free) : r.refuse.Ok :=
  h.fields present rfl rfl rfl rfl rfl rfl rfl rfl rfl

/-! ### Allocation -/

/-- A record rebuilt around its CURRENT slot, in a stage that allows the slot beside it. -/
theorem Record.Runs.rebuild {top : Nat} (h : r.Runs top) (kind : r'.config.kind = r.config.kind) (state : r'.state = r.state)
    (reason : r'.haltReason = r.haltReason) (current : r'.currentPosition = r.currentPosition)
    (ok : r'.otherPosition.Ok r.config.kind) (stage : r'.stageOk)
    (pending : r'.pendingTrigger = true → r.state = .live → r'.stage = .drainOld)
    (triggers : r.config.kind = .ingress → r'.triggerLatch = false ∧ r'.pendingTrigger = false)
    (numbers : r'.otherPosition.role ≠ .absent → r.currentPosition.keyNumber ≠ r'.otherPosition.keyNumber)
    (next : r'.otherPosition.role = .next → r'.otherPosition.keyNumber = r.currentPosition.keyNumber + 1) : r'.Runs top := by
  refine ⟨by rw [current, kind]; exact h.current, by rw [kind]; exact ok, stage, ?_, by rw [kind]; exact triggers,
    by rw [current]; exact numbers, by rw [current]; exact next⟩
  unfold Record.runsAs
  rw [kind, state, reason, current]
  rcases h.status with ⟨live, role, reason, -, number⟩ | halted
  · exact .inl ⟨live, role, reason, fun e => pending e live, number⟩
  · exact .inr halted

/-- The CURRENT key found damaged: the record halts (R22). -/
theorem Record.currentFault_runs {top : Nat} (h : r.Runs top) (live : r.state = .live) : r.currentFault.Runs top := by
  have positions : r.currentFault.currentPosition = r.currentPosition.damage ∧ r.currentFault.otherPosition = r.otherPosition := by
    unfold Record.currentFault Record.halt Record.currentPosition Record.otherPosition Record.slot Record.setSlot
    cases r.currentSlot <;> exact ⟨rfl, rfl⟩
  obtain ⟨current, other⟩ := positions
  have config : r.currentFault.config = r.config := Record.setSlot_config ..
  have stage : r.currentFault.stage = r.stage := Record.setSlot_stage ..
  have latch : r.currentFault.triggerLatch = r.triggerLatch := Record.setSlot_triggerLatch ..
  have pending : r.currentFault.pendingTrigger = r.pendingTrigger := Record.setSlot_pendingTrigger ..
  refine ⟨by rw [current, config]; exact h.current.damage, by rw [other, config]; exact h.other, ?_,
    .inr ⟨rfl, .inl ⟨rfl, by rw [current]; rfl⟩⟩, by rw [config, latch, pending]; exact h.triggers, by rw [current, other]; exact h.numbers,
    by rw [current, other]; exact h.next⟩
  cases kind : r.config.kind with
  | egress =>
    rw [Record.stageOk_egress_iff (by rw [config, kind]), stage, latch, other]
    rcases (Record.stageOk_egress_iff kind).mp h.stage with steady | ⟨e, latch, role⟩ | lead | drain
    · exact .inl steady
    · refine .inr (.inl ⟨e, latch, ?_⟩)
      rcases role with e | e | ⟨e, -⟩
      · exact .inl e
      · exact .inr (.inl e)
      · cases live.symm.trans e
    · exact .inr (.inr (.inl lead))
    · exact .inr (.inr (.inr drain))
  | ingress =>
    rw [Record.stageOk_ingress_iff (by rw [config, kind]), stage, other]
    exact (Record.stageOk_ingress_iff kind).mp h.stage

theorem Record.credit_runs {top : Nat} (h : r.Runs top) (n : Nat) : (r.credit n).Runs top := by
  unfold Record.credit
  split
  · exact h
  · split <;> exact h.fields rfl rfl rfl rfl rfl rfl rfl rfl

theorem Record.credit_slots (r : Record) (n : Nat) : (r.credit n).currentSlot = r.currentSlot ∧ ∀ k, (r.credit n).slot k = r.slot k := by
  unfold Record.credit
  split
  · exact ⟨rfl, fun _ => rfl⟩
  · split <;> exact ⟨rfl, fun _ => rfl⟩

/-- The slot of a number assigned (R28, R29). -/
def Slot.assigned (sl : Slot) : Slot := { sl with nextSequence := sl.nextSequence + 1, inFlight := sl.inFlight + 1 }

/-- A record that has assigned a number, before its lifetime is credited (R28, R29). -/
def Record.numbered (r : Record) : Record :=
  { r.setSlot r.currentSlot r.currentPosition.assigned with queuedFrames := r.queuedFrames - 1 }

theorem Record.assign_numbered (r : Record) (n : Nat) : r.assign n = r.numbered.credit n := rfl

section Grant

variable (h : r.Runs Config.lastNext) (live : r.state = .live) (egress : r.config.kind = .egress)
  (room : r.currentPosition.inFlight < Config.egressInFlight)

include h live in
theorem Record.Runs.live_current : r.currentPosition.role = .current ∧ r.currentPosition.nextSequence ≤ Config.lastNext := by
  rcases h.status with ⟨-, role, -, -, number⟩ | ⟨e, -⟩
  · exact ⟨role, number⟩
  · cases live.symm.trans e

include h live egress room in
theorem Record.numbered_runs : r.numbered.Runs (2 ^ 48) := by
  obtain ⟨role, number⟩ := h.live_current live
  have bound : Config.lastNext + 1 = 2 ^ 48 := by decide
  obtain ⟨old, highest, accepted, low, -, -, -⟩ := h.current.egress egress
  have ok : r.currentPosition.assigned.Ok r.config.kind := {
    absent := fun e => nomatch role.symm.trans e
    closing := fun e => nomatch role.symm.trans e
    egress := fun _ => ⟨old, highest, accepted, Nat.le_succ_of_le low, by unfold Slot.assigned; dsimp only; omega,
      fun e => (nomatch role.symm.trans e), room⟩
    ingress := fun e => nomatch egress.symm.trans e }
  have set : (r.setSlot r.currentSlot r.currentPosition.assigned).Runs (2 ^ 48) :=
    h.setCurrent (sl := r.currentPosition.assigned) rfl rfl ok fun _ => by unfold Slot.assigned; dsimp only; omega
  exact set.fields rfl rfl rfl rfl rfl rfl rfl rfl

theorem Record.trigger_position (r : Record) (t : Nat) :
    ((r.trigger t).currentSlot = r.currentSlot ∧ (r.trigger t).currentPosition = r.currentPosition) ∨
      (r.trigger t).currentPosition.nextSequence = 1 := by
  have switched (a : Record) : (a.egressSwitch t).currentSlot = a.currentSlot ∧ (a.egressSwitch t).currentPosition = a.currentPosition ∨
      (a.egressSwitch t).currentPosition.nextSequence = 1 := by
    unfold Record.egressSwitch
    split
    · split
      · exact .inr (Record.switchTo_nextSequence a t)
      · have same : (a.nextFault).currentSlot = a.currentSlot := Record.setSlot_currentSlot ..
        refine .inl ⟨same, ?_⟩
        unfold Record.currentPosition
        rw [same]
        exact Record.slot_setSlot_of_not ..
    · exact .inl ⟨rfl, rfl⟩
  by_cases steady : r.stage = .steady
  · rw [Record.trigger_of_steady_eq t steady]
    split
    · unfold Record.enterLead
      split
      · unfold Record.leadExpiry
        split
        · exact switched (r.latched.enter .lead)
        · exact .inl ⟨rfl, rfl⟩
      · exact .inl ⟨rfl, rfl⟩
    · exact .inl ⟨rfl, rfl⟩
  by_cases drain : r.stage = .drainOld
  · rw [Record.trigger_of_drainOld t drain]
    exact .inl ⟨rfl, rfl⟩
  · rw [Record.trigger_of_rolling t steady drain]
    exact .inl ⟨rfl, rfl⟩

theorem Record.thresholds_position (r : Record) (s t : Nat) :
    ((r.thresholds s t).currentSlot = r.currentSlot ∧ (r.thresholds s t).currentPosition = r.currentPosition) ∨
      (r.thresholds s t).currentPosition.nextSequence = 1 := by
  unfold Record.thresholds
  split
  · exact r.trigger_position t
  · exact .inl ⟨rfl, rfl⟩

/-- Exhaustion, where a record keeps a CURRENT slot that may still give a number (R31, R32). -/
theorem Record.exhaustion_ok (h : r.Runs (2 ^ 48)) (live : r.state = .live) (egress : r.config.kind = .egress) {k : SlotNo} {s : Nat} (n : Nat)
    (mayGive : ¬ (s = Config.seqMax ∧ (r.slot k).role = .current) → r.currentPosition.nextSequence ≤ Config.lastNext) :
    (r.exhaustion k s n).Ok := by
  unfold Record.exhaustion
  split
  next =>
    unfold Record.exhaust
    split
    next usable =>
      have next := r.usableNext_iff.mp usable
      split
      · exact (Record.switchTo_runs h egress n next Config.one_le_lastNext).ok
      · have faulted := Record.nextFault_runs h egress next
        have config : r.nextFault.config = r.config := Record.setSlot_config ..
        exact (Record.halt_runs faulted ((Record.setSlot_state ..).trans live) (by rw [config, egress]) (.inr rfl)).ok
    next => exact (Record.halt_runs h live egress (.inr rfl)).ok
  next not =>
    refine Record.Runs.ok ⟨h.current, h.other, h.stage, ?_, h.triggers, h.numbers, h.next⟩
    rcases h.status with ⟨state, role, reason, pending, -⟩ | halted
    · exact .inl ⟨state, role, reason, pending, mayGive not⟩
    · exact .inr halted

include h live egress room in
theorem Record.ok_grant (n t : Nat) : (r.grant n t).Ok := by
  obtain ⟨role, number⟩ := h.live_current live
  have assigned : (r.assign n).Runs (2 ^ 48) := Record.credit_runs (Record.numbered_runs h live egress room) n
  have follows := (Record.follows_credit slotRule_carries n r.numbered)
  have config : (r.assign n).config = r.config := follows.config.trans (Record.setSlot_config ..)
  have assigned_live : (r.assign n).state = .live := Record.assign_live live
  have slot : (r.assign n).currentSlot = r.currentSlot ∧ (r.assign n).currentPosition.nextSequence = r.currentPosition.nextSequence + 1 ∧
      ((r.assign n).slot r.currentSlot).role = .current := by
    obtain ⟨sameSlot, slots⟩ := r.numbered.credit_slots n
    have numbered : r.numbered.currentSlot = r.currentSlot := Record.setSlot_currentSlot ..
    have current : r.numbered.slot r.currentSlot = r.currentPosition.assigned := Record.slot_setSlot_self ..
    refine ⟨sameSlot.trans numbered, ?_, ?_⟩
    · unfold Record.currentPosition
      rw [Record.assign_numbered, sameSlot, numbered, slots, current]
      rfl
    · rw [Record.assign_numbered, slots, current]
      exact role
  obtain ⟨sameSlot, sameNumber, sameRole⟩ := slot
  have thresholds : ((r.assign n).thresholds r.currentPosition.nextSequence t).Runs (2 ^ 48) := by
    unfold Record.thresholds
    split
    · exact Record.trigger_runs assigned (by rw [config, egress]) (by decide) t assigned_live
    · exact assigned
  have thresholds_live : ((r.assign n).thresholds r.currentPosition.nextSequence t).state = .live := by
    unfold Record.thresholds
    split
    · exact Record.trigger_live assigned_live
    · exact assigned_live
  have thresholds_config : ((r.assign n).thresholds r.currentPosition.nextSequence t).config = r.config :=
    (Record.follows_thresholds slotRule_carries t _ _).config.trans config
  refine Record.exhaustion_ok thresholds thresholds_live (by rw [thresholds_config, egress]) t fun notLast => ?_
  rcases (r.assign n).thresholds_position r.currentPosition.nextSequence t with ⟨kept, position⟩ | begun
  · have current : (((r.assign n).thresholds r.currentPosition.nextSequence t).slot r.currentSlot).role = .current := by
      have same : ((r.assign n).thresholds r.currentPosition.nextSequence t).slot r.currentSlot =
          (r.assign n).slot r.currentSlot := by
        have held : ((r.assign n).thresholds r.currentPosition.nextSequence t).slot
            ((r.assign n).thresholds r.currentPosition.nextSequence t).currentSlot = (r.assign n).slot (r.assign n).currentSlot :=
          position
        rw [kept, sameSlot] at held
        exact held
      rw [same]
      exact sameRole
    have below : r.currentPosition.nextSequence ≠ Config.seqMax := fun e => notLast ⟨e, current⟩
    have last : Config.seqMax = Config.lastNext := rfl
    rw [position, sameNumber]
    omega
  · rw [begun]
    exact Config.one_le_lastNext

theorem Record.follows_grant (live : r.state = .live) (n t : Nat) : r.numbered.Follows Slot.Carries (r.grant n t) := by
  have rule := slotRule_carries
  have credited : r.numbered.Follows Slot.Carries (r.assign n) := Record.follows_credit rule n r.numbered
  have thresholds := credited.trans rule (Record.follows_thresholds rule t (r.assign n) r.currentPosition.nextSequence)
  have inUse : r.numbered.inUse := .inr (.inl ((Record.setSlot_state ..).trans live))
  exact thresholds.trans rule (Record.follows_exhaustion rule t (thresholds.inUse inUse) _ _)

theorem Record.numbered_slot (r : Record) (k : SlotNo) :
    r.numbered.slot k = if r.currentSlot = k then r.currentPosition.assigned else r.slot k := Record.slot_setSlot ..

theorem Record.grant_counts (live : r.state = .live) (n t : Nat) : r.CountsTo (r.grant n t) (r.queuedFrames - 1)
    (fun k => (r.slot k).inFlight + if r.currentSlot = k then 1 else 0) := by
  refine Record.CountsTo.then_follows (q := r.numbered) ⟨rfl, fun k => ?_, .inl ?_⟩ ?_ (Record.follows_grant live n t)
  · rw [r.numbered_slot]
    by_cases e : r.currentSlot = k
    · subst e
      rw [if_pos rfl, if_pos rfl]
      rfl
    · rw [if_neg e, if_neg e]
      rfl
  all_goals
    unfold Record.numbered
    dsimp only
    rw [Record.setSlot_config]

include h live in
theorem Record.grant_moves (n t : Nat) (k : SlotNo) : (r.slot k).moves ((r.grant n t).slot k) := by
  obtain ⟨role, -⟩ := h.live_current live
  have carries := (Record.follows_grant live n t).slots k
  rw [r.numbered_slot] at carries
  split at carries
  next e =>
    subst e
    cases carries with
    | same b => exact .inl ⟨by rw [b]; rfl, by rw [b]; rfl, .inr ⟨role, by rw [b]; rfl⟩⟩
    | changed key salt _ _ _ number =>
      rcases number with same | ⟨next, -⟩
      · exact .inl ⟨key, salt, .inr ⟨role, same⟩⟩
      · cases role.symm.trans next
    | erased _ b => exact .inr (.inl b)
  next => exact carries.moves (by cases k; exacts [h.ok.slot0, h.ok.slot1])

end Grant

/-- An allocation request judged at an EGRESS record (R27, R28). -/
theorem Record.ok_allocate (h : r.Ok) (present : r.state ≠ .free) (egress : r.config.kind = .egress) (i : Nat) (l : LaneId) (n t : Nat)
    (room : ∀ g, (r.allocate i l n t).2 = .granted g → r.currentPosition.inFlight < Config.egressInFlight) :
    (r.allocate i l n t).1.Ok := by
  unfold Record.allocate at room ⊢
  split
  · exact (Record.ok_refuse h present).freeWhenDrained
  next check =>
    have live : r.state = .live := by
      unfold Record.allocationCheck at check
      split_ifs at check with hr hs hh
      cases hst : r.state <;> simp_all
    rw [check] at room
    split
    next passes =>
      dsimp only at room
      rw [if_pos passes] at room
      exact Record.ok_grant (h.runs (.inl live)) live egress (room _ rfl) n t
    next =>
      have refused := (Record.ok_refuse h present).runs (.inl live)
      exact (Record.currentFault_runs refused live).ok

/-- What an allocation request does to the counts: its queued frame is taken, and a grant has it in flight under the CURRENT slot. -/
theorem Record.allocate_counts (present : r.state ≠ .free) (i : Nat) (l : LaneId) (n t : Nat) :
    (∃ why, (r.allocate i l n t).2 = .refused why ∧
      r.CountsTo (r.allocate i l n t).1 (r.queuedFrames - 1) (fun k => (r.slot k).inFlight)) ∨
    (∃ g, (r.allocate i l n t).2 = .granted g ∧ g.record = i ∧ g.slot = r.currentSlot ∧
      r.CountsTo (r.allocate i l n t).1 (r.queuedFrames - 1) (fun k => (r.slot k).inFlight + if r.currentSlot = k then 1 else 0)) := by
  have refused : r.CountsTo r.refuse (r.queuedFrames - 1) (fun k => (r.slot k).inFlight) := ⟨rfl, fun _ => rfl, .inl rfl⟩
  unfold Record.allocate
  split
  next why _ => exact .inl ⟨why, rfl, refused.freeWhenDrained⟩
  next check =>
    have live : r.state = .live := by
      unfold Record.allocationCheck at check
      split_ifs at check with hr hs hh
      cases hst : r.state <;> simp_all
    split
    · exact .inr ⟨_, rfl, rfl, rfl, Record.grant_counts live n t⟩
    · refine .inl ⟨_, rfl, ⟨?_, fun k => ?_, .inl ?_⟩⟩
      · unfold Record.currentFault Record.halt
        dsimp only
        rw [Record.setSlot_queuedFrames]
        rfl
      · show ((r.refuse.setSlot r.refuse.currentSlot r.refuse.currentPosition.damage).slot k).inFlight = _
        rw [Record.slot_setSlot]
        split
        next e =>
          subst e
          rfl
        next => rfl
      · unfold Record.currentFault Record.halt
        dsimp only
        rw [Record.setSlot_config]
        rfl

theorem Record.allocate_moves (h : r.Ok) (i : Nat) (l : LaneId) (n t : Nat) (present : r.state ≠ .free) (k : SlotNo) :
    (r.slot k).moves ((r.allocate i l n t).1.slot k) := by
  unfold Record.allocate
  split
  · exact Record.slots_moves_freeWhenDrained (r' := r.refuse) (fun k => Slot.moves_same rfl rfl rfl) k
  next check =>
    have live : r.state = .live := by
      unfold Record.allocationCheck at check
      split_ifs at check with hr hs hh
      cases hst : r.state <;> simp_all
    split
    · exact Record.grant_moves (h.runs (.inl live)) live n t k
    · show (r.slot k).moves ((r.refuse.setSlot r.refuse.currentSlot r.refuse.currentPosition.damage).slot k)
      rw [Record.slot_setSlot]
      split
      next e =>
        subst e
        exact Slot.moves_same rfl rfl rfl
      next => exact Slot.moves_same rfl rfl rfl

end Records

end Sys2Proof.Machine
end

section
/-!
PROOFS. What releases, abandons, lookups and commits make of a record: its slots and stage stand as they should, and it counts one frame
more or one fewer (sections 2.6, 7.4 and 7.7).
-/

namespace Sys2Proof.Machine

section Records

variable {r r' : Record}

/-- One frame fewer in flight under one slot. -/
def Record.heldWithout (r : Record) (k : SlotNo) (j : SlotNo) : Nat := if k = j then (r.slot j).inFlight - 1 else (r.slot j).inFlight

/-- One frame more in flight under one slot. -/
def Record.heldWith (r : Record) (k : SlotNo) (j : SlotNo) : Nat := if k = j then (r.slot j).inFlight + 1 else (r.slot j).inFlight

/-! ### The end of a frame's grant -/

section EndGrant

variable (h : r.Ok) {k : SlotNo} (held : 0 < (r.slot k).inFlight)

include h held

theorem Record.present_of_held : r.state ≠ .free := fun free => by
  rw [h.free free] at held
  cases k <;> cases held

theorem Record.slot_present_of_held : (r.slot k).role ≠ .absent := fun absent => by
  rw [(h.slot k).absent absent] at held
  cases held

/-- The slot of a frame's grant that ends, where it is not erased (R5, R37). -/
theorem Record.ok_lessHeld (kept : (r.slot k).role = .closing → (r.slot k).inFlight - 1 ≠ 0) :
    (r.setSlot k { r.slot k with inFlight := (r.slot k).inFlight - 1 }).Ok := by
  have ok := h.slot k
  refine h.setSlot (Record.present_of_held h held) rfl rfl rfl {
    absent := fun e => absurd e (Record.slot_present_of_held h held)
    closing := fun e => Nat.pos_of_ne_zero (kept e)
    egress := fun e => ?_
    ingress := fun e => ?_ }
  · obtain ⟨old, highest, accepted, low, high, next, room⟩ := ok.egress e
    refine ⟨old, highest, accepted, low, high, fun e => ⟨(next e).1, ?_⟩, le_trans (Nat.sub_le ..) room⟩
    show (r.slot k).inFlight - 1 = 0
    rw [(next e).2]
  · obtain ⟨number, next, room⟩ := ok.ingress e
    exact ⟨number, next, le_trans (Nat.sub_le ..) room⟩

omit h held in
/-- A CLOSING slot of a LIVE or HALTED record stands beside the CURRENT one, in DRAIN_OLD. -/
theorem Record.Runs.closing {top : Nat} (h : r.Runs top) (closing : (r.slot k).role = .closing) :
    k = (!r.currentSlot) ∧ r.stage = .drainOld := by
  have beside : k = !r.currentSlot := by
    have role : r.currentPosition.role ≠ .closing := by
      rcases h.status with ⟨-, role, -⟩ | ⟨-, ⟨-, role⟩ | ⟨-, -, role⟩⟩ <;> rw [role] <;> decide
    have differs : k ≠ r.currentSlot := fun e => role (by rw [← closing, e]; rfl)
    cases k <;> cases hk : r.currentSlot <;> simp_all
  subst beside
  refine ⟨rfl, ?_⟩
  have other : r.otherPosition.role = .closing := closing
  cases kind : r.config.kind with
  | egress =>
    rcases (Record.stageOk_egress_iff kind).mp h.stage with ⟨-, -, e | e | e⟩ | ⟨-, -, e | e | ⟨-, e⟩⟩ | ⟨-, -, e | e⟩ | ⟨stage, -⟩
    iterate 8 cases other.symm.trans e
    exact stage
  | ingress =>
    rcases (Record.stageOk_ingress_iff kind).mp h.stage with ⟨-, e⟩ | ⟨-, e | e⟩ | ⟨-, e⟩ | ⟨stage, -⟩
    iterate 4 cases other.symm.trans e
    exact stage

omit h held in
/-- DRAIN_OLD ends at a LIVE or HALTED record: its CLOSING slot is erased (R65, R73). -/
theorem Record.endDrain_ok (h : r.Runs Config.lastNext) (drain : r.stage = .drainOld) (n : Nat) :
    ((r.setSlot (!r.currentSlot) Slot.erased).endDrain n).Ok := by
  have config : (r.setSlot (!r.currentSlot) Slot.erased).config = r.config := Record.setSlot_config ..
  have state : (r.setSlot (!r.currentSlot) Slot.erased).state = r.state := Record.setSlot_state ..
  have reason : (r.setSlot (!r.currentSlot) Slot.erased).haltReason = r.haltReason := Record.setSlot_haltReason ..
  have latch : (r.setSlot (!r.currentSlot) Slot.erased).triggerLatch = r.triggerLatch := Record.setSlot_triggerLatch ..
  have pending : (r.setSlot (!r.currentSlot) Slot.erased).pendingTrigger = r.pendingTrigger := Record.setSlot_pendingTrigger ..
  have current : (r.setSlot (!r.currentSlot) Slot.erased).currentPosition = r.currentPosition := by
    unfold Record.currentPosition
    rw [Record.setSlot_currentSlot, Record.slot_setSlot_of_not]
  have other : (r.setSlot (!r.currentSlot) Slot.erased).otherPosition = Slot.erased := Record.setOther_otherPosition ..
  have noLatch : r.config.kind = .egress → r.triggerLatch = false := fun egress => by
    rcases (Record.stageOk_egress_iff egress).mp h.stage with ⟨-, latch, -⟩ | ⟨e, -⟩ | ⟨e | e, -⟩ | ⟨-, latch, -⟩
    · exact latch
    iterate 3 cases drain.symm.trans e
    exact latch
  have steady {q : Record} (kind : q.config.kind = r.config.kind) (stage : q.stage = .steady) (latch : q.triggerLatch = r.triggerLatch)
      (beside : q.otherPosition = Slot.erased) : q.stageOk := by
    cases hk : r.config.kind with
    | egress => exact (Record.stageOk_egress_iff (kind.trans hk)).mpr (.inl ⟨stage, latch.trans (noLatch hk), .inl (by rw [beside]; rfl)⟩)
    | ingress => exact (Record.stageOk_ingress_iff (kind.trans hk)).mpr (.inl ⟨stage, by rw [beside]; rfl⟩)
  have absent {q : Record} (beside : q.otherPosition = Slot.erased) : q.otherPosition.role = .absent := by rw [beside]; rfl
  have runs {q : Record} (hconfig : q.config = r.config) (hstate : q.state = r.state) (hreason : q.haltReason = r.haltReason)
      (hcurrent : q.currentPosition = r.currentPosition) (beside : q.otherPosition = Slot.erased) (stage : q.stage = .steady)
      (hlatch : q.triggerLatch = r.triggerLatch) (hpending : q.pendingTrigger = true → r.pendingTrigger = true ∧ r.state ≠ .live) :
      q.Runs Config.lastNext := by
    refine h.rebuild (by rw [hconfig]) hstate hreason hcurrent (by rw [beside]; exact Slot.ok_erased _)
      (steady (by rw [hconfig]) stage hlatch beside) (fun e live => absurd live (hpending e).2) (fun ingress => ?_)
      (fun present => absurd (absent beside) present) fun next => (nomatch (absent beside).symm.trans next)
    obtain ⟨noLatch, noPending⟩ := h.triggers ingress
    refine ⟨hlatch.trans noLatch, eq_false_of_ne_true fun e => ?_⟩
    cases noPending.symm.trans (hpending e).1
  unfold Record.endDrain
  dsimp only
  rw [config, state, pending]
  split
  next fires =>
    obtain ⟨egress, live, -⟩ := fires
    have base : ({ (r.setSlot (!r.currentSlot) Slot.erased).enter .steady with pendingTrigger := false } : Record).Runs Config.lastNext :=
      runs config state reason current other rfl latch fun e => nomatch e
    exact (Record.trigger_runs base (by dsimp only [Record.enter]; rw [config, egress]) Config.one_le_lastNext n (state.trans live)).ok
  next quiet =>
    refine Record.Runs.ok (runs (q := (r.setSlot (!r.currentSlot) Slot.erased).enter .steady) config state reason current other rfl latch
      fun e => ⟨pending.symm.trans e, fun live => ?_⟩)
    have set : r.pendingTrigger = true := pending.symm.trans e
    cases kind : r.config.kind with
    | egress => exact quiet ⟨kind, live, set⟩
    | ingress => cases (h.triggers kind).2.symm.trans set

theorem Record.ok_endGrant (n : Nat) : (r.endGrant k n).Ok := by
  have present := Record.present_of_held h held
  unfold Record.endGrant
  dsimp only
  split
  next ends =>
    obtain ⟨closing, last⟩ := ends
    have state := h.state
    unfold Record.stateOk at state
    cases hs : r.state with
    | free => exact absurd hs present
    | staged =>
      rw [hs] at state
      obtain ⟨-, current, -, absent, -⟩ := state
      cases k
      · cases current.symm.trans closing
      · cases absent.symm.trans closing
    | live =>
      have runs := h.runs (.inl hs)
      obtain ⟨beside, drain⟩ := runs.closing closing
      rw [if_pos drain, beside]
      exact Record.endDrain_ok runs drain n
    | halted =>
      have runs := h.runs (.inr hs)
      obtain ⟨beside, drain⟩ := runs.closing closing
      rw [if_pos drain, beside]
      exact Record.endDrain_ok runs drain n
    | retiring =>
      rw [hs] at state
      obtain ⟨role0, role1, stage, latch, pending, reason⟩ := state
      rw [if_neg (by rw [stage]; decide)]
      cases k
      · refine ⟨Slot.ok_erased _, h.slot1, ?_, h.triggers, fun e => absurd rfl e, fun next => ?_⟩
        · unfold Record.stateOk
          rw [Record.setSlot_state, hs]
          exact ⟨.inl rfl, role1, stage, latch, pending, reason⟩
        · have other : ((r.setSlot false Slot.erased).otherPosition).role = .absent ∨
              ((r.setSlot false Slot.erased).otherPosition).role = .closing := by
            unfold Record.otherPosition Record.slot
            split
            · exact role1
            · exact .inl rfl
          rcases other with e | e <;> cases next.symm.trans e
      · refine ⟨h.slot0, Slot.ok_erased _, ?_, h.triggers, fun _ e => absurd rfl e, fun next => ?_⟩
        · unfold Record.stateOk
          rw [Record.setSlot_state, hs]
          exact ⟨role0, .inl rfl, stage, latch, pending, reason⟩
        · have other : ((r.setSlot true Slot.erased).otherPosition).role = .absent ∨
              ((r.setSlot true Slot.erased).otherPosition).role = .closing := by
            unfold Record.otherPosition Record.slot
            split
            · exact .inl rfl
            · exact role0
          rcases other with e | e <;> cases next.symm.trans e
  next stays => exact Record.ok_lessHeld h held fun closing last => stays ⟨closing, last⟩

omit h held in
/-- What the end of a grant leaves of a record's slots and counts (R37). -/
theorem Record.endGrant_follows (r : Record) (k : SlotNo) (n : Nat) :
    (r.setSlot k { r.slot k with inFlight := (r.slot k).inFlight - 1 }).Follows Slot.Carries (r.endGrant k n) := by
  have rule := slotRule_carries
  unfold Record.endGrant
  dsimp only
  split
  next ends =>
    obtain ⟨-, last⟩ := ends
    have erased : (r.setSlot k { r.slot k with inFlight := (r.slot k).inFlight - 1 }).Follows Slot.Carries (r.setSlot k Slot.erased) := by
      have set := Record.follows_setSlot rule (r.setSlot k { r.slot k with inFlight := (r.slot k).inFlight - 1 }) (k := k)
        (sl := Slot.erased) (by rw [Record.slot_setSlot_self]; exact .erased last rfl)
      rw [Record.setSlot_setSlot] at set
      exact set
    split
    · exact erased.trans rule (Record.follows_endDrain rule n _)
    · exact erased
  next => exact Record.follows_refl rule _

omit h held in
theorem Record.endGrant_counts (r : Record) (k : SlotNo) (n : Nat) : r.CountsTo (r.endGrant k n) r.queuedFrames (r.heldWithout k) := by
  refine Record.CountsTo.then_follows (q := r.setSlot k { r.slot k with inFlight := (r.slot k).inFlight - 1 })
    ⟨Record.setSlot_queuedFrames .., fun j => ?_, .inl (by rw [Record.setSlot_config])⟩ (by rw [Record.setSlot_config])
    (r.endGrant_follows k n)
  rw [Record.slot_setSlot]
  unfold Record.heldWithout
  by_cases e : k = j
  · rw [if_pos e, if_pos e, e]
  · rw [if_neg e, if_neg e]

omit held in
theorem Record.endGrant_moves (k : SlotNo) (n : Nat) (j : SlotNo) : (r.slot j).moves ((r.endGrant k n).slot j) := by
  have carries := (r.endGrant_follows k n).slots j
  rw [Record.slot_setSlot] at carries
  split at carries
  next e =>
    subst e
    cases carries with
    | same b => exact Slot.moves_same (by rw [b]) (by rw [b]) (by rw [b])
    | changed key salt _ _ _ number =>
      rcases number with same | ⟨next, first⟩
      · exact Slot.moves_same key salt same
      · exact Slot.moves_same key salt (first.trans ((h.slot k).next_number next).symm)
    | erased _ b => exact .inr (.inl b)
  next => exact carries.moves (h.slot j)

end EndGrant

/-! ### Lookups -/

/-- A record with a counter raised stands as it did. -/
theorem Record.ok_counters (h : r.Ok) (present : r.state ≠ .free) (c : RecordCounters) : ({ r with counters := c } : Record).Ok :=
  h.fields present rfl rfl rfl rfl rfl rfl rfl rfl rfl

theorem Record.slot_position (r : Record) (k : SlotNo) : k = r.currentSlot ∨ k = !r.currentSlot := by
  cases k <;> cases r.currentSlot <;> simp

/-- The slot that a lookup selects is eligible (R117). -/
theorem Record.selectSlot_eligible {n : BitVec 2} {k : SlotNo} (selected : r.selectSlot n = some k) : r.eligible (r.slot k).role = true := by
  unfold Record.selectSlot at selected
  split_ifs at selected with h0 h1
  · cases selected
    exact h0.2
  · cases selected
    exact h1.2

theorem Record.running_of_eligible {role : Role} (eligible : r.eligible role = true) : r.state = .live ∨ r.state = .halted := by
  rcases (r.eligible_iff role).mp eligible with ⟨live, -⟩ | ⟨halted, -⟩
  · exact .inl live
  · exact .inr halted

/-- A key found damaged at a lookup (R22). -/
theorem Record.ok_lookupFault (h : r.Runs Config.lastNext) (ingress : r.config.kind = .ingress) {k : SlotNo}
    (eligible : r.eligible (r.slot k).role = true) : (r.lookupFault k).Ok := by
  have armed (next : (r.slot k).role = .next) : k = (!r.currentSlot) ∧ r.stage = .armed := by
    have beside : k = !r.currentSlot := by
      rcases r.slot_position k with e | e
      · have role : r.currentPosition.role = .next := by rw [← next, e]; rfl
        rcases h.status with ⟨-, e, -⟩ | ⟨-, ⟨-, e⟩ | ⟨-, -, e⟩⟩ <;> cases role.symm.trans e
      · exact e
    have other : r.otherPosition.role = .next := by rw [← next, beside]; rfl
    refine ⟨beside, ?_⟩
    rcases (Record.stageOk_ingress_iff ingress).mp h.stage with ⟨-, e⟩ | ⟨stage, -⟩ | ⟨-, e⟩ | ⟨-, e⟩
    · cases other.symm.trans e
    · exact stage
    · cases other.symm.trans e
    · cases other.symm.trans e
  unfold Record.lookupFault
  split
  next role =>
    have live : r.state = .live := by
      rcases (r.eligible_iff _).mp eligible with ⟨live, -⟩ | ⟨-, e⟩
      · exact live
      · cases role.symm.trans e
    have current : k = r.currentSlot := by
      rcases r.slot_position k with e | e
      · exact e
      · have other : r.otherPosition.role = .current := by rw [← role, e]; rfl
        rcases (Record.stageOk_ingress_iff ingress).mp h.stage with ⟨-, e⟩ | ⟨-, e | e⟩ | ⟨-, e⟩ | ⟨-, e⟩ <;> cases other.symm.trans e
    subst current
    exact (Record.currentFault_runs h live).ok
  next role =>
    have beside : k = !r.currentSlot := by
      rcases r.slot_position k with e | e
      · have current : r.currentPosition.role = .old := by rw [← role, e]; rfl
        rcases h.status with ⟨-, e, -⟩ | ⟨-, ⟨-, e⟩ | ⟨-, -, e⟩⟩ <;> cases current.symm.trans e
      · exact e
    subst beside
    have ended := Record.endOverlap_runs h ingress fun absent => (nomatch role.symm.trans absent)
    exact (ended.fields (r' := (r.endOverlap (!r.currentSlot)).raiseKeyFault) rfl rfl rfl rfl rfl rfl rfl rfl).ok
  next notCurrent notOld =>
    have next : (r.slot k).role = .next := by
      rcases (r.eligible_iff _).mp eligible with ⟨-, e | ⟨-, e⟩ | ⟨-, e⟩⟩ | ⟨-, e⟩
      · exact absurd e notCurrent
      · exact e
      · exact absurd e notOld
      · exact e
    obtain ⟨beside, stage⟩ := armed next
    subst beside
    have damaged : (r.setSlot (!r.currentSlot) r.otherPosition.damage).Runs Config.lastNext := by
      refine h.setOther h.other.damage ?_ (fun _ => h.numbers (fun absent => (nomatch next.symm.trans absent))) fun e => nomatch e
      rw [Record.stageOk_ingress_iff (by rw [Record.setSlot_config]; exact ingress), Record.setOther_otherPosition, Record.setSlot_stage]
      exact .inr (.inl ⟨stage, .inr rfl⟩)
    exact (damaged.fields (r' := (r.setSlot (!r.currentSlot) r.otherPosition.damage).raiseKeyFault) rfl rfl rfl rfl rfl rfl rfl rfl).ok

theorem Record.lookupFault_follows (r : Record) (k : SlotNo) (present : (r.slot k).role ≠ .absent) (inUse : r.inUse) :
    r.Follows Slot.Carries (r.lookupFault k) := by
  have rule := slotRule_carries
  have damaged : r.Follows Slot.Carries (r.setSlot k (r.slot k).damage) :=
    Record.follows_setSlot rule r (Slot.carries_role (Slot.ne_erased_of_role present) fun e => nomatch e)
  unfold Record.lookupFault
  split
  · exact damaged.trans rule (Record.follows_halt rule (damaged.inUse inUse) _)
  · exact (Record.follows_endOverlap rule r k).trans rule (Record.follows_raiseKeyFault rule _)
  · exact damaged.trans rule (Record.follows_raiseKeyFault rule _)

/-- A lookup judged at a record: it is refused, whether a key is found damaged or not, or granted under an eligible slot (R116). -/
inductive Record.LookupEnds (r : Record) (i : Nat) : Record × LookupAnswer → Prop where
  | refused (c : RecordCounters) (why : LookupRefusal) : LookupEnds r i ({ r with counters := c }, .refused why)
  | damaged (k : SlotNo) (why : LookupRefusal) (eligible : r.eligible (r.slot k).role = true) :
      LookupEnds r i (r.countNoKey.lookupFault k, .refused why)
  | granted (k : SlotNo) (eligible : r.eligible (r.slot k).role = true) :
      LookupEnds r i (r.gainInFlight k, .granted (r.ingressGrant i k))

theorem Record.lookup_ends (r : Record) (i : Nat) (l : LaneId) (e : EnvelopeFields) : r.LookupEnds i (r.lookup i l e) := by
  unfold Record.lookup
  split
  next why _ => exact .refused r.counters why
  next =>
    split
    · exact .refused _ _
    next k selected =>
      have eligible := Record.selectSlot_eligible selected
      unfold Record.lookupSlot
      split
      · exact .refused _ _
      · exact .refused _ _
      · split
        · exact .granted k eligible
        · exact .damaged k _ eligible

theorem Record.ok_gainInFlight (h : r.Ok) (ingress : r.config.kind = .ingress) {k : SlotNo} (eligible : r.eligible (r.slot k).role = true)
    (room : (r.slot k).inFlight < Config.ingressInFlight) : (r.gainInFlight k).Ok := by
  have present : r.state ≠ .free := by
    rcases Record.running_of_eligible eligible with e | e <;> rw [e] <;> decide
  have role : (r.slot k).role ≠ .absent ∧ (r.slot k).role ≠ .closing := by
    rcases (r.eligible_iff _).mp eligible with ⟨-, e | ⟨-, e⟩ | ⟨-, e⟩⟩ | ⟨-, e⟩ <;> rw [e] <;> decide
  obtain ⟨number, next, -⟩ := (h.slot k).ingress ingress
  exact h.setSlot present rfl rfl rfl {
    absent := fun e => absurd e role.1
    closing := fun e => absurd e role.2
    egress := fun e => (nomatch ingress.symm.trans e)
    ingress := fun _ => ⟨number, next, room⟩ }

theorem Record.ok_lookup (h : r.Ok) (inUse : r.inUse) (ingress : r.config.kind = .ingress) (i : Nat) (l : LaneId) (e : EnvelopeFields)
    (room : ∀ g, (r.lookup i l e).2 = .granted g → (r.slot g.slot).inFlight < Config.ingressInFlight) : (r.lookup i l e).1.Ok := by
  have ends := r.lookup_ends i l e
  generalize r.lookup i l e = judged at ends room
  cases ends with
  | refused c => exact Record.ok_counters h (Record.inUse_ne_free inUse) c
  | damaged k why eligible =>
    have counted := Record.ok_counters h (Record.inUse_ne_free inUse) r.countNoKey.counters
    exact Record.ok_lookupFault (r := r.countNoKey) (counted.runs (Record.running_of_eligible eligible)) ingress eligible
  | granted k eligible => exact Record.ok_gainInFlight h ingress eligible (room _ rfl)

/-- What a lookup does to the counts: a grant has its frame in flight under its slot. -/
theorem Record.lookup_counts (inUse : r.inUse) (i : Nat) (l : LaneId) (e : EnvelopeFields) :
    (∃ why, (r.lookup i l e).2 = .refused why ∧ r.CountsTo (r.lookup i l e).1 r.queuedFrames (fun k => (r.slot k).inFlight)) ∨
    (∃ g, (r.lookup i l e).2 = .granted g ∧ g.record = i ∧ r.CountsTo (r.lookup i l e).1 r.queuedFrames (r.heldWith g.slot)) := by
  have ends := r.lookup_ends i l e
  generalize r.lookup i l e = judged at ends
  cases ends with
  | refused c why => exact .inl ⟨why, rfl, ⟨rfl, fun _ => rfl, .inl rfl⟩⟩
  | damaged k why eligible =>
    have present : (r.slot k).role ≠ .absent := by
      rcases (r.eligible_iff _).mp eligible with ⟨-, e | ⟨-, e⟩ | ⟨-, e⟩⟩ | ⟨-, e⟩ <;> rw [e] <;> decide
    exact .inl ⟨why, rfl, Record.CountsTo.then_follows (q := r.countNoKey) ⟨rfl, fun _ => rfl, .inl rfl⟩ rfl
      (r.countNoKey.lookupFault_follows k present inUse)⟩
  | granted k =>
    refine .inr ⟨_, rfl, rfl, ⟨Record.setSlot_queuedFrames .., fun j => ?_, .inl ?_⟩⟩
    · show ((r.setSlot k { r.slot k with inFlight := (r.slot k).inFlight + 1 }).slot j).inFlight = _
      rw [Record.slot_setSlot]
      show _ = if k = j then (r.slot j).inFlight + 1 else (r.slot j).inFlight
      by_cases e : k = j
      · rw [if_pos e, if_pos e, e]
      · rw [if_neg e, if_neg e]
    · show (r.setSlot k _).config.kind = _
      rw [Record.setSlot_config]

theorem Record.lookup_moves (h : r.Ok) (inUse : r.inUse) (i : Nat) (l : LaneId) (e : EnvelopeFields) (j : SlotNo) :
    (r.slot j).moves ((r.lookup i l e).1.slot j) := by
  have ends := r.lookup_ends i l e
  generalize r.lookup i l e = judged at ends
  cases ends with
  | refused c why => exact Slot.moves_same rfl rfl rfl
  | damaged k why eligible =>
    have present : (r.slot k).role ≠ .absent := by
      rcases (r.eligible_iff _).mp eligible with ⟨-, e | ⟨-, e⟩ | ⟨-, e⟩⟩ | ⟨-, e⟩ <;> rw [e] <;> decide
    exact ((r.countNoKey.lookupFault_follows k present inUse).slots j).moves (h.slot j)
  | granted k =>
    show (r.slot j).moves ((r.setSlot k { r.slot k with inFlight := (r.slot k).inFlight + 1 }).slot j)
    rw [Record.slot_setSlot]
    split
    next e => exact e ▸ Slot.moves_same rfl rfl rfl
    next => exact Slot.moves_same rfl rfl rfl

/-! ### Commits -/

/-- A slot carried on keeps its key, unless it is erased. -/
theorem Slot.Carries.keeps {a b : Slot} (h : a.Carries b) : b = Slot.erased ∨ (b.key = a.key ∧ b.salt = a.salt) := by
  cases h with
  | same e => exact .inr (e ▸ ⟨rfl, rfl⟩)
  | changed key salt => exact .inr ⟨key, salt⟩
  | erased _ e => exact .inl e

theorem Slot.Carries.one {a b : Slot} (h : a.Carries b) (one : a.nextSequence = 1) : b.nextSequence = 1 := by
  cases h with
  | same e => exact e ▸ one
  | changed _ _ _ _ _ number =>
    rcases number with same | ⟨-, first⟩
    · exact same.trans one
    · exact first
  | erased _ e => exact e ▸ rfl

theorem Slot.Carries.of_erased {b : Slot} (h : Slot.erased.Carries b) : b = Slot.erased := by
  cases h with
  | same e => exact e
  | changed _ _ _ _ present => exact absurd rfl present
  | erased _ e => exact e

section Commit

variable (k : SlotNo) (s n t : Nat)

/-- A record whose window has taken a number, before the rest of an accepted commit (R119). -/
def Record.windowed (r : Record) (k : SlotNo) (s : Nat) : Record := r.setSlot k ((r.slot k).accept r.config.window s)

theorem Slot.accept_keeps (sl : Slot) (window s : Nat) : (sl.accept window s).role = sl.role ∧
    (sl.accept window s).keyNumber = sl.keyNumber ∧ (sl.accept window s).nextSequence = sl.nextSequence ∧
    (sl.accept window s).inFlight = sl.inFlight ∧ (sl.accept window s).key = sl.key ∧ (sl.accept window s).salt = sl.salt := by
  unfold Slot.accept
  split <;> exact ⟨rfl, rfl, rfl, rfl, rfl, rfl⟩

theorem Slot.Ok.accepted {sl : Slot} (h : sl.Ok .ingress) (present : sl.role ≠ .absent) (next : sl.role ≠ .next) (window s : Nat) :
    (sl.accept window s).Ok .ingress := by
  obtain ⟨role, keyNumber, number, inFlight, -⟩ := sl.accept_keeps window s
  obtain ⟨one, -, room⟩ := h.ingress rfl
  exact {
    absent := fun e => absurd (role.symm.trans e) present
    closing := fun e => by rw [inFlight]; exact h.closing (role.symm.trans e)
    egress := fun e => nomatch e
    ingress := fun _ => ⟨number.trans one, fun e => absurd (role.symm.trans e) next, by rw [inFlight]; exact room⟩ }

theorem Record.windowed_slot (j : SlotNo) : ((r.windowed k s).slot j).role = (r.slot j).role ∧
    ((r.windowed k s).slot j).inFlight = (r.slot j).inFlight ∧ ((r.windowed k s).slot j).key = (r.slot j).key ∧
    ((r.windowed k s).slot j).salt = (r.slot j).salt ∧ ((r.windowed k s).slot j).nextSequence = (r.slot j).nextSequence := by
  unfold Record.windowed
  rw [Record.slot_setSlot]
  obtain ⟨role, -, number, inFlight, key, salt⟩ := (r.slot k).accept_keeps r.config.window s
  split
  next e => exact e ▸ ⟨role, inFlight, key, salt, number⟩
  next => exact ⟨rfl, rfl, rfl, rfl, rfl⟩

theorem Record.commitCredit_follows (r : Record) : r.Follows Slot.Carries (r.commitCredit k n) := by
  have rule := slotRule_carries
  unfold Record.commitCredit
  split
  · split
    · exact (Record.follows_credit rule n r).trans rule (Record.follows_staleCheck rule _)
    · exact Record.follows_refl rule r
  · exact Record.follows_refl rule r

theorem Record.ok_commitCredit (h : r.Ok) (present : r.state ≠ .free) : (r.commitCredit k n).Ok := by
  unfold Record.commitCredit Record.credit Record.staleCheck
  repeat' split
  all_goals first
    | exact h
    | exact h.fields present rfl rfl rfl rfl rfl rfl rfl rfl rfl

/-- The NEXT slot of a record in use stands beside the CURRENT one of a LIVE or HALTED record. -/
theorem Record.next_slot (h : r.Ok) {k : SlotNo} (next : (r.slot k).role = .next) :
    (r.state = .live ∨ r.state = .halted) ∧ k = !r.currentSlot := by
  have running : r.state = .live ∨ r.state = .halted := by
    have state := h.state
    unfold Record.stateOk at state
    cases hs : r.state with
    | free =>
      rw [h.free hs] at next
      cases k <;> cases next
    | staged =>
      rw [hs] at state
      obtain ⟨-, current, -, absent, -⟩ := state
      cases k
      · cases current.symm.trans next
      · cases absent.symm.trans next
    | live => exact .inl rfl
    | halted => exact .inr rfl
    | retiring =>
      rw [hs] at state
      obtain ⟨role0, role1, -⟩ := state
      cases k
      · rcases role0 with e | e <;> cases next.symm.trans e
      · rcases role1 with e | e <;> cases next.symm.trans e
  refine ⟨running, ?_⟩
  rcases r.slot_position k with e | e
  · have role : r.currentPosition.role = .next := by rw [← next, e]; rfl
    rcases (h.runs running).status with ⟨-, e, -⟩ | ⟨-, ⟨-, e⟩ | ⟨-, -, e⟩⟩ <;> cases role.symm.trans e
  · exact e

/-- The window's change and the switch that goes with it (R122 steps 1 and 2). -/
def Record.accepting (r : Record) (k : SlotNo) (s t : Nat) : Record :=
  if r.commitSwitches k then (r.windowed k s).ingressSwitch s t else r.windowed k s

theorem Record.acceptCommit_eq : r.acceptCommit k s n t = { (r.accepting k s t).commitCredit k n with
    counters := ((r.accepting k s t).commitCredit k n).counters.acceptedFrame n } := rfl

variable (h : r.Ok)

include h

theorem Record.ok_accepting (ingress : r.config.kind = .ingress) (present : (r.slot k).role ≠ .absent) (hs : r.state ≠ .free) :
    (r.accepting k s t).Ok := by
  have ok : (r.slot k).Ok .ingress := by
    rw [← ingress]
    exact h.slot k
  obtain ⟨role, keyNumber, number, inFlight, -⟩ := (r.slot k).accept_keeps r.config.window s
  unfold Record.accepting
  split
  next switches =>
    have next : (r.slot k).role = .next := beq_iff_eq.mp switches
    obtain ⟨running, beside⟩ := Record.next_slot h next
    have runs := h.runs running
    subst beside
    obtain ⟨one, -, room⟩ := ok.ingress rfl
    refine Record.ingressSwitch_ok runs ingress {
      absent := fun e => nomatch e
      closing := fun e => nomatch e
      egress := fun e => nomatch e
      ingress := fun _ => ⟨number.trans one, fun e => (nomatch e), ?_⟩ } ?_ s t
    · show ((r.slot (!r.currentSlot)).accept r.config.window s).inFlight ≤ _
      rw [inFlight]
      exact room
    · rw [keyNumber]
      exact runs.numbers present
  next switches =>
    have next : (r.slot k).role ≠ .next := fun e => switches (beq_iff_eq.mpr e)
    exact h.setSlot hs role keyNumber number (by rw [ingress]; exact ok.accepted present next _ s)

theorem Record.accepting_follows : (r.windowed k s).Follows Slot.Carries (r.accepting k s t) := by
  have rule := slotRule_carries
  unfold Record.accepting
  split
  next switches =>
    have next : (r.slot k).role = .next := beq_iff_eq.mp switches
    obtain ⟨running, beside⟩ := Record.next_slot h next
    have same : (r.windowed k s).currentSlot = r.currentSlot := Record.setSlot_currentSlot ..
    have current : (r.windowed k s).currentPosition.role ≠ .absent := by
      unfold Record.currentPosition
      rw [same, (r.windowed_slot k s _).1]
      exact (h.runs running).present
    have other : (r.windowed k s).otherPosition.role = .next := by
      unfold Record.otherPosition
      rw [same, ← beside, (r.windowed_slot k s _).1, next]
    exact Record.follows_ingressSwitch rule t s (fun _ => Slot.carries_role (Slot.ne_erased_of_role current) fun e => nomatch e)
      (Slot.carries_role (Slot.ne_erased_of_role (by rw [other]; decide)) fun _ => other)
  next => exact Record.follows_refl rule _

/-- What the answer to a commit leaves of a record follows on from the record with its window taken care of (R122). -/
theorem Record.answerCommit_follows (a : CommitAnswer) :
    ∃ q : Record, q.config.kind = r.config.kind ∧ q.queuedFrames = r.queuedFrames ∧
      (∀ j, (q.slot j).role = (r.slot j).role ∧ (q.slot j).inFlight = (r.slot j).inFlight ∧ (q.slot j).key = (r.slot j).key ∧
        (q.slot j).salt = (r.slot j).salt ∧ (q.slot j).nextSequence = (r.slot j).nextSequence) ∧
      q.Follows Slot.Carries (r.answerCommit a k s n t) := by
  have rule := slotRule_carries
  have counted (c : RecordCounters) : ∃ q : Record, q.config.kind = r.config.kind ∧ q.queuedFrames = r.queuedFrames ∧
      (∀ j, (q.slot j).role = (r.slot j).role ∧ (q.slot j).inFlight = (r.slot j).inFlight ∧ (q.slot j).key = (r.slot j).key ∧
        (q.slot j).salt = (r.slot j).salt ∧ (q.slot j).nextSequence = (r.slot j).nextSequence) ∧
      q.Follows Slot.Carries { r with counters := c } :=
    ⟨r, rfl, rfl, fun _ => ⟨rfl, rfl, rfl, rfl, rfl⟩, Record.follows_fields rule rfl⟩
  cases a with
  | accepted =>
    refine ⟨r.windowed k s, by unfold Record.windowed; rw [Record.setSlot_config], Record.setSlot_queuedFrames .., r.windowed_slot k s, ?_⟩
    have credited := (Record.accepting_follows k s t h).trans rule (Record.commitCredit_follows k n _)
    exact credited.trans rule (Record.follows_fields rule rfl)
  | retired => exact counted r.counters
  | noKey | late | replay => exact counted _

theorem Record.ok_answerCommit (ingress : r.config.kind = .ingress) (held : 0 < (r.slot k).inFlight) (a : CommitAnswer) :
    (r.answerCommit a k s n t).Ok := by
  have hs := Record.present_of_held h held
  have present := Record.slot_present_of_held h held
  cases a with
  | accepted =>
    have accepting := Record.ok_accepting k s t h ingress present hs
    have kept : (r.accepting k s t).state ≠ .free := by
      have follows := Record.accepting_follows k s t h
      rw [Ne, follows.free_iff]
      exact fun e => hs ((Record.setSlot_state ..).symm.trans e)
    have credited := Record.ok_commitCredit k n accepting kept
    have still : ((r.accepting k s t).commitCredit k n).state ≠ .free := by
      rw [Ne, (Record.commitCredit_follows k n (r.accepting k s t)).free_iff]
      exact kept
    exact Record.ok_counters credited still _
  | retired => exact h
  | noKey | late | replay => exact Record.ok_counters h hs _

theorem Record.ok_commit (ingress : r.config.kind = .ingress) (held : 0 < (r.slot k).inFlight) : (r.commit k s n t).Ok := by
  have present := Record.slot_present_of_held h held
  obtain ⟨q, -, -, slots, follows⟩ := Record.answerCommit_follows k s n t h (r.judgeCommit k s)
  have still : 0 < ((r.answerCommit (r.judgeCommit k s) k s n t).slot k).inFlight := by
    rw [(follows.slots k).inFlight_eq, (slots k).2.1]
    exact held
  exact (Record.ok_endGrant (Record.ok_answerCommit k s n t h ingress held _) still t).freeWhenDrained

theorem Record.commit_counts :
    r.CountsTo (r.commit k s n t) r.queuedFrames (r.heldWithout k) := by
  obtain ⟨q, kind, queued, slots, follows⟩ := Record.answerCommit_follows k s n t h (r.judgeCommit k s)
  have ended := (r.answerCommit (r.judgeCommit k s) k s n t).endGrant_counts k t
  refine Record.CountsTo.freeWhenDrained ⟨ended.queued.trans (follows.queuedFrames.trans queued), fun j => ?_, ?_⟩
  · rw [ended.inFlight]
    unfold Record.heldWithout
    rw [(follows.slots j).inFlight_eq, (slots j).2.1]
  · refine .inl ?_
    rcases ended.kind with same | ⟨none, idle⟩
    · rw [same, follows.config, kind]
    · rw [((r.answerCommit (r.judgeCommit k s) k s n t).endGrant_follows k t).config, Record.setSlot_config, follows.config, kind]

theorem Record.commit_moves (ingress : r.config.kind = .ingress) (j : SlotNo) : (r.slot j).moves ((r.commit k s n t).slot j) := by
  refine Record.slots_moves_freeWhenDrained (fun j => ?_) j
  obtain ⟨q, -, -, slots, follows⟩ := Record.answerCommit_follows k s n t h (r.judgeCommit k s)
  obtain ⟨-, -, key, salt, number⟩ := slots j
  have one : (r.slot j).nextSequence = 1 := ((h.slot j).ingress ingress).1
  have answered := follows.slots j
  have ended := ((r.answerCommit (r.judgeCommit k s) k s n t).endGrant_follows k t).slots j
  have one_answered := answered.one (number.trans one)
  generalize r.answerCommit (r.judgeCommit k s) k s n t = a at answered ended one_answered ⊢
  have lessHeld : (a.setSlot k { a.slot k with inFlight := (a.slot k).inFlight - 1 }).slot j =
      { a.slot j with inFlight := if k = j then (a.slot j).inFlight - 1 else (a.slot j).inFlight } := by
    rw [Record.slot_setSlot]
    by_cases e : k = j
    · rw [if_pos e, if_pos e, e]
    · rw [if_neg e, if_neg e]
  rw [lessHeld] at ended
  rcases ended.keeps with erased | ⟨sameKey, sameSalt⟩
  · exact .inr (.inl erased)
  · have last : (((a.endGrant k t).slot j)).nextSequence = 1 := ended.one one_answered
    rcases answered.keeps with erased | ⟨keyKept, saltKept⟩
    · refine .inr (.inl (Slot.Carries.of_erased ?_))
      have idle : { a.slot j with inFlight := if k = j then (a.slot j).inFlight - 1 else (a.slot j).inFlight } = Slot.erased := by
        rw [erased]
        split <;> rfl
      exact idle ▸ ended
    · exact Slot.moves_same (sameKey.trans (keyKept.trans key)) (sameSalt.trans (saltKept.trans salt)) (last.trans one.symm)

end Commit

end Records

end Sys2Proof.Machine
end

section
/-!
LAWS. What the engines of a lane hold for the records: the frames that wait, the grants, and what an event of a lane may change of them
when the messages that it sends are counted in (sections 1.9, 6.6 and 7.9).
-/

namespace Sys2Proof.Machine

/-! ### The frames that wait at an Egress Engine -/

/-- An entry is QUEUED for a record (R91). -/
def Entry.waitsFor (x : Entry) (i : Nat) : Bool := x.status == .queued && x.disposition == some (.protect i)

/-- The QUEUED entries of a Holding Buffer for a record. -/
def queuedFor (b : List Entry) (i : Nat) : Nat := (b.filter (fun x => x.waitsFor i)).length

/-- An engine's open allocation request is one for a record (R98). -/
def EgressEngine.asking (e : EgressEngine) (i : Nat) : Nat :=
  match e.openRequest with
  | some q => if q.record = i then 1 else 0
  | none => 0

/-- The frames of an engine that wait for a record's grant (R19). -/
def EgressEngine.waiting (e : EgressEngine) (i : Nat) : Nat := queuedFor e.buffer i + e.asking i

theorem State.queuedEntries_eq (s : State) (l : LaneId) (i : Nat) : s.queuedEntries l i = queuedFor (s.lane l).egress.buffer i := rfl

theorem State.queuedAt_eq (s : State) (l : LaneId) (i : Nat) :
    s.queuedAt l i = (s.lane l).egress.waiting i + s.transit.withdrawals.count (l, i) := by
  unfold State.queuedAt EgressEngine.waiting EgressEngine.asking EgressEngine.openRequest
  rw [State.queuedEntries_eq]
  cases (s.lane l).egress.answer <;> cases (s.lane l).egress.request <;> rfl

theorem queuedFor_append (a b : List Entry) (i : Nat) : queuedFor (a ++ b) i = queuedFor a i + queuedFor b i := by
  unfold queuedFor
  rw [List.filter_append, List.length_append]

theorem queuedFor_cons (x : Entry) (b : List Entry) (i : Nat) :
    queuedFor (x :: b) i = (if x.waitsFor i then 1 else 0) + queuedFor b i := by
  unfold queuedFor
  rw [List.filter_cons]
  split
  · rw [List.length_cons, Nat.add_comm]
  · exact (Nat.zero_add _).symm

/-- The withdrawals of some entries are as many as the entries that are PROTECT for the record (R103). -/
theorem count_protectRecords (es : List Entry) (i : Nat) :
    (protectRecords es).count i = (es.filter (fun x => x.disposition == some (.protect i))).length := by
  unfold protectRecords
  induction es with
  | nil => rfl
  | cons x es ih =>
    rw [List.filter_cons, List.filterMap_cons]
    cases hx : x.disposition with
    | none => simpa using ih
    | some d =>
      cases d with
      | bypass => simpa using ih
      | protect j =>
        by_cases e : j = i
        · subst e
          simp [ih]
        · simp [ih, e]

/-- The entries that a buffer keeps and the QUEUED ones that it drops (R103, R104). -/
theorem queuedFor_filter_queued (b : List Entry) (i : Nat) :
    queuedFor (b.filter (fun x => x.status != .queued)) i = 0 ∧
      (protectRecords (b.filter (fun x => x.status == .queued))).count i = queuedFor b i := by
  constructor
  · unfold queuedFor Entry.waitsFor
    rw [List.filter_filter, List.length_eq_zero_iff, List.filter_eq_nil_iff]
    intro x _
    cases x.status <;> simp
  · rw [count_protectRecords, List.filter_filter]
    unfold queuedFor Entry.waitsFor
    congr 1
    refine List.filter_congr fun x _ => ?_
    rw [Bool.and_comm]

/-- Entries that are not QUEUED wait for no record. -/
theorem queuedFor_filter_other (b : List Entry) (i : Nat) (p : Entry → Bool) (h : ∀ x ∈ b, x.status = .queued → p x = true) :
    queuedFor (b.filter p) i = queuedFor b i := by
  unfold queuedFor
  rw [List.filter_filter]
  congr 1
  refine List.filter_congr fun x hx => ?_
  unfold Entry.waitsFor
  cases hs : x.status with
  | queued => simp [h x hx hs]
  | receiving => simp
  | requested => simp

/-! ### Grants -/

/-- The releases of a slot among some. -/
def releasesOf (ms : List ReleaseMsg) (i : Nat) (k : SlotNo) : Nat := (ms.filter (fun m => m.record == i && m.slot == k)).length

/-- The abandons of a slot among some. -/
def abandonsOf (ms : List AbandonMsg) (i : Nat) (k : SlotNo) : Nat := (ms.filter (fun m => m.record == i && m.slot == k)).length

theorem releasesOf_append (a b : List ReleaseMsg) (i : Nat) (k : SlotNo) : releasesOf (a ++ b) i k = releasesOf a i k + releasesOf b i k := by
  unfold releasesOf
  rw [List.filter_append, List.length_append]

theorem abandonsOf_append (a b : List AbandonMsg) (i : Nat) (k : SlotNo) : abandonsOf (a ++ b) i k = abandonsOf a i k + abandonsOf b i k := by
  unfold abandonsOf
  rw [List.filter_append, List.length_append]

theorem releasesOf_one (m : ReleaseMsg) (i : Nat) (k : SlotNo) : releasesOf [m] i k = if m.record = i ∧ m.slot = k then 1 else 0 := by
  unfold releasesOf
  rw [List.filter_cons, List.filter_nil]
  simp only [Bool.and_eq_true, beq_iff_eq]
  split <;> rfl

theorem abandonsOf_one (m : AbandonMsg) (i : Nat) (k : SlotNo) : abandonsOf [m] i k = if m.record = i ∧ m.slot = k then 1 else 0 := by
  unfold abandonsOf
  rw [List.filter_cons, List.filter_nil]
  simp only [Bool.and_eq_true, beq_iff_eq]
  split <;> rfl

/-- The release of a frame stands for the grant that its store held (R36). -/
theorem StoredFrame.releasesOf_release (f : StoredFrame) (o : ReleaseOutcome) (i : Nat) (k : SlotNo) :
    releasesOf (f.release o) i k = (f.grant.map fun g => g.under i k).getD 0 := by
  unfold StoredFrame.release
  cases f.grant with
  | none => rfl
  | some g => exact releasesOf_one _ i k

/-! ### What an event of a lane keeps -/

/-- An Egress Engine after an event: the frames that wait and the grants are as they were, but for the withdrawals and the releases that
the event sends; a request stands exactly while a store is RESERVED. -/
structure EgressKeeps (e e' : EgressEngine) (withdrawn : List Nat) (released : List ReleaseMsg) : Prop where
  request : e.requestOk → e'.requestOk
  waiting : ∀ i, e'.waiting i + withdrawn.count i = e.waiting i
  holds : ∀ i k, e'.holds i k + releasesOf released i k = e.holds i k

/-- The store of a line frame in reception is RECEIVING it (R111). -/
def IngressEngine.receiverOk (g : IngressEngine) : Prop :=
  ∀ j, g.receiver = .receiving (some j) → ∃ z, g.store j = some ⟨.line, z, .receiving⟩

/-- An Ingress Engine after an event: the grants are as they were, but for the abandons that the event sends. -/
structure IngressKeeps (g g' : IngressEngine) (abandoned : List AbandonMsg) : Prop where
  receiver : g.receiverOk → g'.receiverOk
  holds : ∀ i k, g'.holds i k + abandonsOf abandoned i k = g.holds i k

/-- A lane after an event, with the withdrawals, releases and abandons that it sends. -/
structure LaneKeeps (v v' : Lane) (withdrawn : List Nat) (released : List ReleaseMsg) (abandoned : List AbandonMsg) : Prop where
  egress : EgressKeeps v.egress v'.egress withdrawn released
  ingress : IngressKeeps v.ingress v'.ingress abandoned

section Keeps

variable {e e' e'' : EgressEngine} {g g' g'' : IngressEngine} {v v' v'' : Lane}

theorem EgressEngine.asking_of (request : e'.request = e.request) (answer : e'.answer = e.answer) (i : Nat) : e'.asking i = e.asking i := by
  unfold EgressEngine.asking EgressEngine.openRequest
  rw [request, answer]

/-- An event that touches no transmit store and no request of an engine. -/
theorem EgressKeeps.of_buffer {withdrawn : List Nat} (store0 : e'.store0 = e.store0) (store1 : e'.store1 = e.store1)
    (request : e'.request = e.request) (answer : e'.answer = e.answer)
    (queued : ∀ i, queuedFor e'.buffer i + withdrawn.count i = queuedFor e.buffer i) : EgressKeeps e e' withdrawn [] where
  request h := by
    unfold EgressEngine.requestOk at *
    rw [store0, store1, request, answer]
    exact h
  waiting i := by
    have := queued i
    unfold EgressEngine.waiting
    rw [EgressEngine.asking_of request answer]
    omega
  holds i k := by
    rw [EgressEngine.holds_eq, EgressEngine.holds_eq, store0, store1, answer]
    rfl

theorem EgressKeeps.same (buffer : e'.buffer = e.buffer) (store0 : e'.store0 = e.store0) (store1 : e'.store1 = e.store1)
    (request : e'.request = e.request) (answer : e'.answer = e.answer) : EgressKeeps e e' [] [] :=
  .of_buffer store0 store1 request answer fun i => by rw [buffer]; rfl

theorem EgressKeeps.refl (e : EgressEngine) : EgressKeeps e e [] [] := .same rfl rfl rfl rfl rfl

theorem EgressKeeps.trans {w w' : List Nat} {r r' : List ReleaseMsg} (h : EgressKeeps e e' w r) (h' : EgressKeeps e' e'' w' r') :
    EgressKeeps e e'' (w ++ w') (r ++ r') where
  request ok := h'.request (h.request ok)
  waiting i := by
    have := h.waiting i
    have := h'.waiting i
    rw [List.count_append]
    omega
  holds i k := by
    have := h.holds i k
    have := h'.holds i k
    rw [releasesOf_append]
    omega

theorem IngressEngine.holds_same (stores : ∀ j, g'.store j = g.store j) (i : Nat) (k : SlotNo) : g'.holds i k = g.holds i k := by
  rw [IngressEngine.holds_eq, IngressEngine.holds_eq]
  congr 1
  exact List.map_congr_left fun j _ => by rw [stores j]

/-- An event that touches one frame store. -/
theorem IngressKeeps.of_store {abandoned : List AbandonMsg} (j : StoreId) (others : ∀ m, m ≠ j → g'.store m = g.store m)
    (held : ∀ i k, FrameStore.holds (g'.store j) i k + abandonsOf abandoned i k = FrameStore.holds (g.store j) i k)
    (receiver : g.receiverOk → g'.receiverOk) : IngressKeeps g g' abandoned where
  receiver := receiver
  holds i k := by
    have change : g'.holds i k + FrameStore.holds (g.store j) i k = g.holds i k + FrameStore.holds (g'.store j) i k := by
      rw [IngressEngine.holds_eq, IngressEngine.holds_eq]
      exact sum_four_change (f := fun j => FrameStore.holds (g.store j) i k) (g := fun j => FrameStore.holds (g'.store j) i k) j
        fun m hm => by rw [others m hm]
    have := held i k
    omega

theorem IngressKeeps.same (stores : g'.stores = g.stores) (receiver : g'.receiver = g.receiver) : IngressKeeps g g' [] where
  receiver h := by
    intro j hj
    rw [receiver] at hj
    unfold IngressEngine.store
    rw [stores]
    exact h j hj
  holds i k := IngressEngine.holds_same (fun j => by unfold IngressEngine.store; rw [stores]) i k

theorem IngressKeeps.refl (g : IngressEngine) : IngressKeeps g g [] := .same rfl rfl

theorem IngressKeeps.trans {a a' : List AbandonMsg} (h : IngressKeeps g g' a) (h' : IngressKeeps g' g'' a') :
    IngressKeeps g g'' (a ++ a') where
  receiver ok := h'.receiver (h.receiver ok)
  holds i k := by
    have := h.holds i k
    have := h'.holds i k
    rw [abandonsOf_append]
    omega

theorem LaneKeeps.same (egress : v'.egress = v.egress) (ingress : v'.ingress = v.ingress) : LaneKeeps v v' [] [] [] :=
  ⟨by rw [egress]; exact .refl _, by rw [ingress]; exact .refl _⟩

theorem LaneKeeps.trans {w w' : List Nat} {r r' : List ReleaseMsg} {a a' : List AbandonMsg} (h : LaneKeeps v v' w r a)
    (h' : LaneKeeps v' v'' w' r' a') : LaneKeeps v v'' (w ++ w') (r ++ r') (a ++ a') :=
  ⟨h.egress.trans h'.egress, h.ingress.trans h'.ingress⟩

/-- What sends no message may follow. -/
theorem LaneKeeps.andThen {w : List Nat} {r : List ReleaseMsg} {a : List AbandonMsg} (h : LaneKeeps v v' w r a)
    (h' : LaneKeeps v' v'' [] [] []) : LaneKeeps v v'' w r a := by
  have both := h.trans h'
  rw [List.append_nil, List.append_nil, List.append_nil] at both
  exact both

end Keeps

/-! ### Counts of a state -/

section Counts

variable {s t : State}

theorem SameTables.namingEntries (h : SameTables s t) (i : Nat) : t.namingEntries i = s.namingEntries i := by
  have count (es : List FlowEntry) : (es.filter (fun e => e.action == .protect i)).length =
      ((es.map FlowEntry.bare).filter (fun b => b.2 == .protect i)).length := by
    rw [List.filter_map, List.length_map]
    rfl
  unfold State.namingEntries
  rw [count, count, h.flows]

/-- What one lane's change makes of a count over the lanes. -/
theorem sum_lanes_change (f : Lane → Nat) (l : LaneId) (others : ∀ m, m ≠ l → t.lane m = s.lane m) :
    (t.lanes.toList.map f).sum + f (s.lane l) = (s.lanes.toList.map f).sum + f (t.lane l) := by
  rw [State.lanes_toList, State.lanes_toList, List.map_map, List.map_map]
  exact sum_four_change (f := f ∘ s.lane) (g := f ∘ t.lane) l fun m hm => congrArg f (others m hm)

theorem State.egressHeld_eq (s : State) (i : Nat) (k : SlotNo) :
    s.egressHeld i k = (s.lanes.toList.map fun v => v.egress.holds i k).sum + releasesOf s.transit.releases i k := rfl

theorem State.ingressHeld_eq (s : State) (i : Nat) (k : SlotNo) :
    s.ingressHeld i k = (s.lanes.toList.map fun v => v.ingress.holds i k).sum + abandonsOf s.transit.abandons i k := rfl

theorem count_lane_map (l m : LaneId) (w : List Nat) (i : Nat) : (w.map (fun j => (l, j))).count (m, i) = if l = m then w.count i else 0 := by
  by_cases e : l = m
  · subst e
    rw [if_pos rfl]
    exact List.count_map_of_injective w (fun j => (l, j)) (fun a b h => (Prod.mk.inj h).2) i
  · rw [if_neg e, List.count_eq_zero]
    intro mem
    obtain ⟨j, -, hj⟩ := List.mem_map.mp mem
    exact e (Prod.mk.inj hj).1

/-- Counts stay exact where the records, the flows and the enqueues stay, and the engines hold for the records what they held. -/
theorem State.CountsExact.of_held (h : s.CountsExact) (tables : SameTables s t) (enqueues : t.transit.enqueues = s.transit.enqueues)
    (requests : ∀ l, (t.lane l).egress.requestOk) (receivers : ∀ l, (t.lane l).ingress.receiverOk)
    (queued : ∀ l i, t.queuedAt l i = s.queuedAt l i) (egress : ∀ i k, t.egressHeld i k = s.egressHeld i k)
    (ingress : ∀ i k, t.ingressHeld i k = s.ingressHeld i k) : t.CountsExact where
  requests := requests
  receivers := receivers
  queued i := by
    rw [tables.record, enqueues, List.map_congr_left fun l _ => queued l i]
    exact h.queued i
  enqueues l i := by
    rw [enqueues, queued]
    exact h.enqueues l i
  kept l i := by
    rw [enqueues, tables.namingEntries, tables.flowTurn]
    exact h.kept l i
  queuedRoom i := by
    rw [tables.record]
    exact h.queuedRoom i
  waiting i := by
    rw [tables.record]
    exact h.waiting i
  egress i k := by
    rw [tables.record, egress, ingress]
    exact h.egress i k
  ingress i k := by
    rw [tables.record, egress, ingress]
    exact h.ingress i k

/-- Counts stay exact at an event of one lane, with the messages that it sends. -/
theorem State.CountsExact.of_lane (h : s.CountsExact) (tables : SameTables s t) (l : LaneId) {w : List Nat} {r : List ReleaseMsg}
    {a : List AbandonMsg} (others : ∀ m, m ≠ l → t.lane m = s.lane m) (keeps : LaneKeeps (s.lane l) (t.lane l) w r a)
    (enqueues : t.transit.enqueues = s.transit.enqueues)
    (withdrawals : t.transit.withdrawals = s.transit.withdrawals ++ w.map (fun i => (l, i)))
    (releases : t.transit.releases = s.transit.releases ++ r) (abandons : t.transit.abandons = s.transit.abandons ++ a) :
    t.CountsExact := by
  have at_lane (p : Lane → Prop) (hs : ∀ m, p (s.lane m)) (hl : p (s.lane l) → p (t.lane l)) (m : LaneId) : p (t.lane m) := by
    by_cases e : m = l
    · exact e ▸ hl (hs l)
    · rw [others m e]
      exact hs m
  refine h.of_held tables enqueues (at_lane (fun v => v.egress.requestOk) h.requests keeps.egress.request)
    (at_lane (fun v => v.ingress.receiverOk) h.receivers keeps.ingress.receiver) (fun m i => ?_) (fun i k => ?_) fun i k => ?_
  · rw [State.queuedAt_eq, State.queuedAt_eq, withdrawals, List.count_append, count_lane_map]
    by_cases e : m = l
    · subst e
      have := keeps.egress.waiting i
      rw [if_pos rfl]
      omega
    · rw [others m e, if_neg fun e' => e e'.symm]
      omega
  · have change := sum_lanes_change (fun v => v.egress.holds i k) l others
    have := keeps.egress.holds i k
    rw [State.egressHeld_eq, State.egressHeld_eq, releases, releasesOf_append]
    omega
  · have change := sum_lanes_change (fun v => v.ingress.holds i k) l others
    have := keeps.ingress.holds i k
    rw [State.ingressHeld_eq, State.ingressHeld_eq, abandons, abandonsOf_append]
    omega

/-- Counts stay exact where every lane holds what it held and no message is sent. -/
theorem State.CountsExact.of_lanes (h : s.CountsExact) (tables : SameTables s t) (keeps : ∀ l, LaneKeeps (s.lane l) (t.lane l) [] [] [])
    (transit : t.transit = s.transit) : t.CountsExact := by
  have sum (f : Lane → Nat) (same : ∀ l, f (t.lane l) = f (s.lane l)) : (t.lanes.toList.map f).sum = (s.lanes.toList.map f).sum := by
    rw [State.lanes_toList, State.lanes_toList, List.map_map, List.map_map]
    exact congrArg List.sum (List.map_congr_left fun l _ => same l)
  refine h.of_held tables (by rw [transit]) (fun l => (keeps l).egress.request (h.requests l))
    (fun l => (keeps l).ingress.receiver (h.receivers l)) (fun l i => ?_) (fun i k => ?_) fun i k => ?_
  · rw [State.queuedAt_eq, State.queuedAt_eq, transit]
    exact congrArg (· + _) ((keeps l).egress.waiting i)
  · rw [State.egressHeld_eq, State.egressHeld_eq, transit, sum _ fun l => (keeps l).egress.holds i k]
  · rw [State.ingressHeld_eq, State.ingressHeld_eq, transit, sum _ fun l => (keeps l).ingress.holds i k]

/-- Counts stay exact at a command or a tick that moves records alone. -/
theorem State.CountsExact.of_quiet (h : s.CountsExact) (q : Quiet s t) (ok : ∀ i, (s.record i).Ok) : t.CountsExact := by
  have counts (i : Nat) : (s.record i).SameCounts (t.record i) := by
    rcases q.records i with same | ⟨r, moved, same⟩
    · rw [same]
      exact .refl _
    · rw [same]
      exact (moved.slots (ok i)).counts
  have lane (l : LaneId) : t.lane l = s.lane l := State.lane_congr q.lanes l
  have queuedAt (l : LaneId) (i : Nat) : t.queuedAt l i = s.queuedAt l i := by
    rw [State.queuedAt_eq, State.queuedAt_eq, lane, q.withdrawals]
  have egressHeld (i : Nat) (k : SlotNo) : t.egressHeld i k = s.egressHeld i k := by
    rw [State.egressHeld_eq, State.egressHeld_eq, q.lanes, q.releases]
  have ingressHeld (i : Nat) (k : SlotNo) : t.ingressHeld i k = s.ingressHeld i k := by
    rw [State.ingressHeld_eq, State.ingressHeld_eq, q.lanes, q.abandons]
  have held (i : Nat) (k : SlotNo) : ((s.record i).slot k).inFlight = s.egressHeld i k + s.ingressHeld i k := by
    cases kind : (s.record i).config.kind with
    | egress =>
      have := h.egress i k kind
      omega
    | ingress =>
      have := h.ingress i k kind
      omega
  have idle {i : Nat} (differs : (t.record i).config.kind ≠ (s.record i).config.kind) : (s.record i).queuedFrames = 0 ∧
      ∀ k, ((s.record i).slot k).inFlight = 0 := (counts i).kind.resolve_left differs
  refine ⟨fun l => by rw [lane]; exact h.requests l, fun l => by rw [lane]; exact h.receivers l, fun i => ?_, fun l i => ?_, fun l i => ?_,
    fun i => ?_, fun i kind => ?_, fun i k kind => ?_, fun i k kind => ?_⟩
  · rw [(counts i).queued, q.enqueues, List.map_congr_left fun l _ => queuedAt l i]
    exact h.queued i
  · rw [q.enqueues, queuedAt]
    exact h.enqueues l i
  · have naming : t.namingEntries i = s.namingEntries i := by
      unfold State.namingEntries
      rw [q.flowMap]
    rw [q.enqueues, naming, q.flowTurn]
    exact h.kept l i
  · rw [(counts i).queued]
    exact h.queuedRoom i
  · rw [(counts i).queued]
    by_cases same : (t.record i).config.kind = (s.record i).config.kind
    · exact h.waiting i (same.symm.trans kind)
    · exact (idle same).1
  · rw [(counts i).inFlight, egressHeld, ingressHeld]
    by_cases same : (t.record i).config.kind = (s.record i).config.kind
    · exact h.egress i k (same.symm.trans kind)
    · have := (idle same).2 k
      have := held i k
      omega
  · rw [(counts i).inFlight, egressHeld, ingressHeld]
    by_cases same : (t.record i).config.kind = (s.record i).config.kind
    · exact h.ingress i k (same.symm.trans kind)
    · have := (idle same).2 k
      have := held i k
      omega

end Counts

end Sys2Proof.Machine
end

section
/-!
PROOFS. The events of the lanes keep what the engines hold for the records (chapters 6 and 7).
-/

namespace Sys2Proof.Machine

/-! ### Entries -/

/-- Entries given a new form that waits for a record as they did. -/
theorem queuedFor_map (b : List Entry) (f : Entry → Entry) (i : Nat) (h : ∀ x, (f x).waitsFor i = x.waitsFor i) :
    queuedFor (b.map f) i = queuedFor b i := by
  unfold queuedFor
  rw [List.filter_map, List.length_map]
  congr 1
  exact List.filter_congr fun x _ => h x

theorem Entry.waitsFor_of_not_queued {x : Entry} (h : x.status ≠ .queued) (i : Nat) : x.waitsFor i = false := by
  unfold Entry.waitsFor
  rw [beq_eq_false_iff_ne.mpr h]
  rfl

/-- The RECEIVING entries given a form that waits for no record (R92, R95). -/
theorem queuedFor_setArriving (e : EgressEngine) (f : Entry → Entry) (i : Nat) (h : ∀ x, x.status = .receiving → (f x).waitsFor i = false) :
    queuedFor (e.setArriving f).buffer i = queuedFor e.buffer i := by
  refine queuedFor_map _ _ i fun x => ?_
  split
  next receiving => rw [h x receiving, Entry.waitsFor_of_not_queued (by rw [receiving]; decide)]
  next => rfl

theorem queuedFor_dropArriving (e : EgressEngine) (i : Nat) : queuedFor e.dropArriving.buffer i = queuedFor e.buffer i :=
  queuedFor_filter_other _ i _ fun x _ queued => by rw [queued]; rfl

section Lanes

variable {v v' : Lane} {e : EgressEngine} {g g' : IngressEngine}

/-! ### The Holding Buffer -/

theorem EgressKeeps.withPause (e : EgressEngine) (a : Bool) (r w : Option Nat) : EgressKeeps e (e.withPause a r w) [] [] :=
  .same rfl rfl rfl rfl rfl

/-- A change of the Holding Buffer, with its occupancy event (R105). -/
theorem LaneKeeps.afterBuffer {w : List Nat} {r : List ReleaseMsg} (h : EgressKeeps v.egress e w r) :
    LaneKeeps v (v.afterBuffer e) w r [] := by
  obtain ⟨a, refresh, waiting, shape⟩ := v.afterBuffer_shape e
  rw [shape]
  have paused := h.trans (.withPause e a refresh waiting)
  rw [List.append_nil, List.append_nil] at paused
  exact ⟨paused, .refl _⟩

/-- A change of the Holding Buffer that drops or adds no QUEUED entry. -/
theorem LaneKeeps.ofBuffer {buffer : List Entry} (queued : ∀ i, queuedFor buffer i = queuedFor v.egress.buffer i) :
    LaneKeeps v (v.afterBuffer { v.egress with buffer := buffer }) [] [] [] :=
  .afterBuffer (.of_buffer rfl rfl rfl rfl queued)

theorem Lane.dropArriving_keeps (v : Lane) : LaneKeeps v (v.afterBuffer v.egress.dropArriving) [] [] [] :=
  .ofBuffer (queuedFor_dropArriving v.egress)

theorem Lane.octetArrives_keeps (v : Lane) (first : Bool) (b : Byte) : LaneKeeps v (v.octetArrives first b) [] [] [] := by
  have dropped := v.dropArriving_keeps
  have full : LaneKeeps v v.bufferFull [] [] [] := ⟨dropped.egress, dropped.ingress⟩
  have stays : LaneKeeps v v [] [] [] := .same rfl rfl
  unfold Lane.octetArrives
  split
  · split
    · split
      · exact full
      · exact .ofBuffer fun i => queuedFor_append ..
    · exact stays
  · split
    · exact stays
    · split
      · exact full
      · exact .ofBuffer fun i => queuedFor_setArriving _ _ i fun x receiving =>
          Entry.waitsFor_of_not_queued (by dsimp only; rw [receiving]; decide) i

theorem Lane.queueOutbound_keeps (v : Lane) : LaneKeeps v (v.queueOutbound .bypass) [] [] [] :=
  ⟨.of_buffer rfl rfl rfl rfl fun i => queuedFor_setArriving _ _ i fun _ _ => rfl, .refl _⟩

theorem Lane.dropOutbound_keeps (v : Lane) (why : OutCounter) : LaneKeeps v (v.dropOutbound why) [] [] [] :=
  have dropped := v.dropArriving_keeps
  ⟨dropped.egress, dropped.ingress⟩

theorem Lane.consumeSystemControl_keeps (v : Lane) (f : Frame) : LaneKeeps v (v.consumeSystemControl f) [] [] [] := by
  have dropped := v.dropArriving_keeps
  unfold Lane.consumeSystemControl
  dsimp only
  split
  · exact ⟨dropped.egress, dropped.ingress.trans (.same rfl rfl)⟩
  · exact dropped

theorem Lane.flush_keeps (v : Lane) : LaneKeeps v v.flush (protectRecords v.egress.queuedEntries) [] [] := by
  have flushed : LaneKeeps v (v.afterBuffer { v.egress with buffer := v.egress.buffer.filter (fun x => x.status != .queued) })
      (protectRecords v.egress.queuedEntries) [] [] := .afterBuffer (.of_buffer rfl rfl rfl rfl fun i => by
    obtain ⟨left, dropped⟩ := queuedFor_filter_queued v.egress.buffer i
    exact (congrArg₂ (· + ·) left dropped).trans (Nat.zero_add _))
  exact ⟨flushed.egress, flushed.ingress⟩

theorem Lane.quietInOff_keeps (v : Lane) : LaneKeeps v v.quietInOff [] [] [] := by
  unfold Lane.quietInOff
  split
  · exact ⟨.same rfl rfl rfl rfl rfl, .refl _⟩
  · exact .same rfl rfl

theorem Lane.changeMode_keeps (v : Lane) (m : Mode) : LaneKeeps v (v.changeMode m) v.flushRecords [] [] := by
  unfold Lane.changeMode Lane.flushRecords
  have moded : LaneKeeps v (v.withMode m) [] [] [] := .same rfl rfl
  split
  · exact (moded.trans (v.withMode m).flush_keeps).andThen (Lane.quietInOff_keeps _)
  · exact moded.trans (Lane.quietInOff_keeps _)

/-! ### Transmit stores -/

theorem EgressEngine.setStore_holds (e : EgressEngine) (k : SlotNo) (t : TransmitStore) (i : Nat) (j : SlotNo) :
    (e.setStore k t).holds i j + (e.store k).holds i j = e.holds i j + t.holds i j := by
  rw [EgressEngine.holds_eq, EgressEngine.holds_eq]
  unfold EgressEngine.setStore EgressEngine.store
  cases k <;> simp only [Bool.false_eq_true, if_false, if_true] <;> omega

theorem EgressEngine.setStore_fields (e : EgressEngine) (k : SlotNo) (t : TransmitStore) : (e.setStore k t).buffer = e.buffer ∧
    (e.setStore k t).request = e.request ∧ (e.setStore k t).answer = e.answer := by
  unfold EgressEngine.setStore
  split <;> exact ⟨rfl, rfl, rfl⟩

/-- How many stores are RESERVED. -/
def EgressEngine.reserved (e : EgressEngine) : Nat := (if e.store0.isReserved then 1 else 0) + (if e.store1.isReserved then 1 else 0)

theorem EgressEngine.requestOk_iff (e : EgressEngine) : e.requestOk ↔ (e.answer.isSome = true → e.request.isSome = true) ∧
    e.reserved = if e.request.isSome then 1 else 0 := Iff.rfl

theorem EgressEngine.setStore_reserved (e : EgressEngine) (k : SlotNo) (t : TransmitStore) :
    (e.setStore k t).reserved + (if (e.store k).isReserved then 1 else 0) = e.reserved + (if t.isReserved then 1 else 0) := by
  unfold EgressEngine.reserved EgressEngine.setStore EgressEngine.store
  cases k <;> simp only [Bool.false_eq_true, if_false, if_true] <;> omega

/-- A transmit store that takes a frame or gives one up, with the releases sent. -/
theorem EgressKeeps.of_setStore {k : SlotNo} {t : TransmitStore} {r : List ReleaseMsg} (reserved : t.isReserved = (e.store k).isReserved)
    (held : ∀ i j, t.holds i j + releasesOf r i j = (e.store k).holds i j) : EgressKeeps e (e.setStore k t) [] r := by
  obtain ⟨buffer, request, answer⟩ := e.setStore_fields k t
  refine ⟨fun ok => ?_, fun i => ?_, fun i j => ?_⟩
  · rw [EgressEngine.requestOk_iff] at ok ⊢
    have count := e.setStore_reserved k t
    rw [reserved] at count
    rw [request, answer]
    exact ⟨ok.1, (Nat.add_right_cancel count).trans ok.2⟩
  · unfold EgressEngine.waiting
    rw [buffer, EgressEngine.asking_of request answer]
    rfl
  · have := e.setStore_holds k t i j
    have := held i j
    omega

theorem EgressEngine.sendingStore_eq {k : SlotNo} {f : StoredFrame} (h : e.sendingStore = some (k, f)) : e.store k = .sending f := by
  unfold EgressEngine.sendingStore at h
  unfold EgressEngine.store
  split at h
  · cases h
    assumption
  · cases h
    assumption
  · cases h

theorem EgressEngine.oldestHeld_eq {k : SlotNo} {f : StoredFrame} (h : e.oldestHeld = some (k, f)) : e.store k = .held f := by
  unfold EgressEngine.oldestHeld at h
  unfold EgressEngine.store
  split at h
  · split at h <;> cases h <;> assumption
  · cases h
    assumption
  · cases h
    assumption
  · cases h

theorem EgressEngine.reservedStore_eq {k : SlotNo} {d : Destination} (h : e.reservedStore = some (k, d)) : e.store k = .reserved d := by
  unfold EgressEngine.reservedStore at h
  unfold EgressEngine.store
  split at h
  · cases h
    assumption
  · cases h
    assumption
  · cases h

theorem EgressEngine.freeStore_eq {k : SlotNo} (h : e.freeStore = some k) : e.store k = .free := by
  unfold EgressEngine.freeStore at h
  unfold EgressEngine.store
  split_ifs at h with h0 h1
  · cases h
    exact h0
  · cases h
    exact h1

/-- The frame that a store sends was the one it held (R101). -/
theorem EgressKeeps.of_sending {k : SlotNo} {f : StoredFrame} (held : e.oldestHeld = some (k, f)) :
    EgressKeeps e (e.setStore k (.sending f)) [] [] := by
  have store := EgressEngine.oldestHeld_eq held
  exact .of_setStore (by rw [store]; rfl) fun i j => by rw [store]; rfl

/-! ### Frame stores -/

/-- A frame store holds no grant whose commit or abandon is still to come. -/
def FrameStore.idle (x : Option FrameStore) : Prop := ∀ i k, FrameStore.holds x i k = 0

theorem FrameStore.idle_of_openGrant {f : FrameStore} (h : f.openGrant = none) : FrameStore.idle (some f) := fun i k => by
  unfold FrameStore.holds
  rw [Option.bind_some, h]

theorem FrameStore.holds_of_openGrant {f : FrameStore} {grant : IngressGrant} (h : f.openGrant = some grant) (i : Nat) (k : SlotNo) :
    FrameStore.holds (some f) i k = if grant.record = i ∧ grant.slot = k then 1 else 0 := by
  unfold FrameStore.holds
  rw [Option.bind_some, h]

theorem IngressEngine.store_setStore (g : IngressEngine) (j m : StoreId) (f : FrameStore) :
    (g.setStore j f).store m = if j = m then some f else g.store m := vget_vput ..

theorem IngressEngine.store_claim (g : IngressEngine) (j m : StoreId) (source : Source) :
    (g.claim j source).store m = if j = m then some ⟨source, false, .receiving⟩ else g.store m := vget_vput ..

/-- The receiver's store stays RECEIVING where another one changes. -/
theorem IngressEngine.receiverOk_of_others {j : StoreId} (receiver : g'.receiver = g.receiver) (others : ∀ m, m ≠ j → g'.store m = g.store m)
    (away : g.receiver ≠ .receiving (some j)) (ok : g.receiverOk) : g'.receiverOk := fun m hm => by
  rw [receiver] at hm
  have differs : m ≠ j := fun e => away (e ▸ hm)
  rw [others m differs]
  exact ok m hm

/-- One frame store changed that is not the receiver's, with the abandons sent. -/
theorem IngressKeeps.of_change {j : StoreId} {a : List AbandonMsg} (receiver : g'.receiver = g.receiver)
    (others : ∀ m, m ≠ j → g'.store m = g.store m) (away : g.receiverOk → g.receiver ≠ .receiving (some j))
    (held : ∀ i k, FrameStore.holds (g'.store j) i k + abandonsOf a i k = FrameStore.holds (g.store j) i k) : IngressKeeps g g' a :=
  .of_store j others held fun ok => IngressEngine.receiverOk_of_others receiver others (away ok) ok

/-- A store that is not RECEIVING is not the receiver's. -/
theorem IngressEngine.away_of_status {j : StoreId} {f : FrameStore} (store : g.store j = some f) (status : f.status ≠ .receiving)
    (ok : g.receiverOk) : g.receiver ≠ .receiving (some j) := fun e => by
  obtain ⟨z, h⟩ := ok j e
  rw [store] at h
  cases h
  exact status rfl

theorem IngressKeeps.free {j : StoreId} {a : List AbandonMsg} (away : g.receiverOk → g.receiver ≠ .receiving (some j))
    (held : ∀ i k, abandonsOf a i k = FrameStore.holds (g.store j) i k) : IngressKeeps g (g.freeStore j) a :=
  .of_change (j := j) rfl (fun m hm => by rw [IngressEngine.store_freeStore, if_neg hm.symm]) away fun i k => by
    rw [IngressEngine.store_freeStore, if_pos rfl, ← held i k]
    exact Nat.zero_add _

theorem IngressKeeps.set {j : StoreId} {f : FrameStore} (away : g.receiverOk → g.receiver ≠ .receiving (some j))
    (held : ∀ i k, FrameStore.holds (some f) i k = FrameStore.holds (g.store j) i k) : IngressKeeps g (g.setStore j f) [] :=
  .of_change (j := j) rfl (fun m hm => by rw [IngressEngine.store_setStore, if_neg hm.symm]) away fun i k => by
    rw [IngressEngine.store_setStore, if_pos rfl, ← held i k]
    rfl

/-! ### Queueing for delivery -/

theorem IngressEngine.readyFrame_eq {j : StoreId} {f : Frame} (h : g.readyFrame j = some f) :
    ∃ source z grant, g.store j = some ⟨source, z, .ready f grant⟩ := by
  unfold IngressEngine.readyFrame at h
  split at h
  next z source grant store =>
    cases h
    exact ⟨_, _, _, store⟩
  next => cases h

theorem Lane.queueReady_keeps {k : StoreId} {f : Frame} (ready : v.ingress.readyFrame k = some f) :
    LaneKeeps v (v.queueReady k f) [] [] [] := by
  obtain ⟨source, z, grant, store⟩ := IngressEngine.readyFrame_eq ready
  have freed : IngressKeeps v.ingress (v.ingress.freeStore k) [] :=
    .free (IngressEngine.away_of_status store fun e => nomatch e) fun i j => by rw [store]; rfl
  unfold Lane.queueReady
  dsimp only
  split
  · exact ⟨.refl _, freed.trans (.same rfl rfl)⟩
  · exact ⟨.refl _, freed⟩

theorem Lane.queueRun_keeps (v : Lane) (ks : List StoreId) : LaneKeeps v (v.queueRun ks) [] [] [] := by
  induction ks generalizing v with
  | nil => exact .same rfl rfl
  | cons k ks ih =>
    unfold Lane.queueRun
    split
    next ready => exact (Lane.queueReady_keeps ready).trans (ih _)
    next => exact .same rfl rfl

theorem LaneKeeps.queueDelivery {w : List Nat} {r : List ReleaseMsg} {a : List AbandonMsg} (h : LaneKeeps v v' w r a) :
    LaneKeeps v v'.queueDelivery w r a := h.andThen (v'.queueRun_keeps v'.ingress.ages)

/-! ### Reception -/

/-- The store of a frame whose reception ends, if it has one, holds no grant and is not the receiver's. -/
def Lane.ending (v : Lane) (store : Option StoreId) : Prop :=
  ∀ k, store = some k → FrameStore.idle (v.ingress.store k) ∧ v.ingress.receiver ≠ .receiving (some k)

section Reception

variable {store : Option StoreId} (h : v.ending store)

include h

theorem Lane.dropInbound_keeps (why : InCounter) : LaneKeeps v (v.dropInbound store why) [] [] [] := by
  unfold Lane.dropInbound
  split
  next k =>
    obtain ⟨idle, away⟩ := h k rfl
    exact ⟨.refl _, .free (fun _ => away) fun i j => (idle i j).symm⟩
  next => exact .same rfl rfl

theorem Lane.setStatus_keeps {source : Source} {st : StoreStatus} (idle : FrameStore.idle (some ⟨source, false, st⟩)) :
    LaneKeeps v (v.setStatus store source st) [] [] [] := by
  unfold Lane.setStatus
  split
  next k =>
    obtain ⟨none, away⟩ := h k rfl
    exact ⟨.refl _, .set (fun _ => away) fun i j => (idle i j).trans (none i j).symm⟩
  next => exact .same rfl rfl

theorem Lane.consumeLineControl_keeps (f : Frame) : LaneKeeps v (v.consumeLineControl store f) [] [] [] := by
  have handed {u : Lane} (q : Nat) (keeps : LaneKeeps v u [] [] []) :
      LaneKeeps v (u.withEgress { u.egress with indications := u.egress.indications ++ [q] }) [] [] [] :=
    keeps.trans ⟨.same rfl rfl rfl rfl rfl, .refl _⟩
  unfold Lane.consumeLineControl
  dsimp only
  cases store with
  | none =>
    have stays : LaneKeeps v v [] [] [] := .same rfl rfl
    split
    · exact handed _ stays
    · exact stays
  | some k =>
    obtain ⟨idle, away⟩ := h k rfl
    have freed : LaneKeeps v (v.withIngress (v.ingress.freeStore k)) [] [] [] :=
      ⟨.refl _, .free (fun _ => away) fun i j => (idle i j).symm⟩
    split
    · exact handed _ freed
    · exact freed

theorem Lane.disposeInbound_keeps (envelopeType : BitVec 16) (source : Source) (f : Frame) :
    LaneKeeps v (v.disposeInbound envelopeType store source f) [] [] [] := by
  have drop := Lane.dropInbound_keeps h
  have ready := Lane.setStatus_keeps h (source := source) (FrameStore.idle_of_openGrant (f := ⟨source, false, .ready f none⟩) rfl)
  unfold Lane.disposeInbound
  repeat' split
  · exact drop _
  · exact drop _
  · exact drop _
  · exact ready
  · unfold Lane.parseInbound
    split
    · exact drop _
    · exact drop _
    next fields _ =>
      exact Lane.setStatus_keeps h (FrameStore.idle_of_openGrant (f := ⟨source, false, .lookup f fields none⟩) rfl)
  · exact ready
  · exact drop _

theorem Lane.completeInbound_keeps (envelopeType : BitVec 16) (source : Source) (f : Frame) :
    LaneKeeps v (v.completeInbound envelopeType store source f) [] [] [] := by
  refine LaneKeeps.queueDelivery ?_
  repeat' split
  iterate 3 exact Lane.dropInbound_keeps h _
  · exact Lane.consumeLineControl_keeps h f
  · exact Lane.disposeInbound_keeps h envelopeType source f

end Reception

/-- The receiver's store, once the receiver is idle (R112). -/
theorem Lane.ending_of_receiver (ok : v.ingress.receiverOk) {store : Option StoreId} (receiving : v.ingress.receiver = .receiving store) :
    (v.withIngress { v.ingress with receiver := .idle }).ending store := by
  rintro k rfl
  obtain ⟨z, held⟩ := ok k receiving
  refine ⟨?_, fun e => nomatch e⟩
  have same : (v.withIngress { v.ingress with receiver := .idle }).ingress.store k = some ⟨.line, z, .receiving⟩ := held
  rw [same]
  exact FrameStore.idle_of_openGrant rfl

theorem Lane.idle_receiver_keeps (v : Lane) : LaneKeeps v (v.withIngress { v.ingress with receiver := .idle }) [] [] [] where
  egress := .refl _
  ingress := { receiver := fun _ _ e => (nomatch e), holds := fun _ _ => rfl }

theorem Lane.completeLine_keeps (ok : v.ingress.receiverOk) (envelopeType : BitVec 16) {store : Option StoreId} (f : Frame)
    (receiving : v.ingress.receiver = .receiving store) : LaneKeeps v (v.completeLine envelopeType store f) [] [] [] :=
  v.idle_receiver_keeps.trans (Lane.completeInbound_keeps (Lane.ending_of_receiver ok receiving) envelopeType .line f)

theorem Lane.ingressLineDown_keeps (ok : v.ingress.receiverOk) (arrived : Nat) : LaneKeeps v (v.ingressLineDown arrived) [] [] [] := by
  unfold Lane.ingressLineDown
  split
  · exact .same rfl rfl
  next store receiving =>
    exact LaneKeeps.queueDelivery (v.idle_receiver_keeps.trans (Lane.dropInbound_keeps (Lane.ending_of_receiver ok receiving) _))

theorem IngressEngine.findFree_eq {j : StoreId} (h : g.findFree = some j) : g.store j = none := by
  have found := List.find?_some h
  exact Option.isNone_iff_eq_none.mp found

theorem IngressEngine.loopStore_eq {j : StoreId} (h : g.loopStore = some j) : ∃ z, g.store j = some ⟨.loop, z, .receiving⟩ := by
  unfold IngressEngine.loopStore at h
  have found := List.find?_some h
  exact (loopReceiving_iff _).mp found

theorem IngressKeeps.claim {j : StoreId} (free : g.store j = none) (source : Source) : IngressKeeps g (g.claim j source) [] :=
  .of_change (j := j) rfl (fun m hm => by rw [IngressEngine.store_claim, if_neg hm.symm])
    (fun ok e => by
      obtain ⟨z, held⟩ := ok j e
      rw [free] at held
      cases held) fun i k => by
    rw [IngressEngine.store_claim, if_pos rfl, free]
    rfl

theorem Lane.startLineFrame_keeps (v : Lane) : LaneKeeps v v.startLineFrame [] [] [] := by
  have heard : LaneKeeps v (v.withIngress { v.ingress with receiver := .receiving none }) [] [] [] :=
    ⟨.refl _, { receiver := fun _ _ e => (nomatch e), holds := fun _ _ => rfl }⟩
  unfold Lane.startLineFrame
  split
  next j free =>
    have store := IngressEngine.findFree_eq free
    split
    · have claimed : IngressKeeps v.ingress (v.ingress.claim j .line) [] := .claim store .line
      refine ⟨.refl _, { receiver := fun _ m hm => ?_, holds := claimed.holds }⟩
      cases hm
      refine ⟨false, ?_⟩
      show (v.ingress.claim j .line).store j = _
      rw [IngressEngine.store_claim, if_pos rfl]
    · exact heard
  next => exact heard

theorem Lane.beginLoop_keeps (v : Lane) : LaneKeeps v v.beginLoop [] [] [] := by
  unfold Lane.beginLoop
  split
  · exact .same rfl rfl
  next k f j ready =>
    unfold Lane.loopReady at ready
    split at ready
    next held free _ =>
      split at ready
      · cases ready
        exact ⟨.of_sending held, .claim (IngressEngine.findFree_eq free) .loop⟩
      · cases ready
    next => cases ready

theorem Lane.beginTransmission_keeps (v : Lane) : LaneKeeps v v.beginTransmission [] [] [] := by
  have stays : LaneKeeps v v [] [] [] := .same rfl rfl
  unfold Lane.beginTransmission
  split
  next held =>
    split
    · split
      · exact stays
      · exact ⟨.of_sending held, .refl _⟩
    · exact v.beginLoop_keeps
  next => exact stays

/-! ### Answers at a frame store -/

section Answers

variable {k : StoreId} {f : FrameStore} {octets : Frame} {h : EnvelopeFields} {grant : IngressGrant}

theorem FrameStore.ending_of_status (ok : v.ingress.receiverOk) (store : v.ingress.store k = some f) (status : f.status ≠ .receiving)
    (idle : f.openGrant = none) : v.ending (some k) := by
  rintro j ⟨⟩
  rw [store]
  exact ⟨FrameStore.idle_of_openGrant idle, IngressEngine.away_of_status store status ok⟩

/-- A frame with a grant leaves its store: an abandon is sent for it (R121, R130). -/
theorem Lane.dropGranted_keeps (store : v.ingress.store k = some f) (status : f.status ≠ .receiving) (held : f.openGrant = some grant)
    (why : InCounter) (reason : AbandonReason) :
    LaneKeeps v (v.dropInbound (some k) why) [] [] [{ record := grant.record, slot := grant.slot, reason := reason }] := by
  refine ⟨.refl _, IngressKeeps.free (IngressEngine.away_of_status store status) fun i j => ?_⟩
  rw [store, FrameStore.holds_of_openGrant held, abandonsOf_one]

theorem Lane.setGranted_keeps (store : v.ingress.store k = some f) (status : f.status ≠ .receiving) {f' : FrameStore}
    (same : f'.openGrant = f.openGrant) : LaneKeeps v (v.withIngress (v.ingress.setStore k f')) [] [] [] := by
  refine ⟨.refl _, IngressKeeps.set (IngressEngine.away_of_status store status) fun i j => ?_⟩
  rw [store]
  unfold FrameStore.holds
  rw [Option.bind_some, Option.bind_some, same]

theorem Lane.takeLookupAnswer_keeps (ok : v.ingress.receiverOk) (store : v.ingress.store k = some f) {a : LookupAnswer}
    (status : f.status = .lookup octets h (some a)) :
    LaneKeeps v (v.takeLookupAnswer k f octets h a) [] [] (a.abandons f.cancelled) := by
  have busy : f.status ≠ .receiving := by rw [status]; exact fun e => nomatch e
  refine LaneKeeps.queueDelivery ?_
  cases a with
  | refused why =>
    exact Lane.dropInbound_keeps (FrameStore.ending_of_status ok store busy (by unfold FrameStore.openGrant; rw [status])) _
  | granted g =>
    have held : f.openGrant = some g := by unfold FrameStore.openGrant; rw [status]
    unfold LookupAnswer.abandons
    dsimp only
    split
    · exact Lane.dropGranted_keeps store busy held _ _
    · exact Lane.setGranted_keeps store busy (held.symm ▸ rfl)

theorem Lane.takeVerification_keeps (store : v.ingress.store k = some f) (status : f.status = .opening octets h grant) :
    LaneKeeps v (v.takeVerification k f octets h grant) [] [] (verificationAbandons octets h grant) := by
  have busy : f.status ≠ .receiving := by rw [status]; exact fun e => nomatch e
  have held : f.openGrant = some grant := by unfold FrameStore.openGrant; rw [status]
  refine LaneKeeps.queueDelivery ?_
  unfold verificationAbandons
  cases openFrame grant.key grant.salt h octets with
  | some plaintext => exact Lane.setGranted_keeps store busy (held.symm ▸ rfl)
  | none => exact Lane.dropGranted_keeps store busy held _ _

theorem Lane.takeCommitAnswer_keeps (ok : v.ingress.receiverOk) (store : v.ingress.store k = some f) {plaintext : List Byte}
    {a : CommitAnswer} (status : f.status = .committing octets h grant plaintext (some a)) :
    LaneKeeps v (v.takeCommitAnswer k f octets plaintext grant a) [] [] [] := by
  have busy : f.status ≠ .receiving := by rw [status]; exact fun e => nomatch e
  have idle : f.openGrant = none := by unfold FrameStore.openGrant; rw [status]
  have ending := FrameStore.ending_of_status ok store busy idle
  refine LaneKeeps.queueDelivery ?_
  split
  · exact Lane.dropInbound_keeps ending _
  · split
    · exact Lane.dropInbound_keeps ending _
    · exact Lane.setGranted_keeps store busy (idle.symm ▸ rfl)

end Answers

end Lanes

end Sys2Proof.Machine
end

section
/-!
PROOFS. The events of the lanes keep what the engines hold for the records: the head of the queue, the allocation answers, transmission,
link loss and restart (sections 6.3 to 6.6, 7.8 and 7.9).
-/

namespace Sys2Proof.Machine

section Lanes

variable {v : Lane} {e : EgressEngine} {x : Entry} {rest : List Entry} {k : SlotNo} {d : Destination}

/-! ### The head of the queue -/

theorem EgressEngine.head_eq (h : e.head = some x) : ∃ rest, e.buffer = x :: rest := by
  unfold EgressEngine.head at h
  split at h
  · cases h
  next y rest hold =>
    split at h
    · cases h
    · cases h
      exact ⟨rest, hold⟩

/-- The withdrawal of a QUEUED entry stands for its waiting (R96). -/
theorem Entry.count_withdrawal (queued : x.status = .queued) (i : Nat) : (protectRecords [x]).count i = if x.waitsFor i then 1 else 0 := by
  rw [count_protectRecords, List.filter_cons, List.filter_nil]
  unfold Entry.waitsFor
  rw [queued]
  simp only [beq_self_eq_true, Bool.true_and]
  split <;> rfl

theorem Entry.waitsFor_of_bypass (bypass : ∀ i, x.disposition ≠ some (.protect i)) (i : Nat) : x.waitsFor i = false := by
  unfold Entry.waitsFor
  rw [beq_eq_false_iff_ne.mpr (bypass i), Bool.and_false]

theorem Entry.waitsFor_protect {j : Nat} (queued : x.status = .queued) (protect : x.disposition = some (.protect j)) (i : Nat) :
    x.waitsFor i = decide (j = i) := by
  unfold Entry.waitsFor
  rw [queued, protect]
  by_cases e : j = i
  · subst e
    simp
  · simp [e]

section Head

variable (hold : e.buffer = x :: rest)

include hold

theorem EgressEngine.queuedFor_head (i : Nat) : queuedFor e.buffer i = (if x.waitsFor i then 1 else 0) + queuedFor e.buffer.tail i := by
  rw [hold, queuedFor_cons, List.tail_cons]

theorem EgressKeeps.dropHead (queued : x.status = .queued) : EgressKeeps e e.dropHead (protectRecords [x]) [] :=
  .of_buffer rfl rfl rfl rfl fun i => by
    rw [Entry.count_withdrawal queued, EgressEngine.queuedFor_head hold, Nat.add_comm]
    rfl

/-- A head that waits for no record leaves without a message. -/
theorem EgressKeeps.dropOther (other : ∀ i, x.waitsFor i = false) : EgressKeeps e e.dropHead [] [] :=
  .of_buffer rfl rfl rfl rfl fun i => by
    rw [EgressEngine.queuedFor_head hold, other i]
    exact (Nat.zero_add _).symm

end Head

theorem Lane.dropHead_keeps (hold : v.egress.buffer = x :: rest) (queued : x.status = .queued) (why : OutCounter) :
    LaneKeeps v ((v.afterBuffer v.egress.dropHead).countOut why) (protectRecords [x]) [] [] := by
  have dropped := LaneKeeps.afterBuffer (EgressKeeps.dropHead hold queued)
  exact ⟨dropped.egress, dropped.ingress⟩

theorem Lane.startBypass_keeps (hold : v.egress.buffer = x :: rest) (free : v.egress.freeStore = some k)
    (bypass : ∀ i, x.disposition ≠ some (.protect i)) : LaneKeeps v (v.startBypass x k d) [] [] [] := by
  have store : v.egress.dropHead.store k = .free := EgressEngine.freeStore_eq free
  have filled : EgressKeeps v.egress.dropHead
      (v.egress.dropHead.setStore k (.held { octets := x.octets, destination := d, grant := none, protectedOctets := 0 })) [] [] :=
    .of_setStore (by rw [store]; rfl) fun i j => by rw [store]; rfl
  have started := ((EgressKeeps.dropOther hold (Entry.waitsFor_of_bypass bypass)).trans filled).trans
    (e'' := v.egress.dropHead.fill k (.held { octets := x.octets, destination := d, grant := none, protectedOctets := 0 }))
    (.same rfl rfl rfl rfl rfl)
  exact .afterBuffer started

/-- No store is RESERVED. -/
theorem EgressEngine.reserved_eq_zero (h : e.reservedStore = none) : e.reserved = 0 := by
  unfold EgressEngine.reserved
  have unreserved (k : SlotNo) : (e.store k).isReserved = false := by
    cases store : e.store k with
    | reserved d =>
      have some := EgressEngine.reservedStore_isSome store
      rw [h] at some
      cases some
    | _ => rfl
  have h0 : e.store0.isReserved = false := unreserved false
  have h1 : e.store1.isReserved = false := unreserved true
  rw [h0, h1]
  rfl

theorem EgressEngine.reserved_eq_one (ok : e.requestOk) (asked : e.request.isSome) : e.reserved = 1 := by
  rw [EgressEngine.requestOk_iff] at ok
  rw [ok.2, if_pos asked]

/-- With no store RESERVED no request is open, nor answered (R26). -/
theorem EgressEngine.quiet_of_unreserved (ok : e.requestOk) (none : e.reserved = 0) : e.request = .none ∧ e.answer = .none := by
  rw [EgressEngine.requestOk_iff] at ok
  obtain ⟨answered, count⟩ := ok
  have request : e.request = .none := by
    cases h : e.request with
    | none => rfl
    | some q =>
      rw [h] at count
      simp [none] at count
  refine ⟨request, ?_⟩
  cases h : e.answer with
  | none => rfl
  | some a =>
    have := answered (by rw [h]; rfl)
    rw [request] at this
    cases this

theorem EgressEngine.requestHead_fields (hold : e.buffer = x :: rest) : e.requestHead = { e with buffer := { x with status := .requested } :: rest } := by
  unfold EgressEngine.requestHead
  rw [hold]

theorem Lane.startProtect_keeps {i : Nat} (ok : v.egress.requestOk) (hold : v.egress.buffer = x :: rest) (queued : x.status = .queued)
    (protect : x.disposition = some (.protect i)) (free : v.egress.freeStore = some k) (idle : v.egress.reservedStore = none) :
    LaneKeeps v (v.startProtect x i k d) [] [] [] := by
  have none := EgressEngine.reserved_eq_zero idle
  obtain ⟨request, answer⟩ := EgressEngine.quiet_of_unreserved ok none
  have store : v.egress.requestHead.store k = .free := by
    rw [EgressEngine.requestHead_fields hold]
    exact EgressEngine.freeStore_eq free
  have head : v.egress.requestHead.reserved = 0 ∧ v.egress.requestHead.answer = .none ∧
      (∀ j m, v.egress.requestHead.holds j m = v.egress.holds j m) ∧
      v.egress.requestHead.buffer = { x with status := .requested } :: rest := by
    rw [EgressEngine.requestHead_fields hold]
    exact ⟨none, answer, fun _ _ => rfl, rfl⟩
  obtain ⟨headNone, headAnswer, headHolds, headBuffer⟩ := head
  obtain ⟨buffer, -, answered⟩ := v.egress.requestHead.setStore_fields k (.reserved d)
  refine ⟨⟨fun _ => ?_, fun j => ?_, fun j m => ?_⟩, .refl _⟩
  · rw [EgressEngine.requestOk_iff]
    have count := v.egress.requestHead.setStore_reserved k (.reserved d)
    rw [store, headNone] at count
    exact ⟨fun _ => rfl, count⟩
  · have asks : (v.startProtect x i k d).egress.asking j = if i = j then 1 else 0 := by
      have asked : (v.startProtect x i k d).egress.answer = .none := answered.trans headAnswer
      unfold EgressEngine.asking EgressEngine.openRequest
      rw [asked]
      rfl
    have idle : v.egress.asking j = 0 := by
      unfold EgressEngine.asking EgressEngine.openRequest
      rw [request, answer]
    have holding : (v.startProtect x i k d).egress.buffer = { x with status := .requested } :: rest := buffer.trans headBuffer
    unfold EgressEngine.waiting
    rw [asks, idle, holding, hold, queuedFor_cons, queuedFor_cons, Entry.waitsFor_protect queued protect,
      Entry.waitsFor_of_not_queued (x := { x with status := .requested }) (fun e => nomatch e)]
    simp only [decide_eq_true_eq, Bool.false_eq_true, if_false, List.count_nil]
    omega
  · have change := v.egress.requestHead.setStore_holds k (.reserved d) j m
    rw [store, headHolds] at change
    exact change

theorem Lane.startHead_keeps (ok : v.egress.requestOk) (hold : v.egress.buffer = x :: rest) (queued : x.status = .queued)
    (start : v.egress.startAction x d = .start k d) : LaneKeeps v (v.startHead x k d) [] [] [] := by
  unfold EgressEngine.startAction at start
  unfold Lane.startHead
  split at start
  · cases start
  next free =>
    split at start
    next i protect =>
      split at start
      · cases start
      next idle =>
        cases start
        exact Lane.startProtect_keeps ok hold queued protect free (Option.not_isSome_iff_eq_none.mp idle)
    next bypass =>
      cases start
      exact Lane.startBypass_keeps hold free bypass

theorem Lane.headAction_start (h : v.headAction x = .start k d) : v.egress.startAction x d = .start k d := by
  have destination {d' : Destination} (h : v.egress.startAction x d' = .start k d) : v.egress.startAction x d = .start k d := by
    have same : d' = d := by
      unfold EgressEngine.startAction at h
      repeat' split at h
      all_goals cases h
      all_goals rfl
    exact same ▸ h
  unfold Lane.headAction at h
  split at h
  · cases h
  iterate 2
    split_ifs at h
    exact destination h
  · exact destination h

end Lanes

end Sys2Proof.Machine
end

section
/-!
PROOFS. The events of the lanes keep what the engines hold for the records: allocation answers, transmission, link loss, restart, delivery
and pause (sections 6.3 to 6.8, 7.8 and 7.9).
-/

namespace Sys2Proof.Machine

section Lanes

variable {v : Lane} {e : EgressEngine} {k : SlotNo} {d : Destination}

/-! ### The allocation answer -/

theorem EgressEngine.requestedHead_eq {x : Entry} (h : e.requestedHead = some x) : ∃ rest, e.buffer = x :: rest ∧ x.status = .requested := by
  unfold EgressEngine.requestedHead at h
  obtain ⟨head, requested⟩ := Option.filter_eq_some_iff.mp h
  obtain ⟨rest, hold⟩ := EgressEngine.head_eq head
  exact ⟨rest, hold, by simpa using requested⟩

/-- An answer's taking leaves the entries that wait. -/
theorem EgressEngine.settle_shape (e : EgressEngine) (k : SlotNo) (t : TransmitStore) :
    (e.settle k t = e.answered.setStore k t ∨ e.settle k t = (e.answered.setStore k t).dropHead) ∧
      ∀ i, queuedFor (e.settle k t).buffer i = queuedFor e.buffer i := by
  obtain ⟨buffer, -, -⟩ := e.answered.setStore_fields k t
  have kept (i : Nat) : queuedFor (e.answered.setStore k t).buffer i = queuedFor e.buffer i := by
    rw [buffer]
    rfl
  unfold EgressEngine.settle
  cases head : e.requestedHead with
  | none => exact ⟨.inl rfl, kept⟩
  | some x =>
    obtain ⟨rest, hold, requested⟩ := EgressEngine.requestedHead_eq head
    refine ⟨.inr rfl, fun i => ?_⟩
    have tail := EgressEngine.queuedFor_head (e := e.answered.setStore k t) (buffer.trans hold) i
    rw [Entry.waitsFor_of_not_queued (by rw [requested]; decide) i, kept] at tail
    simp only [Bool.false_eq_true, if_false] at tail
    exact (Nat.zero_add _).symm.trans tail.symm

/-- An answer taken at the RESERVED store: the store holds the grant, or a release stands for it (R98, R104). -/
theorem EgressKeeps.settle {a : AllocationAnswer} {t : TransmitStore} {r : List ReleaseMsg} (answer : e.answer = some a)
    (asked : e.request.isSome) (reserved : e.reservedStore = some (k, d)) (free : t.isReserved = false)
    (held : ∀ i j, t.holds i j + releasesOf r i j = AllocationAnswer.holds (some a) i j) : EgressKeeps e (e.settle k t) [] r := by
  have store : e.answered.store k = .reserved d := EgressEngine.reservedStore_eq reserved
  obtain ⟨buffer, request, answered⟩ := e.answered.setStore_fields k t
  have fields : (e.settle k t).request = none ∧ (e.settle k t).answer = none ∧ (e.settle k t).reserved = (e.answered.setStore k t).reserved ∧
      ∀ i j, (e.settle k t).holds i j = (e.answered.setStore k t).holds i j := by
    rcases (e.settle_shape k t).1 with shape | shape
    all_goals
      rw [shape]
      exact ⟨request, answered, rfl, fun _ _ => rfl⟩
  obtain ⟨noRequest, noAnswer, sameReserved, sameHolds⟩ := fields
  refine ⟨fun ok => ?_, fun i => ?_, fun i j => ?_⟩
  · have one : e.answered.reserved = 1 := EgressEngine.reserved_eq_one (e := e) ok asked
    have count := e.answered.setStore_reserved k t
    rw [store, free, one] at count
    rw [EgressEngine.requestOk_iff, noRequest, noAnswer, sameReserved]
    exact ⟨fun none => none, Nat.add_right_cancel count⟩
  · have before : e.asking i = 0 := by
      unfold EgressEngine.asking EgressEngine.openRequest
      rw [answer]
    have after : (e.settle k t).asking i = 0 := by
      unfold EgressEngine.asking EgressEngine.openRequest
      rw [noAnswer, noRequest]
    unfold EgressEngine.waiting
    rw [before, after, (e.settle_shape k t).2]
    rfl
  · have change := e.answered.setStore_holds k t i j
    have whole : e.answered.holds i j + AllocationAnswer.holds (some a) i j = e.holds i j := by
      rw [EgressEngine.holds_eq, EgressEngine.holds_eq, answer]
      exact (Nat.add_comm _ _).trans (by simp only [EgressEngine.answered, AllocationAnswer.holds]; omega)
    rw [store] at change
    have reservedHolds : (TransmitStore.reserved d).holds i j = 0 := rfl
    have := held i j
    have := sameHolds i j
    omega

section Answer

variable {a : AllocationAnswer} {q : AllocationRequest} (answer : v.egress.answer = some a) (asked : v.egress.request = some q)
  (reserved : v.egress.reservedStore = some (k, d))

include answer asked reserved

theorem Lane.settle_keeps {t : TransmitStore} {r : List ReleaseMsg} (free : t.isReserved = false)
    (held : ∀ i j, t.holds i j + releasesOf r i j = AllocationAnswer.holds (some a) i j) :
    LaneKeeps v (v.afterBuffer (v.egress.settle k t)) [] r [] :=
  .afterBuffer (.settle answer (by rw [asked]; rfl) reserved free held)

theorem Lane.takeRefusal_keeps {why : AllocationRefusal} (refused : a = .refused why) :
    LaneKeeps v (v.takeRefusal k why) [] [] [] := by
  subst refused
  have settled := Lane.settle_keeps answer asked reserved (t := .free) (r := []) rfl fun _ _ => rfl
  exact ⟨settled.egress, settled.ingress⟩

theorem Lane.abortGrant_keeps {g : EgressGrant} (granted : a = .granted g) (n : Nat) :
    LaneKeeps v ((v.afterBuffer (v.egress.settle k .free)).countOut .aborted) []
      [{ record := g.record, slot := g.slot, outcome := .aborted, octets := n }] [] := by
  subst granted
  have settled := Lane.settle_keeps answer asked reserved (t := .free)
    (r := [{ record := g.record, slot := g.slot, outcome := .aborted, octets := n }]) rfl fun i j =>
      (Nat.zero_add _).trans (releasesOf_one _ i j)
  exact ⟨settled.egress, settled.ingress⟩

theorem Lane.holdGrant_keeps {g : EgressGrant} (granted : a = .granted g) (ty : BitVec 16) (n : Nat) (f : Frame) :
    LaneKeeps v (v.afterBuffer (v.egress.settle k (.held (grantedFrame ty d g n f)))) [] [] [] := by
  subst granted
  exact Lane.settle_keeps answer asked reserved rfl fun _ _ => rfl

end Answer

/-! ### Transmission -/

theorem Lane.endTransmission_keeps {f : StoredFrame} (sending : v.egress.sendingStore = some (k, f)) (o : ReleaseOutcome) :
    LaneKeeps v (v.endTransmission k) [] (f.release o) [] := by
  have store := EgressEngine.sendingStore_eq sending
  exact ⟨.of_setStore (by rw [store]; rfl) fun i j => by
    rw [store, StoredFrame.releasesOf_release]
    exact Nat.zero_add _, .refl _⟩

/-- The loop store's frame is not a line frame in reception. -/
theorem Lane.ending_of_loop (ok : v.ingress.receiverOk) {j : StoreId} (loop : v.ingress.loopStore = some j) : v.ending (some j) := by
  rintro _ ⟨⟩
  obtain ⟨z, store⟩ := IngressEngine.loopStore_eq loop
  rw [store]
  refine ⟨FrameStore.idle_of_openGrant rfl, fun e => ?_⟩
  obtain ⟨z', line⟩ := ok j e
  rw [store] at line
  cases line

/-- A lane after the completion of a transmission (R101, R112). -/
def Lane.transmitted (v : Lane) (ty : BitVec 16) (k : SlotNo) (f : StoredFrame) : Lane :=
  match f.destination with
  | .line => { v.endTransmission k with lastLineFrame := some f.octets }
  | .loop =>
    match (v.endTransmission k).ingress.loopStore with
    | some j => (v.endTransmission k).completeInbound ty (some j) .loop f.octets
    | none => v.endTransmission k

theorem Lane.transmitted_keeps (ok : v.ingress.receiverOk) (ty : BitVec 16) {f : StoredFrame}
    (sending : v.egress.sendingStore = some (k, f)) : LaneKeeps v (v.transmitted ty k f) [] (f.release .completed) [] := by
  have ended := Lane.endTransmission_keeps sending .completed
  unfold Lane.transmitted
  split
  · exact ⟨ended.egress, ended.ingress⟩
  · split
    next j loop =>
      exact ended.andThen (Lane.completeInbound_keeps (Lane.ending_of_loop (v := v.endTransmission k) ok loop) ty .loop f.octets)
    next => exact ended

/-! ### Link loss -/

/-- The releases for the frames of some stores. -/
theorem releasesOf_frames (fs : Option StoredFrame) (o : ReleaseOutcome) (i : Nat) (j : SlotNo) :
    releasesOf (fs.toList.flatMap fun f => f.release o) i j = (fs.bind fun f => f.grant.map fun g => g.under i j).getD 0 := by
  cases fs with
  | none => rfl
  | some f =>
    rw [Option.toList_some, List.flatMap_cons, List.flatMap_nil, List.append_nil, StoredFrame.releasesOf_release]
    rfl

theorem TransmitStore.holds_frame (t : TransmitStore) (i : Nat) (j : SlotNo) :
    t.holds i j = (t.frame.bind fun f => f.grant.map fun g => g.under i j).getD 0 := by
  cases t <;> rfl

/-- A store whose line frame is cut (R102). -/
theorem TransmitStore.cutLine_keeps (t : TransmitStore) : t.cutLine.isReserved = t.isReserved ∧
    ∀ i j, t.cutLine.holds i j + releasesOf (t.lineFrame.toList.flatMap fun f => f.release .aborted) i j = t.holds i j := by
  unfold TransmitStore.cutLine
  cases line : t.lineFrame with
  | none => exact ⟨rfl, fun i j => rfl⟩
  | some f =>
    obtain ⟨frame, -⟩ := Option.filter_eq_some_iff.mp line
    refine ⟨?_, fun i j => ?_⟩
    · cases t with
      | reserved _ => cases frame
      | _ => rfl
    · rw [TransmitStore.holds_frame t, frame, releasesOf_frames]
      exact Nat.zero_add _

/-- Both transmit stores given anew, with the releases of the frames that they give up. -/
theorem EgressKeeps.of_stores {e' : EgressEngine} {w : List Nat} {r r' : List ReleaseMsg}
    (queued : ∀ i, queuedFor e'.buffer i + w.count i = queuedFor e.buffer i)
    (request : e'.request = e.request) (answer : e'.answer = e.answer)
    (store0 : e'.store0.isReserved = e.store0.isReserved ∧ ∀ i j, e'.store0.holds i j + releasesOf r i j = e.store0.holds i j)
    (store1 : e'.store1.isReserved = e.store1.isReserved ∧ ∀ i j, e'.store1.holds i j + releasesOf r' i j = e.store1.holds i j) :
    EgressKeeps e e' w (r ++ r') := by
  refine ⟨fun ok => ?_, fun i => ?_, fun i j => ?_⟩
  · unfold EgressEngine.requestOk at *
    rw [store0.1, store1.1, request, answer]
    exact ok
  · have := queued i
    unfold EgressEngine.waiting
    rw [EgressEngine.asking_of request answer]
    omega
  · have := store0.2 i j
    have := store1.2 i j
    rw [EgressEngine.holds_eq, EgressEngine.holds_eq, answer, releasesOf_append]
    omega

theorem Lane.egressLineDown_keeps (v : Lane) :
    LaneKeeps v v.egressLineDown [] (v.egress.lineFrames.flatMap fun f => f.release .aborted) [] := by
  unfold EgressEngine.lineFrames
  rw [List.flatMap_append]
  exact ⟨.of_stores (fun _ => rfl) rfl rfl v.egress.store0.cutLine_keeps v.egress.store1.cutLine_keeps, .refl _⟩

theorem Lane.cutArriving_keeps (v : Lane) : LaneKeeps v v.cutArriving [] [] [] := by
  unfold Lane.cutArriving
  split
  · exact .same rfl rfl
  · have dropped := v.dropArriving_keeps
    exact ⟨dropped.egress, dropped.ingress⟩

theorem Lane.egressSystemDown_keeps (v : Lane) : LaneKeeps v v.egressSystemDown [] [] [] :=
  v.cutArriving_keeps.trans ⟨.same rfl rfl rfl rfl rfl, .refl _⟩

theorem Lane.ingressSystemDown_keeps (v : Lane) : LaneKeeps v v.ingressSystemDown [] [] [] := by
  unfold Lane.ingressSystemDown
  dsimp only
  split <;> exact ⟨.refl _, .same rfl rfl⟩

theorem Lane.linkChanged_keeps (ok : v.ingress.receiverOk) (side : Side) (up : Bool) (arrived : Nat) :
    LaneKeeps v (v.linkChanged side up arrived) [] (v.linkReleases side up) [] := by
  cases side with
  | line =>
    cases up with
    | true => exact .same rfl rfl
    | false => exact v.egressLineDown_keeps.andThen (Lane.ingressLineDown_keeps (v := v.egressLineDown) ok arrived)
  | system =>
    cases up with
    | true =>
      show LaneKeeps v v.egressSystemUp [] [] []
      unfold Lane.egressSystemUp
      split
      · exact ⟨.same rfl rfl rfl rfl rfl, .refl _⟩
      · exact .same rfl rfl
    | false => exact v.egressSystemDown_keeps.trans (Lane.ingressSystemDown_keeps _)

theorem Lane.withLink_keeps (v : Lane) (side : Side) (up : Bool) : LaneKeeps v (v.withLink side up) [] [] [] := by
  cases side <;> exact .same rfl rfl

/-! ### Restart -/

theorem TransmitStore.restart_keeps (t : TransmitStore) : t.restart.isReserved = t.isReserved ∧
    ∀ i j, t.restart.holds i j + releasesOf ((t.frame.map fun f => f.release .aborted).getD []) i j = t.holds i j := by
  cases t with
  | free => exact ⟨rfl, fun _ _ => rfl⟩
  | reserved _ => exact ⟨rfl, fun _ _ => rfl⟩
  | held f | sending f =>
    exact ⟨rfl, fun i j => (Nat.zero_add _).trans (StoredFrame.releasesOf_release f .aborted i j)⟩

theorem EgressEngine.restart_keeps (e : EgressEngine) :
    EgressKeeps e e.restart (protectRecords e.queuedEntries) e.restartReleases :=
  .of_stores (fun i => (Nat.zero_add _).trans (queuedFor_filter_queued e.buffer i).2) rfl rfl e.store0.restart_keeps e.store1.restart_keeps

/-- A store after a restart, with the abandon that it sends (R130). -/
theorem FrameStore.restart_keeps (x : Option FrameStore) (i : Nat) (j : SlotNo) :
    FrameStore.holds (x.bind FrameStore.restart) i j + abandonsOf ((x.map FrameStore.restartAbandon).getD []) i j = FrameStore.holds x i j := by
  rcases x with _ | ⟨source, z, st⟩
  · rfl
  · cases st with
    | opening octets h g => exact (Nat.zero_add _).trans (abandonsOf_one _ i j)
    | _ => rfl

theorem abandonsOf_flatMap {α : Type} (xs : List α) (f : α → List AbandonMsg) (i : Nat) (j : SlotNo) :
    abandonsOf (xs.flatMap f) i j = (xs.map fun x => abandonsOf (f x) i j).sum := by
  induction xs with
  | nil => rfl
  | cons x xs ih => rw [List.flatMap_cons, abandonsOf_append, ih, List.map_cons, List.sum_cons]

theorem IngressEngine.restart_store (g : IngressEngine) (m : StoreId) : g.restart.store m = (g.store m).bind FrameStore.restart :=
  Vector.getElem_map ..

theorem IngressEngine.restart_keeps (g : IngressEngine) : IngressKeeps g g.restart g.restartAbandons where
  receiver _ j receiving := by
    have restarted : g.receiver.restart = .receiving (some j) := receiving
    unfold LineReceiver.restart at restarted
    split at restarted <;> cases restarted
  holds i k := by
    have abandons : abandonsOf g.restartAbandons i k =
        ((List.finRange 4).map fun m => abandonsOf (((g.store m).map FrameStore.restartAbandon).getD []) i k).sum := by
      unfold IngressEngine.restartAbandons
      rw [abandonsOf_flatMap, IngressEngine.stores_toList, List.map_map]
      rfl
    rw [IngressEngine.holds_eq, IngressEngine.holds_eq, abandons, ← List.sum_map_add]
    congr 1
    refine List.map_congr_left fun m _ => ?_
    rw [IngressEngine.restart_store]
    exact FrameStore.restart_keeps (g.store m) i k

theorem Lane.restart_keeps (v : Lane) :
    LaneKeeps v v.restart (protectRecords v.egress.queuedEntries) v.egress.restartReleases v.ingress.restartAbandons :=
  ⟨v.egress.restart_keeps, v.ingress.restart_keeps⟩

/-! ### Delivery, pause and time -/

theorem Lane.startDelivery_keeps (v : Lane) : LaneKeeps v v.startDelivery [] [] [] := by
  unfold Lane.startDelivery
  split
  · exact ⟨.refl _, .same rfl rfl⟩
  · split
    · exact ⟨.refl _, .same rfl rfl⟩
    · split
      · exact ⟨.refl _, .same rfl rfl⟩
      · exact .same rfl rfl

theorem EgressEngine.refreshExpiry_keeps (e : EgressEngine) (mode : Mode) (g : LaneConfig) : EgressKeeps e (e.refreshExpiry mode g) [] [] := by
  unfold EgressEngine.refreshExpiry
  split
  · exact .same rfl rfl rfl rfl rfl
  · split <;> exact .same rfl rfl rfl rfl rfl

theorem Lane.quantum_keeps (v : Lane) : LaneKeeps v v.quantum [] [] [] := ⟨.same rfl rfl rfl rfl rfl, .same rfl rfl⟩

end Lanes

end Sys2Proof.Machine
end

section
/-!
PROOFS. The events of the lanes keep the counts of the records exact: the frame that is classified, and each event at the part (sections
1.9, 5.2 and 6.2).
-/

namespace Sys2Proof.Machine

/-! ### Counts at the part -/

section Counts

variable {s t : State} (h : s.CountsExact) {l : LaneId} {v : Lane} {w : List Nat} {r : List ReleaseMsg} {a : List AbandonMsg}

include h

theorem State.CountsExact.of_setLane (tables : SameTables s t) (lanes : t.lanes = (s.setLane l v).lanes)
    (keeps : LaneKeeps (s.lane l) v w r a) (enqueues : t.transit.enqueues = s.transit.enqueues)
    (withdrawals : t.transit.withdrawals = s.transit.withdrawals ++ w.map (fun i => (l, i)))
    (releases : t.transit.releases = s.transit.releases ++ r) (abandons : t.transit.abandons = s.transit.abandons ++ a) :
    t.CountsExact := by
  have lane (m : LaneId) : t.lane m = if l = m then v else s.lane m := (State.lane_congr lanes m).trans (State.lane_setLane ..)
  exact h.of_lane tables l (fun m hm => by rw [lane, if_neg hm.symm]) (by rw [lane, if_pos rfl]; exact keeps) enqueues withdrawals
    releases abandons

/-- An event of one lane that sends no message. -/
theorem State.CountsExact.setLane (keeps : LaneKeeps (s.lane l) v [] [] []) : (s.setLane l v).CountsExact :=
  h.of_setLane (beside_setLane s l v).tables rfl keeps rfl (List.append_nil _).symm (List.append_nil _).symm (List.append_nil _).symm

theorem State.CountsExact.setLane_withdrawals (keeps : LaneKeeps (s.lane l) v w [] []) :
    ((s.setLane l v).sendWithdrawals l w).CountsExact :=
  h.of_setLane ⟨rfl, rfl, rfl, rfl, rfl, rfl⟩ rfl keeps rfl rfl (List.append_nil _).symm (List.append_nil _).symm

theorem State.CountsExact.setLane_releases (keeps : LaneKeeps (s.lane l) v [] r []) : ((s.setLane l v).sendReleases r).CountsExact :=
  h.of_setLane ⟨rfl, rfl, rfl, rfl, rfl, rfl⟩ rfl keeps rfl (List.append_nil _).symm rfl (List.append_nil _).symm

theorem State.CountsExact.setLane_abandons (keeps : LaneKeeps (s.lane l) v [] [] a) : ((s.setLane l v).sendAbandons a).CountsExact :=
  h.of_setLane ⟨rfl, rfl, rfl, rfl, rfl, rfl⟩ rfl keeps rfl (List.append_nil _).symm (List.append_nil _).symm rfl

end Counts

theorem LaneKeeps.refl (v : Lane) : LaneKeeps v v [] [] [] := .same rfl rfl

/-- The counts are a matter of the records, the lanes, the flows and the messages. -/
theorem countsExact_core : OfCore State.CountsExact := fun s t same h =>
  h.of_lanes same.tables (fun l => by rw [same.lane]; exact .refl _) same.transit

/-! ### The frame that is classified -/

section Classified

variable {s : State} {l : LaneId}

theorem State.flow_mem {k : FlowKey} {e : FlowEntry} (h : s.flow k = some e) : e ∈ s.flowMap ∧ e.key = k :=
  ⟨List.mem_of_find?_eq_some h, by simpa using List.find?_some h⟩

theorem State.namingEntries_pos {e : FlowEntry} {i : Nat} (mem : e ∈ s.flowMap) (named : e.action = .protect i) : s.namingEntries i ≠ 0 :=
  Nat.ne_of_gt (List.length_pos_of_mem (List.mem_filter.mpr ⟨mem, by rw [named]; exact beq_self_eq_true _⟩))

/-- A frame classified to a record is one of an entry that names it (R82). -/
theorem State.classify_protect {f : Frame} {i : Nat} (protect : (s.classify l f).2 = .protect i) : s.namingEntries i ≠ 0 := by
  unfold State.classify at protect
  split at protect
  next e found => exact State.namingEntries_pos (State.flow_mem found).1 protect
  next =>
    cases hd : (s.lane l).control.config.defaultAction <;> rw [hd] at protect <;> cases protect

theorem State.classify_keeps (s : State) (l : LaneId) (f : Frame) : (s.classify l f).1.transit = s.transit ∧ (s.classify l f).1.lanes = s.lanes := by
  unfold State.classify
  split <;> exact ⟨rfl, rfl⟩

/-- RECEIVING entries given a record wait for it. -/
theorem queuedFor_setArriving_protect (b : List Entry) (i j : Nat) :
    queuedFor (b.map fun x => if x.status = .receiving then { x with status := .queued, disposition := some (.protect i) } else x) j =
      queuedFor b j + if i = j then (b.filter (fun x => x.status == .receiving)).length else 0 := by
  induction b with
  | nil =>
    show (0 : Nat) = 0 + _
    split <;> rfl
  | cons x b ih =>
    rw [List.map_cons, queuedFor_cons, queuedFor_cons, ih, List.filter_cons]
    by_cases receiving : x.status = .receiving
    · rw [if_pos receiving, Entry.waitsFor_of_not_queued (x := x) (by rw [receiving]; decide),
        Entry.waitsFor_protect (x := { x with status := .queued, disposition := some (.protect i) }) rfl rfl, receiving]
      simp only [beq_self_eq_true, if_true, List.length_cons, decide_eq_true_eq, Bool.false_eq_true, if_false]
      split <;> omega
    · have other : (x.status == .receiving) = false := beq_eq_false_iff_ne.mpr receiving
      rw [if_neg receiving, other]
      exact (Nat.add_assoc _ _ _).symm

/-- The frame in reception, made QUEUED for a record, is one more that waits for it (R95). -/
theorem Lane.waiting_queueOutbound {v : Lane} {x : Entry} (one : (v.egress.buffer.filter (fun x => x.status == .receiving)).length ≤ 1)
    (arriving : v.egress.arriving = some x) (i j : Nat) :
    (v.queueOutbound (.protect i)).egress.waiting j = v.egress.waiting j + if i = j then 1 else 0 := by
  have receiving : (v.egress.buffer.filter (fun x => x.status == .receiving)).length = 1 := by
    have mem : x ∈ v.egress.buffer.filter (fun x => x.status == .receiving) :=
      List.mem_filter.mpr ⟨List.mem_of_find?_eq_some arriving, by simpa using List.find?_some arriving⟩
    have := List.length_pos_of_mem mem
    omega
  have queued : queuedFor (v.queueOutbound (.protect i)).egress.buffer j = queuedFor v.egress.buffer j + if i = j then 1 else 0 := by
    refine (queuedFor_setArriving_protect v.egress.buffer i j).trans ?_
    rw [receiving]
  have asking : (v.queueOutbound (.protect i)).egress.asking j = v.egress.asking j := EgressEngine.asking_of rfl rfl j
  unfold EgressEngine.waiting
  omega

/-- A frame becomes QUEUED for a record that an entry names, and its enqueue is sent (R95). -/
theorem State.CountsExact.protect {x : Entry} {i : Nat} (h : s.CountsExact)
    (one : ((s.lane l).egress.buffer.filter (fun x => x.status == .receiving)).length ≤ 1)
    (arriving : (s.lane l).egress.arriving = some x) (named : s.namingEntries i ≠ 0) : (s.applyAction l (.protect i)).CountsExact := by
  have waiting := Lane.waiting_queueOutbound one arriving i
  have lane (m : LaneId) : (s.applyAction l (.protect i)).lane m = if l = m then (s.lane l).queueOutbound (.protect i) else s.lane m :=
    State.lane_setLane ..
  have enqueued (m : LaneId) (j : Nat) : (s.applyAction l (.protect i)).transit.enqueues.count (m, j) =
      s.transit.enqueues.count (m, j) + if l = m ∧ i = j then 1 else 0 := by
    show (s.transit.enqueues ++ [(l, i)]).count (m, j) = _
    rw [List.count_append, List.count_singleton]
    simp only [beq_iff_eq, Prod.mk.injEq]
  have queuedAt (m : LaneId) (j : Nat) : (s.applyAction l (.protect i)).queuedAt m j =
      s.queuedAt m j + if l = m ∧ i = j then 1 else 0 := by
    have withdrawals : (s.applyAction l (.protect i)).transit.withdrawals = s.transit.withdrawals := rfl
    rw [State.queuedAt_eq, State.queuedAt_eq, withdrawals, lane]
    by_cases e : l = m
    · subst e
      rw [if_pos rfl, waiting]
      simp only [true_and]
      omega
    · rw [if_neg e, if_neg fun both => e both.1]
      rfl
  have sums (f g : LaneId → Nat) (j : Nat) (change : ∀ m, g m = f m + if l = m ∧ i = j then 1 else 0) :
      ((List.finRange 4).map g).sum = ((List.finRange 4).map f).sum + if i = j then 1 else 0 := by
    have total := sum_four_change (f := f) (g := g) l fun m hm => by
      rw [change, if_neg fun both => hm both.1.symm]
      rfl
    have at_lane := change l
    simp only [true_and] at at_lane
    omega
  have heldEgress (j : Nat) (k : SlotNo) : (s.applyAction l (.protect i)).egressHeld j k = s.egressHeld j k := by
    have change := sum_lanes_change (s := s) (t := s.applyAction l (.protect i)) (fun v => v.egress.holds j k) l fun m hm => by
      rw [lane, if_neg hm.symm]
    rw [lane, if_pos rfl] at change
    have same : ((s.lane l).queueOutbound (.protect i)).egress.holds j k = (s.lane l).egress.holds j k := rfl
    have releases : (s.applyAction l (.protect i)).transit.releases = s.transit.releases := rfl
    rw [State.egressHeld_eq, State.egressHeld_eq, releases]
    omega
  have heldIngress (j : Nat) (k : SlotNo) : (s.applyAction l (.protect i)).ingressHeld j k = s.ingressHeld j k := by
    have change := sum_lanes_change (s := s) (t := s.applyAction l (.protect i)) (fun v => v.ingress.holds j k) l fun m hm => by
      rw [lane, if_neg hm.symm]
    rw [lane, if_pos rfl] at change
    have same : ((s.lane l).queueOutbound (.protect i)).ingress.holds j k = (s.lane l).ingress.holds j k := rfl
    have abandons : (s.applyAction l (.protect i)).transit.abandons = s.transit.abandons := rfl
    rw [State.ingressHeld_eq, State.ingressHeld_eq, abandons]
    omega
  refine ⟨fun m => ?_, fun m => ?_, fun j => ?_, fun m j => ?_, fun m j mem none => ?_, h.queuedRoom, h.waiting, fun j k kind => ?_,
    fun j k kind => ?_⟩
  · rw [lane]
    split
    · exact h.requests l
    · exact h.requests m
  · rw [lane]
    split
    · exact h.receivers l
    · exact h.receivers m
  · have counted : (s.record j).queuedFrames + ((List.finRange 4).map fun m => s.transit.enqueues.count (m, j)).sum =
        ((List.finRange 4).map fun m => s.queuedAt m j).sum := h.queued j
    have sent := sums (fun m => s.transit.enqueues.count (m, j)) _ j fun m => enqueued m j
    have waits := sums (fun m => s.queuedAt m j) _ j fun m => queuedAt m j
    have record : (s.applyAction l (.protect i)).record j = s.record j := rfl
    rw [record]
    omega
  · rw [enqueued, queuedAt]
    exact Nat.add_le_add_right (h.enqueues m j) _
  · have other : i ≠ j := fun e => named (e ▸ none)
    have same := enqueued m j
    rw [if_neg fun both => other both.2] at same
    have before : (m, j) ∈ s.transit.enqueues := (List.mem_append.mp mem).resolve_right fun new =>
      other (Prod.mk.inj (List.mem_singleton.mp new)).2.symm
    rw [same]
    exact h.kept m j before none
  · rw [heldEgress, heldIngress]
    exact h.egress j k kind
  · rw [heldEgress, heldIngress]
    exact h.ingress j k kind

theorem State.CountsExact.disposeOutbound {x : Entry} (h : s.CountsExact)
    (one : ((s.lane l).egress.buffer.filter (fun x => x.status == .receiving)).length ≤ 1)
    (arriving : (s.lane l).egress.arriving = some x) (f : Frame) : (s.disposeOutbound l f).CountsExact := by
  have classified : ((s.classify l f).1.applyAction l (s.classify l f).2).CountsExact := by
    obtain ⟨transit, lanes⟩ := s.classify_keeps l f
    have tables := (beside_classify s l f).tables
    have lane (m : LaneId) : (s.classify l f).1.lane m = s.lane m := State.lane_congr lanes m
    have hit : (s.classify l f).1.CountsExact := h.of_lanes tables (fun m => by rw [lane]; exact .refl _) transit
    cases action : (s.classify l f).2 with
    | discard => exact hit.setLane (Lane.dropOutbound_keeps _ _)
    | bypass => exact hit.setLane (Lane.queueOutbound_keeps _)
    | protect i =>
      rw [← lane l] at one arriving
      exact hit.protect one arriving (by rw [tables.namingEntries]; exact State.classify_protect action)
  unfold State.disposeOutbound
  split
  · exact h.setLane (Lane.dropOutbound_keeps _ _)
  · exact h.setLane (Lane.queueOutbound_keeps _)
  · exact classified
  · exact classified

theorem State.CountsExact.completeOutbound {x : Entry} (h : s.CountsExact)
    (one : ((s.lane l).egress.buffer.filter (fun x => x.status == .receiving)).length ≤ 1)
    (arriving : (s.lane l).egress.arriving = some x) (f : Frame) : (s.completeOutbound l f).CountsExact := by
  unfold State.completeOutbound
  dsimp only
  split
  · exact h.setLane (Lane.dropOutbound_keeps _ _)
  · split
    · exact h.setLane (Lane.dropOutbound_keeps _ _)
    · split
      · exact h.setLane (Lane.dropOutbound_keeps _ _)
      · split
        · exact h.setLane (Lane.consumeSystemControl_keeps _ _)
        · exact h.disposeOutbound one arriving f

end Classified

/-! ### The events at the part -/

section Events

variable {s : State} {l : LaneId} (h : s.CountsExact)

include h

theorem State.CountsExact.takeHead {x : Entry} (head : (s.lane l).egress.head = some x) (queued : x.status = .queued) :
    (s.takeHead l x).CountsExact := by
  obtain ⟨rest, hold⟩ := EgressEngine.head_eq head
  unfold State.takeHead
  split
  · exact h
  · exact h.setLane_withdrawals (Lane.dropHead_keeps hold queued _)
  next k d start => exact h.setLane (Lane.startHead_keeps (h.requests l) hold queued (Lane.headAction_start start))

theorem State.CountsExact.takeAllocationAnswer {a : AllocationAnswer} {q : AllocationRequest} {k : SlotNo} {d : Destination}
    (answer : (s.lane l).egress.answer = some a) (asked : (s.lane l).egress.request = some q)
    (reserved : (s.lane l).egress.reservedStore = some (k, d)) (n : Nat) : (s.takeAllocationAnswer l k d a n).CountsExact := by
  unfold State.takeAllocationAnswer
  dsimp only
  split
  · exact h.setLane (Lane.takeRefusal_keeps answer asked reserved rfl)
  · exact h.setLane_releases (Lane.abortGrant_keeps answer asked reserved rfl n)
  · split
    · exact h.setLane_releases (Lane.abortGrant_keeps answer asked reserved rfl n)
    · exact h.setLane (Lane.holdGrant_keeps answer asked reserved rfl _ _ _)

theorem State.CountsExact.completeTransmission {k : SlotNo} {f : StoredFrame} (sending : (s.lane l).egress.sendingStore = some (k, f)) :
    (s.completeTransmission l k f).CountsExact :=
  h.setLane_releases (Lane.transmitted_keeps (h.receivers l) _ sending)

theorem State.CountsExact.takeLink (side : Side) (up : Bool) (arrived : Nat) : (s.takeLink l side up arrived).CountsExact := by
  have linked := ((s.lane l).withLink_keeps side up).trans
    (Lane.linkChanged_keeps (v := (s.lane l).withLink side up) (by cases side <;> exact h.receivers l) side up arrived)
  exact h.of_setLane ⟨rfl, rfl, rfl, rfl, rfl, rfl⟩ rfl linked rfl (List.append_nil _).symm rfl (List.append_nil _).symm

theorem State.CountsExact.restartLane (l : LaneId) : (s.restartLane l).CountsExact :=
  h.of_setLane ⟨rfl, rfl, rfl, rfl, rfl, rfl⟩ rfl (s.lane l).restart_keeps rfl rfl rfl rfl

theorem State.CountsExact.endReset (links : LinkStates) : (s.endReset links).CountsExact :=
  h.of_lanes ⟨rfl, rfl, rfl, rfl, rfl, rfl⟩ (fun l => by rw [State.lane_endReset]; exact .same rfl rfl) rfl

theorem State.CountsExact.quantum : s.quantum.CountsExact :=
  h.of_lanes ⟨rfl, rfl, rfl, rfl, rfl, rfl⟩ (fun l => by rw [State.lane_quantum]; exact Lane.quantum_keeps _) rfl

/-- The events of the lanes keep the counts. -/
theorem countsExact_lanesOnly (one : ∀ l, ((s.lane l).egress.buffer.filter (fun x => x.status == .receiving)).length ≤ 1) {c : Instr}
    (lanes : lanesOnly c = true) : Ensures (exec c s) State.CountsExact := by
  have core := countsExact_core
  have taken : s.taken.CountsExact := core _ _ (sameCore_taken s) h
  have control {v : Lane} (k : LaneControl) : LaneKeeps v (v.withControl k) [] [] [] := .same rfl rfl
  cases c with
  | setLaneMode =>
    refine ensures_serve core h fun c _ => ?_
    unfold setLaneModeOwner
    dsimp only
    split
    · split
      · exact taken
      · split
        · exact taken.setLane_withdrawals (Lane.changeMode_keeps _ _)
        · exact taken
    · exact taken
  | configureLane =>
    refine ensures_serve core h fun c _ => ?_
    unfold configureLaneOwner
    dsimp only
    split
    · exact taken
    · split
      · exact taken
      · split
        · exact taken.setLane (control _)
        · exact taken
  | sampleLaneCounters =>
    refine ensures_serve core h fun c _ => ?_
    unfold sampleLaneCountersOwner
    split
    · exact taken
    · exact taken.setLane (control _)
  | restartLane =>
    refine ensures_serve core h fun c _ => ?_
    unfold restartLaneOwner
    split
    · exact taken
    · exact taken.restartLane _
  | partResetEnd links => exact ensures_ite (fun _ => ensures_next (h.endReset links)) fun _ => ensures_next h
  | cellClaim l first b => exact ensures_unlessResetting h fun _ => ensures_takes core (h.setLane (Lane.octetArrives_keeps _ _ _))
  | transmissionBegin l => exact ensures_unlessResetting h fun _ => ensures_takes core (h.setLane (Lane.beginTransmission_keeps _))
  | loopHandoverStart l => exact ensures_unlessResetting h fun _ => ensures_takes core (h.setLane (Lane.beginLoop_keeps _))
  | egressReceiveCompletion l =>
    refine ensures_unlessResetting h fun _ => ?_
    split
    · exact ensures_next h
    next x arriving => exact ensures_takes core (h.completeOutbound (one l) arriving _)
  | headTaken l =>
    refine ensures_unlessResetting h fun _ => ?_
    split
    · exact ensures_next h
    next x head => exact ensures_ite (fun queued => ensures_takes core (h.takeHead head queued)) fun _ => ensures_next h
  | allocationAnswer l =>
    refine ensures_unlessResetting h fun _ => ?_
    split
    next a q k d answer asked reserved => exact ensures_takes core (h.takeAllocationAnswer answer asked reserved _)
    next => exact ensures_next h
  | transmissionCompletion l =>
    refine ensures_unlessResetting h fun _ => ?_
    split
    next k f sending => exact ensures_takes core (h.completeTransmission sending)
    next => exact ensures_next h
  | linePauseIndication l =>
    refine ensures_unlessResetting h fun _ => ?_
    split
    · exact ensures_next h
    · exact ensures_takes core (h.setLane ⟨.same rfl rfl rfl rfl rfl, .refl _⟩)
  | systemPauseIndication l =>
    refine ensures_unlessResetting h fun _ => ?_
    split
    · exact ensures_next h
    · exact ensures_takes core (h.setLane ⟨.refl _, .same rfl rfl⟩)
  | linePauseExpiry l =>
    exact ensures_unlessResetting h fun _ =>
      ensures_ite (fun _ => ensures_takes core (h.setLane ⟨.same rfl rfl rfl rfl rfl, .refl _⟩)) fun _ => ensures_next h
  | refreshExpiry l =>
    exact ensures_unlessResetting h fun _ =>
      ensures_ite (fun _ => ensures_takes core (h.setLane ⟨EgressEngine.refreshExpiry_keeps _ _ _, .refl _⟩)) fun _ => ensures_next h
  | deliveryStart l =>
    exact ensures_unlessResetting h fun _ =>
      ensures_ite (fun _ => ensures_takes core (h.setLane (Lane.startDelivery_keeps _))) fun _ => ensures_next h
  | systemPauseExpiry l =>
    exact ensures_unlessResetting h fun _ =>
      ensures_ite (fun _ => ensures_takes core (h.setLane ⟨.refl _, .same rfl rfl⟩)) fun _ => ensures_next h
  | pauseFrameSend l =>
    refine ensures_unlessResetting h fun _ => ?_
    split
    · exact ensures_next h
    · exact ensures_ite (fun _ => ensures_takes core (h.setLane ⟨.same rfl rfl rfl rfl rfl, .refl _⟩)) fun _ => ensures_next h
  | linkEvent l side up n =>
    exact ensures_unlessResetting h fun _ => ensures_ite (fun _ => ensures_next h) fun _ => ensures_takes core (h.takeLink side up n)
  | lineFrameStart l =>
    refine ensures_unlessResetting h fun _ => ?_
    split
    · exact ensures_takes core (h.setLane (Lane.startLineFrame_keeps _))
    · exact ensures_next h
  | ingressReceiveCompletion l arrival =>
    refine ensures_unlessResetting h fun _ => ?_
    split
    next octets store receiving => exact ensures_takes core (h.setLane (Lane.completeLine_keeps (h.receivers l) _ _ receiving))
    · exact ensures_next h
    · unfold State.completeLoop
      split
      next k f sending => exact ensures_ite (fun _ => ensures_takes core (h.completeTransmission sending)) fun _ => ensures_next h
      · exact ensures_next h
  | lookupAnswer l j =>
    refine ensures_unlessResetting h fun _ => ?_
    split
    next f store =>
      split
      next octets e a status => exact ensures_takes core (h.setLane_abandons (Lane.takeLookupAnswer_keeps (h.receivers l) store status))
      · exact ensures_next h
    · exact ensures_next h
  | verificationCompletion l j =>
    refine ensures_unlessResetting h fun _ => ?_
    split
    next f store =>
      split
      next octets e g status => exact ensures_takes core (h.setLane_abandons (Lane.takeVerification_keeps store status))
      · exact ensures_next h
    · exact ensures_next h
  | commitAnswer l j =>
    refine ensures_unlessResetting h fun _ => ?_
    split
    next f store =>
      split
      next octets e g plaintext a status =>
        exact ensures_takes core (h.setLane (Lane.takeCommitAnswer_keeps (h.receivers l) store status))
      · exact ensures_next h
    · exact ensures_next h
  | deliveryCompletion l =>
    refine ensures_unlessResetting h fun _ => ?_
    split
    · exact ensures_takes core (h.setLane ⟨.refl _, .same rfl rfl⟩)
    · exact ensures_next h
  | _ => cases lanes

end Events

end Sys2Proof.Machine
end

section
/-!
LAWS. What a flow command's event at the Flow Map changes: the entries that name a record, the reference that it claims and the one that
it has to release (sections 5.3 and 5.4).
-/

namespace Sys2Proof.Machine

/-! ### Entries that name a record -/

/-- The entries of a Flow Map whose action names a record. -/
def namingOf (es : List FlowEntry) (i : Nat) : Nat := (es.filter (fun e => e.action == .protect i)).length

/-- An action names a record. -/
def FlowAction.names (a : FlowAction) (i : Nat) : Nat := if a = .protect i then 1 else 0

theorem State.namingEntries_eq (s : State) (i : Nat) : s.namingEntries i = namingOf s.flowMap i := rfl

theorem namingOf_cons (e : FlowEntry) (es : List FlowEntry) (i : Nat) : namingOf (e :: es) i = e.action.names i + namingOf es i := by
  unfold namingOf FlowAction.names
  rw [List.filter_cons]
  simp only [beq_iff_eq]
  split
  · rw [List.length_cons, Nat.add_comm]
  · exact (Nat.zero_add _).symm

theorem namingOf_append (es es' : List FlowEntry) (i : Nat) : namingOf (es ++ es') i = namingOf es i + namingOf es' i := by
  unfold namingOf
  rw [List.filter_append, List.length_append]

section Keys

variable {es : List FlowEntry} {k : FlowKey} {e : FlowEntry}

theorem key_ne_of_nodup (keys : (k :: es.map FlowEntry.key).Nodup) : ∀ x ∈ es, x.key ≠ k := fun _ mem same =>
  (List.nodup_cons.mp keys).1 (List.mem_map.mpr ⟨_, mem, same⟩)

/-- The one entry of a key, taken out (R88). -/
theorem namingOf_delete (keys : (es.map FlowEntry.key).Nodup) (found : es.find? (fun e => e.key == k) = some e) (i : Nat) :
    namingOf (es.filter fun e => e.key ≠ k) i + e.action.names i = namingOf es i := by
  induction es with
  | nil => cases found
  | cons x es ih =>
    rw [List.map_cons] at keys
    rw [List.find?_cons] at found
    rw [List.filter_cons, namingOf_cons]
    by_cases here : x.key = k
    · subst here
      rw [beq_self_eq_true] at found
      cases found
      have others : es.filter (fun y => y.key ≠ e.key) = es :=
        List.filter_eq_self.mpr fun y mem => decide_eq_true (key_ne_of_nodup keys y mem)
      rw [others, if_neg (by simp)]
      exact Nat.add_comm _ _
    · rw [beq_eq_false_iff_ne.mpr here] at found
      have rest := ih (List.nodup_cons.mp keys).2 found
      rw [if_pos (by simpa using here), namingOf_cons]
      omega

/-- The one entry of a key, given a new action (R87). -/
theorem namingOf_update (keys : (es.map FlowEntry.key).Nodup) (found : es.find? (fun e => e.key == k) = some e) (a : FlowAction) (i : Nat) :
    namingOf (es.map fun e => if e.key = k then { e with action := a } else e) i + e.action.names i = namingOf es i + a.names i := by
  induction es with
  | nil => cases found
  | cons x es ih =>
    rw [List.map_cons] at keys
    rw [List.find?_cons] at found
    rw [List.map_cons, namingOf_cons, namingOf_cons]
    by_cases here : x.key = k
    · subst here
      rw [beq_self_eq_true] at found
      cases found
      have others : es.map (fun y => if y.key = e.key then { y with action := a } else y) = es :=
        (List.map_congr_left fun y mem => if_neg (key_ne_of_nodup keys y mem)).trans (List.map_id es)
      rw [others, if_pos rfl]
      show a.names i + _ + _ = _
      omega
    · rw [beq_eq_false_iff_ne.mpr here] at found
      have rest := ih (List.nodup_cons.mp keys).2 found
      rw [if_neg here]
      omega

theorem keys_update (es : List FlowEntry) (k : FlowKey) (a : FlowAction) :
    (es.map fun e => if e.key = k then { e with action := a } else e).map FlowEntry.key = es.map FlowEntry.key := by
  rw [List.map_map]
  refine List.map_congr_left fun e _ => ?_
  rw [Function.comp_apply]
  split <;> rfl

end Keys

/-! ### What an event at the Flow Map changes -/

/-- The state with a reference claimed, if one is (R86). -/
def State.claims (s : State) : Option Nat → State
  | none => s
  | some i => s.claimReference i

/-- What a flow command's event at the Flow Map does: a reference claimed, the entries that name each record changed by the claim and by
the reference to release, and nothing else (R84 to R88). -/
structure FlowChange (s : State) (done : FlowOutcome) (claim : Option Nat) : Prop where
  manager : done.after.manager = (s.claims claim).manager
  lanes : done.after.lanes = s.lanes
  transit : done.after.transit = s.transit
  flowTurn : done.after.flowTurn = s.flowTurn
  timebase : done.after.timebase = s.timebase
  port : done.after.port = s.port
  flows : FlowMapOk done.after.flowMap
  naming : ∀ i, namingOf done.after.flowMap i + (if done.release = some i then 1 else 0) =
    namingOf s.flowMap i + if claim = some i then 1 else 0
  claimed : ∀ i, claim = some i → (s.record i).config.kind = .egress ∧ (s.record i).inUse

section Owners

variable {s : State} {c : Command}

theorem FlowChange.unchanged (h : FlowMapOk s.flowMap) (r : Reply) : FlowChange s { after := s, reply := r } none :=
  ⟨rfl, rfl, rfl, rfl, rfl, rfl, h, fun _ => rfl, fun _ e => nomatch e⟩

theorem State.claimRefusal_eq_none {i : Nat} {l : LaneId} (h : s.claimRefusal i l = none) :
    (s.record i).config.kind = .egress ∧ (s.record i).inUse := by
  unfold State.claimRefusal at h
  dsimp only at h
  split_ifs at h with free retiring ingress _
  refine ⟨?_, Record.inUse_of_not free retiring⟩
  cases kind : (s.record i).config.kind with
  | egress => rfl
  | ingress => exact absurd kind ingress

/-- The claim of an accepted Add Flow. -/
def claimOf (old : Option FlowAction) (a : FlowAction) : Option Nat := if old = some a then none else a.named

theorem State.claimFor_eq (s : State) (old : Option FlowAction) (a : FlowAction) : s.claimFor old a = s.claims (claimOf old a) := by
  unfold claimOf
  cases a with
  | protect i =>
    unfold State.claimFor
    dsimp only
    split <;> rfl
  | bypass | discard =>
    unfold FlowAction.named
    rw [ite_self]
    rfl

theorem named_eq (a : FlowAction) (i : Nat) : (if a.named = some i then 1 else 0) = a.names i := by
  unfold FlowAction.names
  simp only [FlowAction.named_eq_some]

/-- What an entry's new action claims and releases is what it no longer names and what it now names (R87). -/
theorem releasedBy_names (old a : FlowAction) (i : Nat) :
    old.names i + (if claimOf (some old) a = some i then 1 else 0) = a.names i + (if releasedBy (some old) a = some i then 1 else 0) := by
  unfold claimOf
  by_cases same : old = a
  · subst same
    have kept : releasedBy (some old) old = none := by
      cases old with
      | protect j => exact if_pos rfl
      | bypass | discard => rfl
    rw [if_pos rfl, kept]
  · have released : releasedBy (some old) a = old.named := by
      cases old with
      | protect j => exact if_neg fun e => same e.symm
      | bypass | discard => rfl
    rw [if_neg fun e => same (Option.some.inj e), released, named_eq, named_eq, Nat.add_comm]

theorem flowChange_addFlowOwner (h : FlowMapOk s.flowMap) : ∃ claim, FlowChange s (addFlowOwner c s) claim := by
  unfold addFlowOwner
  split
  next k a _ _ =>
    split
    · exact ⟨none, .unchanged h _⟩
    next refused =>
      refine ⟨claimOf ((s.flow k).map FlowEntry.action) a, ?_⟩
      unfold State.addFlowRefusal at refused
      split_ifs at refused with _ _ full
      have claimed (i : Nat) (claim : claimOf ((s.flow k).map FlowEntry.action) a = some i) :
          (s.record i).config.kind = .egress ∧ (s.record i).inUse := by
        unfold claimOf at claim
        split at claim
        · cases claim
        · rw [FlowAction.named_eq_some] at claim
          subst claim
          exact State.claimRefusal_eq_none refused
      have fields (o : Option Nat) : (s.claims o).flowMap = s.flowMap ∧ (s.claims o).lanes = s.lanes ∧ (s.claims o).transit = s.transit ∧
          (s.claims o).flowTurn = s.flowTurn ∧ (s.claims o).timebase = s.timebase ∧ (s.claims o).port = s.port := by
        cases o <;> exact ⟨rfl, rfl, rfl, rfl, rfl, rfl⟩
      obtain ⟨flowMap, lanes, transit, flowTurn, timebase, port⟩ := fields (claimOf ((s.flow k).map FlowEntry.action) a)
      cases found : s.flow k with
      | some e =>
        rw [found, Option.map_some] at claimed flowMap lanes transit flowTurn timebase port
        rw [State.addFlow_present found, State.claimFor_eq]
        refine ⟨rfl, lanes, transit, flowTurn, timebase, port, ?_, fun i => ?_, claimed⟩
        · refine ⟨?_, ?_⟩
          · show (((s.claims _).flowMap.map _).map FlowEntry.key).Nodup
            rw [flowMap]
            exact (keys_update s.flowMap k a) ▸ h.keys
          · show ((s.claims _).flowMap.map _).length ≤ _
            rw [List.length_map, flowMap]
            exact h.size
        · have update := namingOf_update h.keys found a i
          have moved := releasedBy_names e.action a i
          have whole : namingOf (s.flowMap.map fun x => if x.key = k then { x with action := a } else x) i +
              (if releasedBy (some e.action) a = some i then 1 else 0) =
              namingOf s.flowMap i + if claimOf (some e.action) a = some i then 1 else 0 := by omega
          show namingOf ((s.claims _).flowMap.map _) i + _ = _
          rw [flowMap]
          exact whole
      | none =>
        rw [found, Option.map_none] at claimed flowMap lanes transit flowTurn timebase port
        rw [found] at full
        rw [State.addFlow_absent found, State.claimFor_eq]
        have room : s.flowMap.length < Config.flowEntries := Nat.lt_of_not_le fun le => full ⟨rfl, le⟩
        refine ⟨rfl, lanes, transit, flowTurn, timebase, port, ?_, fun i => ?_, claimed⟩
        · refine ⟨?_, ?_⟩
          · show (((s.claims _).flowMap ++ _).map FlowEntry.key).Nodup
            rw [flowMap, List.map_append]
            refine List.Nodup.append h.keys (List.nodup_singleton _) fun k' mem new => ?_
            rw [List.map_cons, List.map_nil, List.mem_singleton] at new
            subst new
            obtain ⟨e, me, same⟩ := List.mem_map.mp mem
            exact absurd same (by simpa using List.find?_eq_none.mp found e me)
          · show ((s.claims _).flowMap ++ _).length ≤ _
            rw [flowMap, List.length_append]
            exact room
        · show namingOf ((s.claims _).flowMap ++ _) i + _ = _
          rw [flowMap, namingOf_append, namingOf_cons]
          have new : (if claimOf none a = some i then 1 else 0) = a.names i := by
            unfold claimOf
            rw [if_neg (show ¬ (none : Option FlowAction) = some a from fun e => nomatch e), named_eq]
          rw [Option.map_none, new]
          rfl
  next => exact ⟨none, .unchanged h _⟩

theorem flowChange_removeFlowOwner (h : FlowMapOk s.flowMap) : FlowChange s (removeFlowOwner c s) none := by
  unfold removeFlowOwner
  split
  · exact .unchanged h _
  next k _ =>
    split
    · exact .unchanged h _
    next e found =>
      refine ⟨rfl, rfl, rfl, rfl, rfl, rfl, ?_, fun i => ?_, fun _ none => nomatch none⟩
      · refine ⟨h.keys.sublist ((List.filter_sublist ..).map _), (List.length_filter_le ..).trans h.size⟩
      · have deleted := namingOf_delete h.keys found i
        dsimp only
        rw [named_eq]
        exact deleted

theorem flowChange_readFlowOwner (h : FlowMapOk s.flowMap) : FlowChange s (readFlowOwner c s) none := by
  unfold readFlowOwner
  split
  · exact .unchanged h _
  · split
    · exact .unchanged h _
    · exact .unchanged h _

end Owners

end Sys2Proof.Machine
end

section
/-!
PROOFS. The messages of the engines, taken at their records, keep the records' slots and counts (sections 1.9, 2.1, 2.6, 7.4 and 7.7).
-/

namespace Sys2Proof.Machine

/-! ### What a step keeps of the records and the counts -/

/-- What a step leaves: records whose slots, stages and latches stand together, exact counts, and slots whose numbers have not fallen. -/
structure Kept (s t : State) : Prop where
  ok : ∀ i, (t.record i).Ok
  counts : t.CountsExact
  moves : ∀ i k, ((s.record i).slot k).moves ((t.record i).slot k)

section Kept

variable {s t : State}

theorem Kept.of_same (ok : ∀ i, (s.record i).Ok) (same : ∀ i, t.record i = s.record i) (counts : t.CountsExact) : Kept s t where
  ok i := same i ▸ ok i
  counts := counts
  moves i k := by
    rw [same]
    exact Slot.moves_same rfl rfl rfl

theorem kept_core (s : State) : OfCore (Kept s) := fun t u same h =>
  ⟨fun i => same.record i ▸ h.ok i, countsExact_core t u same h.counts, fun i k => same.record i ▸ h.moves i k⟩

theorem Kept.of_quiet (ok : ∀ i, (s.record i).Ok) (counts : s.CountsExact) (q : Quiet s t) : Kept s t where
  ok i := by
    rcases q.records i with same | ⟨r, moved, same⟩
    · exact same ▸ ok i
    · exact same ▸ moved.ok (ok i)
  counts := counts.of_quiet q ok
  moves i k := by
    rcases q.records i with same | ⟨r, moved, same⟩
    · rw [same]
      exact Slot.moves_same rfl rfl rfl
    · rw [same]
      exact (moved.slots (ok i)).slots k

/-- One record given anew. -/
theorem Kept.of_record {i : Nat} {r : Record} (ok : ∀ i, (s.record i).Ok) (others : ∀ j, j ≠ i → t.record j = s.record j)
    (record : t.record i = r.stored) (hr : r.Ok) (counts : t.CountsExact) (moves : ∀ k, ((s.record i).slot k).moves (r.slot k)) :
    Kept s t where
  ok j := by
    by_cases e : j = i
    · rw [e, record, hr.stored]
      exact hr
    · rw [others j e]
      exact ok j
  counts := counts
  moves j k := by
    by_cases e : j = i
    · rw [e, record, hr.stored]
      exact moves k
    · rw [others j e]
      exact Slot.moves_same rfl rfl rfl

end Kept

/-! ### A message taken at a record -/

section Messages

variable {s t : State} {i n : Nat} {f : SlotNo → Nat}

/-- Counts stay exact where one record counts anew what the engines then hold for it. -/
theorem State.CountsExact.of_message (h : s.CountsExact) (others : ∀ j, j ≠ i → t.record j = s.record j)
    (counts : (s.record i).CountsTo (t.record i) n f) (requests : ∀ l, (t.lane l).egress.requestOk)
    (receivers : ∀ l, (t.lane l).ingress.receiverOk)
    (otherQueues : ∀ m j, j ≠ i → t.transit.enqueues.count (m, j) = s.transit.enqueues.count (m, j) ∧ t.queuedAt m j = s.queuedAt m j)
    (queued : n + ((List.finRange 4).map fun l => t.transit.enqueues.count (l, i)).sum = ((List.finRange 4).map fun l => t.queuedAt l i).sum)
    (enqueues : ∀ m, t.transit.enqueues.count (m, i) ≤ t.queuedAt m i)
    (kept : ∀ l j, (l, j) ∈ t.transit.enqueues → t.namingEntries j = 0 → ∃ c awaited,
      t.flowTurn = some (.releasing c j awaited) ∧ t.transit.enqueues.count (l, j) ≤ awaited.count (l, j))
    (room : n ≤ Config.queuedMax)
    (otherHeld : ∀ j k, j ≠ i → t.egressHeld j k = s.egressHeld j k ∧ t.ingressHeld j k = s.ingressHeld j k)
    (held : ∀ k, f k = t.egressHeld i k + t.ingressHeld i k)
    (egress : (s.record i).config.kind = .egress → ∀ k, t.ingressHeld i k = 0)
    (ingress : (s.record i).config.kind = .ingress → n = 0 ∧ ∀ k, t.egressHeld i k = 0) : t.CountsExact := by
  have idle {kind : Kind} (after : (t.record i).config.kind = kind) : (s.record i).config.kind = kind ∨ (n = 0 ∧ ∀ k, f k = 0) := by
    rcases counts.kind with same | none
    · exact .inl (same.symm.trans after)
    · exact .inr none
  refine ⟨requests, receivers, fun j => ?_, fun m j => ?_, kept, fun j => ?_, fun j kind => ?_, fun j k kind => ?_, fun j k kind => ?_⟩
  · by_cases e : j = i
    · rw [e, counts.queued]
      exact queued
    · rw [others j e, List.map_congr_left fun l _ => (otherQueues l j e).1, List.map_congr_left fun l _ => (otherQueues l j e).2]
      exact h.queued j
  · by_cases e : j = i
    · rw [e]
      exact enqueues m
    · rw [(otherQueues m j e).1, (otherQueues m j e).2]
      exact h.enqueues m j
  · by_cases e : j = i
    · rw [e, counts.queued]
      exact room
    · rw [others j e]
      exact h.queuedRoom j
  · by_cases e : j = i
    · rw [e] at kind ⊢
      rw [counts.queued]
      rcases idle kind with before | ⟨none, -⟩
      · exact (ingress before).1
      · exact none
    · rw [others j e] at kind ⊢
      exact h.waiting j kind
  · by_cases e : j = i
    · rw [e] at kind ⊢
      have total := held k
      rw [counts.inFlight]
      rcases idle kind with before | ⟨-, none⟩
      · have := egress before k
        omega
      · have := none k
        omega
    · rw [others j e] at kind ⊢
      rw [(otherHeld j k e).1, (otherHeld j k e).2]
      exact h.egress j k kind
  · by_cases e : j = i
    · rw [e] at kind ⊢
      have total := held k
      rw [counts.inFlight]
      rcases idle kind with before | ⟨-, none⟩
      · have := (ingress before).2 k
        omega
      · have := none k
        omega
    · rw [others j e] at kind ⊢
      rw [(otherHeld j k e).1, (otherHeld j k e).2]
      exact h.ingress j k kind

/-- A record counts the frames held under its slots. -/
theorem State.CountsExact.inFlight (h : s.CountsExact) (i : Nat) (k : SlotNo) :
    ((s.record i).slot k).inFlight = s.egressHeld i k + s.ingressHeld i k := by
  cases kind : (s.record i).config.kind with
  | egress =>
    have := h.egress i k kind
    omega
  | ingress =>
    have := h.ingress i k kind
    omega

/-- Counts stay exact at a message about a grant: the frames that wait are as they were. -/
theorem State.CountsExact.of_grant (h : s.CountsExact) (others : ∀ j, j ≠ i → t.record j = s.record j)
    (counts : (s.record i).CountsTo (t.record i) (s.record i).queuedFrames f) (requests : ∀ l, (t.lane l).egress.requestOk)
    (receivers : ∀ l, (t.lane l).ingress.receiverOk) (sent : t.transit.enqueues = s.transit.enqueues)
    (queuedAt : ∀ m j, t.queuedAt m j = s.queuedAt m j) (flowMap : t.flowMap = s.flowMap) (flowTurn : t.flowTurn = s.flowTurn)
    (otherHeld : ∀ j k, j ≠ i → t.egressHeld j k = s.egressHeld j k ∧ t.ingressHeld j k = s.ingressHeld j k)
    (held : ∀ k, f k = t.egressHeld i k + t.ingressHeld i k)
    (egress : (s.record i).config.kind = .egress → ∀ k, t.ingressHeld i k = 0)
    (ingress : (s.record i).config.kind = .ingress → ∀ k, t.egressHeld i k = 0) : t.CountsExact := by
  refine h.of_message others counts requests receivers (fun m j _ => ⟨by rw [sent], queuedAt m j⟩) ?_ (fun m => ?_) (fun l j mem none => ?_)
    (h.queuedRoom i) otherHeld held egress fun kind => ⟨h.waiting i kind, ingress kind⟩
  · rw [sent, List.map_congr_left fun l _ => queuedAt l i]
    exact h.queued i
  · rw [sent, queuedAt]
    exact h.enqueues m i
  · rw [sent] at mem ⊢
    rw [flowTurn]
    refine h.kept l j mem ?_
    rw [← none]
    unfold State.namingEntries
    rw [flowMap]

end Messages

/-! ### Enqueues and withdrawals -/

section Queues

variable {s : State} (h : s.CountsExact) (ok : ∀ i, (s.record i).Ok) (l : LaneId) (i : Nat)

theorem count_erase_pair (xs : List (LaneId × Nat)) (l m : LaneId) (i j : Nat) (mem : (l, i) ∈ xs) :
    (xs.erase (l, i)).count (m, j) + (if l = m ∧ i = j then 1 else 0) = xs.count (m, j) := by
  have counted := (List.perm_cons_erase mem).count_eq (m, j)
  rw [List.count_cons] at counted
  simp only [beq_iff_eq, Prod.mk.injEq] at counted
  exact counted.symm

include h in
/-- An enqueue in transit goes to an EGRESS record that is in use (R84). -/
theorem State.CountsExact.enqueue_goes (refs : s.ReferencesExact) (mem : (l, i) ∈ s.transit.enqueues) :
    (s.record i).config.kind = .egress ∧ (s.record i).inUse := by
  by_cases named : s.namingEntries i = 0
  · obtain ⟨c, awaited, turn, -⟩ := h.kept l i mem named
    exact refs.releasing i (by unfold State.releasingRecord; rw [turn])
  · obtain ⟨e, me⟩ := List.exists_mem_of_length_pos (Nat.pos_of_ne_zero named)
    rw [List.mem_filter, beq_iff_eq] at me
    exact refs.named e me.1 i me.2

theorem State.record_takeEnqueue (j : Nat) : (s.takeEnqueue l i).record j = if i = j then (s.record i).gainQueued.stored else s.record j :=
  State.record_setRecord_stored ..

include h ok in
theorem kept_takeEnqueue (refs : s.ReferencesExact) (mem : (l, i) ∈ s.transit.enqueues) (room : (s.record i).queuedFrames < Config.queuedMax) :
    Kept s (s.takeEnqueue l i) := by
  obtain ⟨kind, inUse⟩ := h.enqueue_goes l i refs mem
  have gained := Record.ok_gainQueued (ok i) (Record.inUse_ne_free inUse)
  have others (j : Nat) (ne : j ≠ i) : (s.takeEnqueue l i).record j = s.record j := by rw [State.record_takeEnqueue, if_neg ne.symm]
  have record : (s.takeEnqueue l i).record i = (s.record i).gainQueued.stored := by rw [State.record_takeEnqueue, if_pos rfl]
  have taken (m : LaneId) (j : Nat) : (s.takeEnqueue l i).transit.enqueues.count (m, j) + (if l = m ∧ i = j then 1 else 0) =
      s.transit.enqueues.count (m, j) := count_erase_pair _ l m i j mem
  have held (k : SlotNo) : ((s.record i).slot k).inFlight = s.egressHeld i k + s.ingressHeld i k := h.inFlight i k
  refine Kept.of_record ok others record gained ?_ fun k => Slot.moves_same rfl rfl rfl
  refine h.of_message (n := (s.record i).queuedFrames + 1) (f := fun k => ((s.record i).slot k).inFlight) others ?_ h.requests h.receivers
    (fun m j ne => ⟨?_, rfl⟩) ?_ (fun m => ?_) (fun m j mem' none => ?_) room (fun _ _ _ => ⟨rfl, rfl⟩) held
    (fun e k => (h.egress i k e).2) fun e => nomatch kind.symm.trans e
  · rw [record, gained.stored]
    exact ⟨rfl, fun _ => rfl, .inl rfl⟩
  · have := taken m j
    rw [if_neg fun both => ne both.2.symm] at this
    exact this
  · have counted : (s.record i).queuedFrames + ((List.finRange 4).map fun m => s.transit.enqueues.count (m, i)).sum =
        ((List.finRange 4).map fun m => s.queuedAt m i).sum := h.queued i
    have change : ((List.finRange 4).map fun m => (s.takeEnqueue l i).transit.enqueues.count (m, i)).sum + s.transit.enqueues.count (l, i) =
        ((List.finRange 4).map fun m => s.transit.enqueues.count (m, i)).sum + (s.takeEnqueue l i).transit.enqueues.count (l, i) :=
      sum_four_change l fun m ne => (by
        have := taken m i
        rw [if_neg fun both => ne both.1.symm] at this
        exact this : (s.takeEnqueue l i).transit.enqueues.count (m, i) = s.transit.enqueues.count (m, i))
    have one := taken l i
    rw [if_pos ⟨rfl, rfl⟩] at one
    have same : ((List.finRange 4).map fun m => (s.takeEnqueue l i).queuedAt m i).sum = ((List.finRange 4).map fun m => s.queuedAt m i).sum := rfl
    have whole : (s.record i).queuedFrames + 1 + ((List.finRange 4).map fun m => (s.takeEnqueue l i).transit.enqueues.count (m, i)).sum =
        ((List.finRange 4).map fun m => (s.takeEnqueue l i).queuedAt m i).sum := by omega
    exact whole
  · have := taken m i
    have bound : s.transit.enqueues.count (m, i) ≤ s.queuedAt m i := h.enqueues m i
    have same : (s.takeEnqueue l i).queuedAt m i = s.queuedAt m i := rfl
    omega
  · obtain ⟨c, awaited, turn, waited⟩ := h.kept m j (List.mem_of_mem_erase mem') none
    refine ⟨c, awaited.erase (l, i), ?_, ?_⟩
    · show s.flowTurn.map _ = _
      rw [turn]
      rfl
    · have := taken m j
      rw [List.count_erase]
      simp only [beq_iff_eq, Prod.mk.injEq]
      split_ifs at this ⊢ <;> omega

/-- A record with a queued frame is an EGRESS record that is not FREE. -/
theorem State.CountsExact.queued_goes (h : s.CountsExact) (ok : ∀ i, (s.record i).Ok) {i : Nat} (queued : 0 < (s.record i).queuedFrames) :
    (s.record i).config.kind = .egress ∧ (s.record i).state ≠ .free := by
  refine ⟨?_, fun free => ?_⟩
  · cases kind : (s.record i).config.kind with
    | egress => rfl
    | ingress =>
      have := h.waiting i kind
      omega
  · rw [(ok i).free free] at queued
    cases queued

include h in
/-- A frame that waits and whose enqueue has been taken is one that its record counts. -/
theorem State.CountsExact.queued_pos (taken : s.transit.enqueues.count (l, i) < s.queuedAt l i) : 0 < (s.record i).queuedFrames := by
  have counted : (s.record i).queuedFrames + ((List.finRange 4).map fun m => s.transit.enqueues.count (m, i)).sum =
      ((List.finRange 4).map fun m => s.queuedAt m i).sum := h.queued i
  have less : ((List.finRange 4).map fun m => s.transit.enqueues.count (m, i)).sum < ((List.finRange 4).map fun m => s.queuedAt m i).sum :=
    List.sum_lt_sum _ _ (fun m _ => h.enqueues m i) ⟨l, List.mem_finRange l, taken⟩
  omega

theorem State.record_takeWithdrawal (j : Nat) :
    (s.takeWithdrawal l i).record j = if i = j then (s.record i).loseQueued.freeWhenDrained.stored else s.record j :=
  State.record_setRecord_stored ..

include h ok in
theorem kept_takeWithdrawal (mem : (l, i) ∈ s.transit.withdrawals)
    (own : s.transit.enqueues.count (l, i) < s.queuedEntries l i + s.transit.withdrawals.count (l, i)) : Kept s (s.takeWithdrawal l i) := by
  have waits : s.queuedEntries l i + s.transit.withdrawals.count (l, i) ≤ s.queuedAt l i := by
    rw [State.queuedAt_eq, State.queuedEntries_eq]
    unfold EgressEngine.waiting
    omega
  have queued := h.queued_pos l i (Nat.lt_of_lt_of_le own waits)
  obtain ⟨kind, present⟩ := h.queued_goes ok queued
  have lost := (Record.ok_loseQueued (ok i) present).freeWhenDrained
  have others (j : Nat) (ne : j ≠ i) : (s.takeWithdrawal l i).record j = s.record j := by rw [State.record_takeWithdrawal, if_neg ne.symm]
  have record : (s.takeWithdrawal l i).record i = (s.record i).loseQueued.freeWhenDrained.stored := by
    rw [State.record_takeWithdrawal, if_pos rfl]
  have taken (m : LaneId) (j : Nat) : (s.takeWithdrawal l i).queuedAt m j + (if l = m ∧ i = j then 1 else 0) = s.queuedAt m j := by
    have erased : (s.takeWithdrawal l i).transit.withdrawals.count (m, j) + (if l = m ∧ i = j then 1 else 0) =
        s.transit.withdrawals.count (m, j) := count_erase_pair _ l m i j mem
    have lane : (s.takeWithdrawal l i).lane m = s.lane m := rfl
    rw [State.queuedAt_eq, State.queuedAt_eq, lane]
    omega
  have one := taken l i
  rw [if_pos ⟨rfl, rfl⟩] at one
  refine Kept.of_record ok others record lost ?_
    fun k => Record.slots_moves_freeWhenDrained (r' := (s.record i).loseQueued) (fun k => Slot.moves_same rfl rfl rfl) k
  refine h.of_message (n := (s.record i).queuedFrames - 1) (f := fun k => ((s.record i).slot k).inFlight) others ?_ h.requests h.receivers
    (fun m j ne => ⟨rfl, ?_⟩) ?_ (fun m => ?_) h.kept ((Nat.sub_le ..).trans (h.queuedRoom i)) (fun _ _ _ => ⟨rfl, rfl⟩) (h.inFlight i)
    (fun e k => (h.egress i k e).2) fun e => nomatch kind.symm.trans e
  · rw [record, lost.stored]
    exact Record.CountsTo.freeWhenDrained ⟨rfl, fun _ => rfl, .inl rfl⟩
  · have := taken m j
    rw [if_neg fun both => ne both.2.symm] at this
    exact this
  · have counted : (s.record i).queuedFrames + ((List.finRange 4).map fun m => s.transit.enqueues.count (m, i)).sum =
        ((List.finRange 4).map fun m => s.queuedAt m i).sum := h.queued i
    have change : ((List.finRange 4).map fun m => (s.takeWithdrawal l i).queuedAt m i).sum + s.queuedAt l i =
        ((List.finRange 4).map fun m => s.queuedAt m i).sum + (s.takeWithdrawal l i).queuedAt l i :=
      sum_four_change l fun m ne => (by
        have := taken m i
        rw [if_neg fun both => ne both.1.symm] at this
        exact this : (s.takeWithdrawal l i).queuedAt m i = s.queuedAt m i)
    have same : ((List.finRange 4).map fun m => (s.takeWithdrawal l i).transit.enqueues.count (m, i)).sum =
      ((List.finRange 4).map fun m => s.transit.enqueues.count (m, i)).sum := rfl
    have whole : (s.record i).queuedFrames - 1 + ((List.finRange 4).map fun m => (s.takeWithdrawal l i).transit.enqueues.count (m, i)).sum =
        ((List.finRange 4).map fun m => (s.takeWithdrawal l i).queuedAt m i).sum := by omega
    exact whole
  · have := taken m i
    have same : (s.takeWithdrawal l i).transit.enqueues.count (m, i) = s.transit.enqueues.count (m, i) := rfl
    have bound : s.transit.enqueues.count (m, i) ≤ s.queuedAt m i := h.enqueues m i
    by_cases e : l = m
    · subst e
      omega
    · rw [if_neg fun both => e both.1] at this
      omega

end Queues

end Sys2Proof.Machine
end

section
/-!
PROOFS. The requests and messages about grants, taken at their records, keep the records' slots and counts (sections 2.1, 2.6, 7.4 and
7.7).
-/

namespace Sys2Proof.Machine

/-! ### Allocation -/

section Allocation

variable {s : State} (h : s.CountsExact) (ok : ∀ i, (s.record i).Ok) {l : LaneId} {q : AllocationRequest}
  (asked : (s.lane l).egress.openRequest = some q)

theorem EgressEngine.openRequest_eq {e : EgressEngine} (h : e.openRequest = some q) : e.answer = none ∧ e.request = some q := by
  unfold EgressEngine.openRequest at h
  split at h
  next answer => exact ⟨answer, h⟩
  next => cases h

theorem Record.CountsTo.congr {r r' : Record} {n : Nat} {f g : SlotNo → Nat} (h : r.CountsTo r' n f) (same : ∀ k, f k = g k) :
    r.CountsTo r' n g := (funext same : f = g) ▸ h

/-- An allocation's record after it counts what the answer grants (R28). -/
theorem Record.allocate_holds {r : Record} (present : r.state ≠ .free) (i : Nat) (l : LaneId) (n t : Nat) :
    r.CountsTo (r.allocate i l n t).1 (r.queuedFrames - 1)
      (fun k => (r.slot k).inFlight + AllocationAnswer.holds (some (r.allocate i l n t).2) i k) := by
  rcases Record.allocate_counts present i l n t with ⟨why, refused, counts⟩ | ⟨g, granted, record, slot, counts⟩
  · rw [refused]
    exact counts
  · rw [granted]
    refine counts.congr fun k => ?_
    show _ = _ + g.under i k
    unfold EgressGrant.under
    rw [record, slot]
    simp only [true_and]

theorem AllocationAnswer.holds_other {a : AllocationAnswer} {i j : Nat} (h : ∀ g, a = .granted g → g.record = i) (ne : j ≠ i) (k : SlotNo) :
    AllocationAnswer.holds (some a) j k = 0 := by
  cases a with
  | refused why => rfl
  | granted g => exact if_neg fun both => ne (both.1.symm.trans (h g rfl))

theorem State.record_takeAllocation (l : LaneId) (q : AllocationRequest) (j : Nat) : (s.takeAllocation l q).record j =
    if q.record = j then ((s.record q.record).allocate q.record l q.protectedOctets s.timebase.tickCount).1.stored else s.record j :=
  State.record_setRecord_stored ..

include h ok asked in
theorem kept_takeAllocation (due : s.allocationDue l q = true) : Kept s (s.takeAllocation l q) := by
  obtain ⟨answer, request⟩ := EgressEngine.openRequest_eq asked
  obtain ⟨own, room⟩ := (Bool.and_eq_true _ _).mp due
  rw [decide_eq_true_eq] at own
  have asking : ∀ j, (s.lane l).egress.asking j = if q.record = j then 1 else 0 := fun j => by
    unfold EgressEngine.asking
    rw [asked]
  have waits : s.transit.enqueues.count (l, q.record) < s.queuedAt l q.record := by
    have one := asking q.record
    rw [if_pos rfl] at one
    rw [State.queuedAt_eq]
    rw [State.queuedEntries_eq] at own
    unfold EgressEngine.waiting
    omega
  have queued := h.queued_pos l q.record waits
  obtain ⟨kind, present⟩ := h.queued_goes ok queued
  have counts := Record.allocate_holds present q.record l q.protectedOctets s.timebase.tickCount
  have granted : ∀ g, ((s.record q.record).allocate q.record l q.protectedOctets s.timebase.tickCount).2 = .granted g →
      g.record = q.record ∧ g.slot = (s.record q.record).currentSlot := fun g hg => by
    rcases Record.allocate_counts present q.record l q.protectedOctets s.timebase.tickCount with ⟨why, refused, -⟩ | ⟨g', same, record, slot, -⟩
    · cases refused.symm.trans hg
    · cases same.symm.trans hg
      exact ⟨record, slot⟩
  have below : ∀ g, ((s.record q.record).allocate q.record l q.protectedOctets s.timebase.tickCount).2 = .granted g →
      (s.record q.record).currentPosition.inFlight < Config.egressInFlight := fun g hg => by
    obtain ⟨record, slot⟩ := granted g hg
    unfold State.allocationOverfills at room
    rw [hg] at room
    simp only [record, slot, Bool.not_eq_true', decide_eq_false_iff_not] at room
    exact Nat.lt_of_not_le room
  have hr := Record.ok_allocate (ok q.record) present kind q.record l q.protectedOctets s.timebase.tickCount below
  have moves := Record.allocate_moves (ok q.record) q.record l q.protectedOctets s.timebase.tickCount present
  have record := State.record_takeAllocation (s := s) l q
  have lane (m : LaneId) : (s.takeAllocation l q).lane m = if l = m then (s.lane l).withEgress { (s.lane l).egress with
      answer := some ((s.record q.record).allocate q.record l q.protectedOctets s.timebase.tickCount).2 } else s.lane m :=
    State.lane_setLane ..
  have others (j : Nat) (ne : j ≠ q.record) : (s.takeAllocation l q).record j = s.record j := by rw [record, if_neg ne.symm]
  have at_record := record q.record
  rw [if_pos rfl] at at_record
  generalize (s.record q.record).allocate q.record l q.protectedOctets s.timebase.tickCount = judged at *
  have queuedAt (m : LaneId) (j : Nat) : (s.takeAllocation l q).queuedAt m j + (if l = m ∧ q.record = j then 1 else 0) = s.queuedAt m j := by
    have withdrawals : (s.takeAllocation l q).transit.withdrawals = s.transit.withdrawals := rfl
    rw [State.queuedAt_eq, State.queuedAt_eq, withdrawals, lane]
    by_cases e : l = m
    · subst e
      have before := asking j
      have after : ((s.lane l).withEgress { (s.lane l).egress with answer := some judged.2 }).egress.waiting j =
          queuedFor (s.lane l).egress.buffer j := rfl
      rw [if_pos rfl, after]
      unfold EgressEngine.waiting
      simp only [true_and]
      omega
    · rw [if_neg e, if_neg fun both => e both.1]
      rfl
  have egressHeld (j : Nat) (k : SlotNo) : (s.takeAllocation l q).egressHeld j k = s.egressHeld j k + AllocationAnswer.holds (some judged.2) j k := by
    have change := sum_lanes_change (s := s) (t := s.takeAllocation l q) (fun v => v.egress.holds j k) l fun m hm => by
      rw [lane, if_neg hm.symm]
    have releases : (s.takeAllocation l q).transit.releases = s.transit.releases := rfl
    have before : (s.lane l).egress.holds j k = 0 + (s.lane l).egress.store0.holds j k + (s.lane l).egress.store1.holds j k := by
      rw [EgressEngine.holds_eq, answer]
      rfl
    have after : ((s.takeAllocation l q).lane l).egress.holds j k =
        AllocationAnswer.holds (some judged.2) j k + (s.lane l).egress.store0.holds j k + (s.lane l).egress.store1.holds j k := by
      rw [lane, if_pos rfl]
      rfl
    rw [State.egressHeld_eq, State.egressHeld_eq, releases]
    omega
  have ingressHeld (j : Nat) (k : SlotNo) : (s.takeAllocation l q).ingressHeld j k = s.ingressHeld j k := by
    have change := sum_lanes_change (s := s) (t := s.takeAllocation l q) (fun v => v.ingress.holds j k) l fun m hm => by
      rw [lane, if_neg hm.symm]
    have abandons : (s.takeAllocation l q).transit.abandons = s.transit.abandons := rfl
    have same : ((s.takeAllocation l q).lane l).ingress.holds j k = (s.lane l).ingress.holds j k := by
      rw [lane, if_pos rfl]
      rfl
    rw [State.ingressHeld_eq, State.ingressHeld_eq, abandons]
    omega
  have one := queuedAt l q.record
  rw [if_pos ⟨rfl, rfl⟩] at one
  rw [← hr.stored, ← at_record] at counts
  refine Kept.of_record ok others at_record hr (h.of_message others counts (fun m => ?_) (fun m => ?_) (fun m j ne => ⟨rfl, ?_⟩) ?_
    (fun m => ?_) h.kept ((Nat.sub_le ..).trans (h.queuedRoom q.record)) (fun j k ne => ⟨?_, ingressHeld j k⟩) (fun k => ?_)
    (fun e k => ?_) fun e => nomatch kind.symm.trans e) moves
  · rw [lane]
    split
    · obtain ⟨-, reserved⟩ := h.requests l
      exact ⟨fun _ => congrArg Option.isSome request, reserved⟩
    · exact h.requests m
  · rw [lane]
    split
    · exact h.receivers l
    · exact h.receivers m
  · have := queuedAt m j
    rw [if_neg fun both => ne both.2.symm] at this
    exact this
  · have counted : (s.record q.record).queuedFrames + ((List.finRange 4).map fun m => s.transit.enqueues.count (m, q.record)).sum =
        ((List.finRange 4).map fun m => s.queuedAt m q.record).sum := h.queued q.record
    have change : ((List.finRange 4).map fun m => (s.takeAllocation l q).queuedAt m q.record).sum + s.queuedAt l q.record =
        ((List.finRange 4).map fun m => s.queuedAt m q.record).sum + (s.takeAllocation l q).queuedAt l q.record :=
      sum_four_change l fun m ne => (by
        have := queuedAt m q.record
        rw [if_neg fun both => ne both.1.symm] at this
        exact this : (s.takeAllocation l q).queuedAt m q.record = s.queuedAt m q.record)
    have whole : (s.record q.record).queuedFrames - 1 + ((List.finRange 4).map fun m => s.transit.enqueues.count (m, q.record)).sum =
        ((List.finRange 4).map fun m => (s.takeAllocation l q).queuedAt m q.record).sum := by omega
    exact whole
  · have := queuedAt m q.record
    have same : (s.takeAllocation l q).transit.enqueues.count (m, q.record) = s.transit.enqueues.count (m, q.record) := rfl
    have bound : s.transit.enqueues.count (m, q.record) ≤ s.queuedAt m q.record := h.enqueues m q.record
    by_cases e : l = m
    · subst e
      omega
    · rw [if_neg fun both => e both.1] at this
      omega
  · rw [egressHeld, AllocationAnswer.holds_other (fun g hg => (granted g hg).1) ne]
    rfl
  · rw [egressHeld, ingressHeld, h.inFlight]
    omega
  · rw [ingressHeld]
    exact (h.egress q.record k e).2

end Allocation

/-! ### Releases and abandons -/

section Ends

variable {s : State} (h : s.CountsExact) (ok : ∀ i, (s.record i).Ok)

theorem releasesOf_erase {ms : List ReleaseMsg} {m : ReleaseMsg} (mem : m ∈ ms) (i : Nat) (k : SlotNo) :
    releasesOf (ms.erase m) i k + (if m.record = i ∧ m.slot = k then 1 else 0) = releasesOf ms i k := by
  have counted : releasesOf ms i k = releasesOf (m :: ms.erase m) i k := ((List.perm_cons_erase mem).filter _).length_eq
  have split : releasesOf ([m] ++ ms.erase m) i k = releasesOf [m] i k + releasesOf (ms.erase m) i k := releasesOf_append ..
  rw [releasesOf_one] at split
  exact (Nat.add_comm _ _).trans (split.symm.trans counted.symm)

theorem abandonsOf_erase {ms : List AbandonMsg} {m : AbandonMsg} (mem : m ∈ ms) (i : Nat) (k : SlotNo) :
    abandonsOf (ms.erase m) i k + (if m.record = i ∧ m.slot = k then 1 else 0) = abandonsOf ms i k := by
  have counted : abandonsOf ms i k = abandonsOf (m :: ms.erase m) i k := ((List.perm_cons_erase mem).filter _).length_eq
  have split : abandonsOf ([m] ++ ms.erase m) i k = abandonsOf [m] i k + abandonsOf (ms.erase m) i k := abandonsOf_append ..
  rw [abandonsOf_one] at split
  exact (Nat.add_comm _ _).trans (split.symm.trans counted.symm)

/-- The end of a frame's grant, after a counter is raised (R37, R73). -/
theorem Record.ended_keeps {r : Record} (hr : r.Ok) {k : SlotNo} (held : 0 < (r.slot k).inFlight) (c : RecordCounters) (t : Nat) :
    ((({ r with counters := c } : Record).endGrant k t).freeWhenDrained).Ok ∧
      r.CountsTo (({ r with counters := c } : Record).endGrant k t).freeWhenDrained r.queuedFrames (r.heldWithout k) ∧
      ∀ j, (r.slot j).moves (((({ r with counters := c } : Record).endGrant k t).freeWhenDrained).slot j) := by
  have counted : ({ r with counters := c } : Record).Ok := Record.ok_counters hr (Record.present_of_held hr held) c
  have heldStill : 0 < (({ r with counters := c } : Record).slot k).inFlight := held
  have ended := Record.endGrant_counts ({ r with counters := c } : Record) k t
  exact ⟨(Record.ok_endGrant counted heldStill t).freeWhenDrained, Record.CountsTo.freeWhenDrained ⟨ended.queued, ended.inFlight, ended.kind⟩,
    Record.slots_moves_freeWhenDrained fun j => Record.endGrant_moves counted k t j⟩

include h ok in
theorem kept_takeRelease {m : ReleaseMsg} (mem : m ∈ s.transit.releases) : Kept s (s.takeRelease m) := by
  have erased (i : Nat) (k : SlotNo) : (s.takeRelease m).egressHeld i k + (if m.record = i ∧ m.slot = k then 1 else 0) = s.egressHeld i k := by
    have taken : releasesOf (s.takeRelease m).transit.releases i k + (if m.record = i ∧ m.slot = k then 1 else 0) =
        releasesOf s.transit.releases i k := releasesOf_erase mem i k
    have lanes : (s.takeRelease m).lanes = s.lanes := rfl
    rw [State.egressHeld_eq, State.egressHeld_eq, lanes]
    omega
  have one := erased m.record m.slot
  rw [if_pos ⟨rfl, rfl⟩] at one
  have kind : (s.record m.record).config.kind = .egress := by
    cases kind : (s.record m.record).config.kind with
    | egress => rfl
    | ingress =>
      have := (h.ingress m.record m.slot kind).2
      omega
  have held : 0 < ((s.record m.record).slot m.slot).inFlight := by
    have := (h.egress m.record m.slot kind).1
    omega
  obtain ⟨ended, counts, moves⟩ := Record.ended_keeps (ok m.record) held ((s.record m.record).counters.released m) s.timebase.tickCount
  have hr : ((s.record m.record).release m s.timebase.tickCount).Ok := ended
  have record : ∀ j, (s.takeRelease m).record j = if m.record = j then ((s.record m.record).release m s.timebase.tickCount).stored
      else s.record j := fun j => State.record_setRecord_stored ..
  have others (j : Nat) (ne : j ≠ m.record) : (s.takeRelease m).record j = s.record j := by rw [record, if_neg ne.symm]
  have at_record := record m.record
  rw [if_pos rfl] at at_record
  refine Kept.of_record ok others at_record hr (h.of_grant (f := (s.record m.record).heldWithout m.slot) others ?_ h.requests h.receivers rfl
    (fun _ _ => rfl) rfl rfl (fun j k ne => ⟨?_, rfl⟩) (fun k => ?_) (fun e k => (h.egress m.record k e).2)
    fun e => nomatch kind.symm.trans e) moves
  · rw [at_record, hr.stored]
    exact counts
  · have := erased j k
    rw [if_neg fun both => ne both.1.symm] at this
    exact this
  · have total : ((s.record m.record).slot k).inFlight = s.egressHeld m.record k ∧ s.ingressHeld m.record k = 0 := h.egress m.record k kind
    have same : (s.takeRelease m).ingressHeld m.record k = s.ingressHeld m.record k := rfl
    have := erased m.record k
    unfold Record.heldWithout
    simp only [true_and] at this
    split_ifs at this ⊢ <;> omega

include h ok in
theorem kept_takeAbandon {m : AbandonMsg} (mem : m ∈ s.transit.abandons) : Kept s (s.takeAbandon m) := by
  have erased (i : Nat) (k : SlotNo) : (s.takeAbandon m).ingressHeld i k + (if m.record = i ∧ m.slot = k then 1 else 0) = s.ingressHeld i k := by
    have taken : abandonsOf (s.takeAbandon m).transit.abandons i k + (if m.record = i ∧ m.slot = k then 1 else 0) =
        abandonsOf s.transit.abandons i k := abandonsOf_erase mem i k
    have lanes : (s.takeAbandon m).lanes = s.lanes := rfl
    rw [State.ingressHeld_eq, State.ingressHeld_eq, lanes]
    omega
  have one := erased m.record m.slot
  rw [if_pos ⟨rfl, rfl⟩] at one
  have kind : (s.record m.record).config.kind = .ingress := by
    cases kind : (s.record m.record).config.kind with
    | ingress => rfl
    | egress =>
      have := (h.egress m.record m.slot kind).2
      omega
  have held : 0 < ((s.record m.record).slot m.slot).inFlight := by
    have := (h.ingress m.record m.slot kind).1
    omega
  obtain ⟨ended, counts, moves⟩ := Record.ended_keeps (ok m.record) held ((s.record m.record).counters.abandoned m.reason) s.timebase.tickCount
  have hr : ((s.record m.record).abandon m s.timebase.tickCount).Ok := ended
  have record : ∀ j, (s.takeAbandon m).record j = if m.record = j then ((s.record m.record).abandon m s.timebase.tickCount).stored
      else s.record j := fun j => State.record_setRecord_stored ..
  have others (j : Nat) (ne : j ≠ m.record) : (s.takeAbandon m).record j = s.record j := by rw [record, if_neg ne.symm]
  have at_record := record m.record
  rw [if_pos rfl] at at_record
  refine Kept.of_record ok others at_record hr (h.of_grant (f := (s.record m.record).heldWithout m.slot) others ?_ h.requests h.receivers rfl
    (fun _ _ => rfl) rfl rfl (fun j k ne => ⟨rfl, ?_⟩) (fun k => ?_) (fun e => nomatch kind.symm.trans e)
    fun e k => (h.ingress m.record k e).2) moves
  · rw [at_record, hr.stored]
    exact counts
  · have := erased j k
    rw [if_neg fun both => ne both.1.symm] at this
    exact this
  · have total : ((s.record m.record).slot k).inFlight = s.ingressHeld m.record k ∧ s.egressHeld m.record k = 0 := h.ingress m.record k kind
    have same : (s.takeAbandon m).egressHeld m.record k = s.egressHeld m.record k := rfl
    have := erased m.record k
    unfold Record.heldWithout
    simp only [true_and] at this
    split_ifs at this ⊢ <;> omega

end Ends

/-! ### Lookups and commits -/

section Requests

variable {s t : State} (h : s.CountsExact) (ok : ∀ i, (s.record i).Ok) {l : LaneId} {k : StoreId} {f f' : FrameStore}

/-- What a lane's engine holds once one of its frame stores is given a new status. -/
theorem IngressEngine.setStore_holds (g : IngressEngine) (j : StoreId) (f : FrameStore) (i : Nat) (k : SlotNo) :
    (g.setStore j f).holds i k + FrameStore.holds (g.store j) i k = g.holds i k + FrameStore.holds (some f) i k := by
  rw [IngressEngine.holds_eq, IngressEngine.holds_eq]
  have change := sum_four_change (f := fun m => FrameStore.holds (g.store m) i k)
    (g := fun m => FrameStore.holds ((g.setStore j f).store m) i k) j fun m hm => by rw [IngressEngine.store_setStore, if_neg hm.symm]
  rw [IngressEngine.store_setStore, if_pos rfl] at change
  exact change

/-- A frame store is given the answer to its request, and a record may change with it. -/
structure Answers (s t : State) (l : LaneId) (k : StoreId) (f : FrameStore) : Prop where
  lanes : t.lanes = (s.setLane l ((s.lane l).withIngress ((s.lane l).ingress.setStore k f))).lanes
  transit : t.transit = { s.transit with evidence := t.transit.evidence }
  flowMap : t.flowMap = s.flowMap
  flowTurn : t.flowTurn = s.flowTurn

theorem Answers.lane (given : Answers s t l k f') (m : LaneId) :
    t.lane m = if l = m then (s.lane l).withIngress ((s.lane l).ingress.setStore k f') else s.lane m :=
  (State.lane_congr given.lanes m).trans (State.lane_setLane ..)

theorem Answers.egress (given : Answers s t l k f') (m : LaneId) : (t.lane m).egress = (s.lane m).egress := by
  rw [given.lane]
  split
  next e => exact e ▸ rfl
  next => rfl

theorem Answers.ingressHeld (given : Answers s t l k f') (i : Nat) (j : SlotNo) :
    t.ingressHeld i j + FrameStore.holds ((s.lane l).ingress.store k) i j = s.ingressHeld i j + FrameStore.holds (some f') i j := by
  have change := sum_lanes_change (s := s) (t := t) (fun v => v.ingress.holds i j) l fun m hm => by rw [given.lane, if_neg hm.symm]
  have one := IngressEngine.setStore_holds (s.lane l).ingress k f' i j
  have after : (t.lane l).ingress.holds i j = ((s.lane l).ingress.setStore k f').holds i j := by
    rw [given.lane, if_pos rfl]
    rfl
  have abandons : t.transit.abandons = s.transit.abandons := by rw [given.transit]
  rw [State.ingressHeld_eq, State.ingressHeld_eq, abandons]
  omega

include h in
/-- An answer given at a frame store, with the record that counts its grant. -/
theorem State.CountsExact.of_answer {i : Nat} {held : SlotNo → Nat} (given : Answers s t l k f') (store : (s.lane l).ingress.store k = some f)
    (busy : f.status ≠ .receiving) (kind : (s.record i).config.kind = .ingress) (others : ∀ j, j ≠ i → t.record j = s.record j)
    (counts : (s.record i).CountsTo (t.record i) (s.record i).queuedFrames held)
    (otherGrants : ∀ j m, j ≠ i → FrameStore.holds (some f') j m = FrameStore.holds (some f) j m)
    (grants : ∀ m, held m + FrameStore.holds (some f) i m = ((s.record i).slot m).inFlight + FrameStore.holds (some f') i m) :
    t.CountsExact := by
  have egressHeld (j : Nat) (m : SlotNo) : t.egressHeld j m = s.egressHeld j m := by
    have releases : t.transit.releases = s.transit.releases := by rw [given.transit]
    rw [State.egressHeld_eq, State.egressHeld_eq, releases, State.lanes_toList, State.lanes_toList, List.map_map, List.map_map]
    exact congrArg (· + _) (congrArg List.sum (List.map_congr_left fun n _ => by
      rw [Function.comp_apply, Function.comp_apply, given.egress]))
  have ingressHeld := given.ingressHeld
  rw [store] at ingressHeld
  refine h.of_grant others counts (fun m => by rw [given.egress]; exact h.requests m) (fun m => ?_) (by rw [given.transit]) (fun m j => ?_)
    given.flowMap given.flowTurn (fun j m ne => ⟨egressHeld j m, ?_⟩) (fun m => ?_) (fun e => nomatch kind.symm.trans e) fun e m => ?_
  · rw [given.lane]
    split
    · exact IngressEngine.receiverOk_of_others (g := (s.lane l).ingress) rfl
        (fun n ne => by
          show ((s.lane l).ingress.setStore k f').store n = _
          rw [IngressEngine.store_setStore, if_neg ne.symm])
        (IngressEngine.away_of_status store busy (h.receivers l)) (h.receivers l)
    · exact h.receivers m
  · rw [State.queuedAt_eq, State.queuedAt_eq, given.egress, given.transit]
  · have := ingressHeld j m
    have := otherGrants j m ne
    omega
  · have := ingressHeld i m
    have := grants m
    have := h.inFlight i m
    have := egressHeld i m
    omega
  · rw [egressHeld]
    exact (h.ingress i m e).2

include h ok in
theorem kept_takeLookup (refs : s.ReferencesExact) {octets : Frame} {e : EnvelopeFields} (store : (s.lane l).ingress.store k = some f)
    (status : f.status = .lookup octets e none) (room : s.lookupOverfills l e = false) : Kept s (s.takeLookup l k f octets e) := by
  have busy : f.status ≠ .receiving := by rw [status]; exact fun e => nomatch e
  have idle : FrameStore.idle (some f) := FrameStore.idle_of_openGrant (by unfold FrameStore.openGrant; rw [status])
  unfold State.takeLookup State.judgeLookup
  unfold State.lookupOverfills State.judgeLookup at room
  cases tagged : s.tagged e.tag with
  | none =>
    exact Kept.of_same ok (fun _ => rfl) (h.setLane ⟨.refl _, IngressKeeps.set (IngressEngine.away_of_status store busy) fun i j => by
      rw [store, idle i j]
      exact FrameStore.idle_of_openGrant (f := { f with status := .lookup octets e (some (.refused .unknownTag)) }) rfl i j⟩)
  | some i =>
    rw [tagged] at room
    dsimp only at room ⊢
    have leads : (s.record i).config.kind = .ingress ∧ (s.record i).inUse := by
      unfold State.tagged at tagged
      split at tagged
      next j found =>
        split at tagged
        · cases tagged
        · cases tagged
          obtain ⟨kind, inUse, -⟩ := refs.tagged _ _ found
          exact ⟨kind, inUse⟩
      next => cases tagged
    obtain ⟨kind, inUse⟩ := leads
    have counts := Record.lookup_counts inUse i l e
    have below : ∀ g, ((s.record i).lookup i l e).2 = .granted g → ((s.record i).slot g.slot).inFlight < Config.ingressInFlight := fun g hg => by
      rcases counts with ⟨why, refused, -⟩ | ⟨g', same, record, -⟩
      · cases refused.symm.trans hg
      · cases same.symm.trans hg
        rw [hg] at room
        simp only [record, decide_eq_false_iff_not] at room
        exact Nat.lt_of_not_le room
    have hr := Record.ok_lookup (ok i) inUse kind i l e below
    have moves := Record.lookup_moves (ok i) inUse i l e
    generalize (s.record i).lookup i l e = judged at counts hr moves ⊢
    have record : ∀ j, ((s.setRecord i judged.1).giveLookup l k f octets e judged.2).record j = if i = j then judged.1.stored else s.record j :=
      fun j => State.record_setRecord_stored ..
    have others (j : Nat) (ne : j ≠ i) : ((s.setRecord i judged.1).giveLookup l k f octets e judged.2).record j = s.record j := by
      rw [record, if_neg ne.symm]
    have at_record := record i
    rw [if_pos rfl] at at_record
    have given : Answers s ((s.setRecord i judged.1).giveLookup l k f octets e judged.2) l k
        { f with status := .lookup octets e (some judged.2) } := ⟨rfl, rfl, rfl, rfl⟩
    refine Kept.of_record ok others at_record hr ?_ moves
    rcases counts with ⟨why, refused, counts⟩ | ⟨g, granted, own, counts⟩
    · have none : FrameStore.idle (some { f with status := .lookup octets e (some judged.2) }) :=
        FrameStore.idle_of_openGrant (by unfold FrameStore.openGrant; dsimp only; rw [refused])
      refine h.of_answer given store busy kind others ?_ (fun j m _ => by rw [none, idle]) fun m => by rw [none, idle]
      rw [at_record, hr.stored]
      exact counts
    · have one (j : Nat) (m : SlotNo) : FrameStore.holds (some { f with status := .lookup octets e (some judged.2) }) j m =
          if g.record = j ∧ g.slot = m then 1 else 0 :=
        FrameStore.holds_of_openGrant (by unfold FrameStore.openGrant; dsimp only; rw [granted]) j m
      refine h.of_answer given store busy kind others (held := (s.record i).heldWith g.slot) ?_ (fun j m ne => ?_) fun m => ?_
      · rw [at_record, hr.stored]
        exact counts
      · rw [one, idle, if_neg fun both => ne (both.1.symm.trans own)]
      · rw [one, idle, own]
        unfold Record.heldWith
        simp only [true_and]
        split <;> omega

include h ok in
theorem kept_takeCommit {octets : Frame} {e : EnvelopeFields} {g : IngressGrant} {plaintext : List Byte}
    (store : (s.lane l).ingress.store k = some f) (status : f.status = .committing octets e g plaintext none) :
    Kept s (s.takeCommit l k f octets e g plaintext) := by
  have busy : f.status ≠ .receiving := by rw [status]; exact fun e => nomatch e
  have one (j : Nat) (m : SlotNo) : FrameStore.holds (some f) j m = if g.record = j ∧ g.slot = m then 1 else 0 :=
    FrameStore.holds_of_openGrant (by unfold FrameStore.openGrant; rw [status]) j m
  have some_held : 0 < s.ingressHeld g.record g.slot := by
    have lane := IngressEngine.setStore_holds (s.lane l).ingress k { f with status := .receiving } g.record g.slot
    have other : FrameStore.idle (some { f with status := .receiving }) := FrameStore.idle_of_openGrant rfl
    have given : Answers s (s.setLane l ((s.lane l).withIngress ((s.lane l).ingress.setStore k { f with status := .receiving }))) l k
        { f with status := .receiving } := ⟨rfl, rfl, rfl, rfl⟩
    have total := given.ingressHeld g.record g.slot
    rw [store, one, if_pos ⟨rfl, rfl⟩, other] at total
    omega
  have kind : (s.record g.record).config.kind = .ingress := by
    cases kind : (s.record g.record).config.kind with
    | ingress => rfl
    | egress =>
      have := (h.egress g.record g.slot kind).2
      omega
  have held : 0 < ((s.record g.record).slot g.slot).inFlight := by
    have := (h.ingress g.record g.slot kind).1
    omega
  have hr := Record.ok_commit g.slot e.sequence (deliveredCount octets) s.timebase.tickCount (ok g.record) kind held
  have counts := Record.commit_counts g.slot e.sequence (deliveredCount octets) s.timebase.tickCount (ok g.record)
  have moves := Record.commit_moves g.slot e.sequence (deliveredCount octets) s.timebase.tickCount (ok g.record) kind
  have evident (u : State) (i : Nat) (z : Bool) : (u.commitEvidence i z).manager = u.manager ∧ (u.commitEvidence i z).lanes = u.lanes ∧
      (u.commitEvidence i z).transit = { u.transit with evidence := (u.commitEvidence i z).transit.evidence } ∧
      (u.commitEvidence i z).flowMap = u.flowMap ∧ (u.commitEvidence i z).flowTurn = u.flowTurn := by
    unfold State.commitEvidence
    split <;> exact ⟨rfl, rfl, rfl, rfl, rfl⟩
  obtain ⟨manager, lanes, transit, flowMap, flowTurn⟩ := evident (s.setRecord g.record ((s.record g.record).commit g.slot e.sequence
    (deliveredCount octets) s.timebase.tickCount)) g.record ((s.record g.record).judgeCommit g.slot e.sequence == .accepted &&
      (s.record g.record).commitSwitches g.slot)
  have given : Answers s (s.takeCommit l k f octets e g plaintext) l k
      { f with status := .committing octets e g plaintext (some ((s.record g.record).judgeCommit g.slot e.sequence)) } := by
    refine ⟨?_, transit, flowMap, flowTurn⟩
    unfold State.takeCommit State.giveCommit State.setLane State.lane
    dsimp only
    rw [lanes]
    rfl
  have record (j : Nat) : (s.takeCommit l k f octets e g plaintext).record j = if g.record = j then
      ((s.record g.record).commit g.slot e.sequence (deliveredCount octets) s.timebase.tickCount).stored else s.record j := by
    rw [← State.record_setRecord_stored]
    unfold State.record
    exact congrArg (fun m : AssociationManager => (m.records.find j).getD Record.free) manager
  have others (j : Nat) (ne : j ≠ g.record) : (s.takeCommit l k f octets e g plaintext).record j = s.record j := by rw [record, if_neg ne.symm]
  have at_record := record g.record
  rw [if_pos rfl] at at_record
  have none : FrameStore.idle (some { f with
      status := .committing octets e g plaintext (some ((s.record g.record).judgeCommit g.slot e.sequence)) }) :=
    FrameStore.idle_of_openGrant rfl
  refine Kept.of_record ok others at_record hr (h.of_answer given store busy kind others
    (held := (s.record g.record).heldWithout g.slot) ?_ (fun j m ne => ?_) fun m => ?_) moves
  · rw [at_record, hr.stored]
    exact counts
  · rw [none, one, if_neg fun both => ne both.1.symm]
  · rw [none, one]
    unfold Record.heldWithout
    simp only [true_and]
    split
    next e =>
      subst e
      omega
    next => rfl

end Requests

end Sys2Proof.Machine
end

section
/-!
PROOFS. Every step keeps slots, stages and counts exact, and no slot's next number falls: the flow commands, the resets and the step
(sections 1.2, 1.9, 2.2 and 5.3).
-/

namespace Sys2Proof.Machine

/-! ### The flow commands -/

/-- A record that differs from another at most in its flow references. -/
structure Record.AsWas (r r' : Record) : Prop where
  ok : r.Ok → r'.Ok
  queued : r'.queuedFrames = r.queuedFrames
  slots : ∀ k, r'.slot k = r.slot k
  kind : r'.config.kind = r.config.kind

section Flows

variable {s t u : State}

theorem Record.AsWas.refl (r : Record) : r.AsWas r := ⟨id, rfl, fun _ => rfl, rfl⟩

theorem Record.AsWas.trans {r r' r'' : Record} (h : r.AsWas r') (h' : r'.AsWas r'') : r.AsWas r'' :=
  ⟨h'.ok ∘ h.ok, h'.queued.trans h.queued, fun k => (h'.slots k).trans (h.slots k), h'.kind.trans h.kind⟩

theorem Record.asWas_reference {r : Record} (h : r.Ok) (m : Nat) : r.AsWas ({ r with flowReferences := m } : Record).stored := by
  by_cases free : r.state = .free
  · have same : ({ r with flowReferences := m } : Record).stored = r := by
      unfold Record.stored
      rw [if_pos free, h.free free]
    rw [same]
    exact .refl r
  · have same : ({ r with flowReferences := m } : Record).stored = { r with flowReferences := m } := by
      unfold Record.stored
      exact if_neg free
    rw [same]
    exact ⟨fun h => h.fields free rfl rfl rfl rfl rfl rfl rfl rfl rfl, rfl, fun _ => rfl, rfl⟩

/-- One record's flow references given anew. -/
theorem asWas_setReference (records : ∀ i, (s.record i).AsWas (t.record i)) (ok : ∀ i, (s.record i).Ok) (i m : Nat) (j : Nat) :
    (s.record j).AsWas ((t.setRecord i { t.record i with flowReferences := m }).record j) := by
  rw [State.record_setRecord_stored]
  split
  next e =>
    subst e
    exact (records i).trans (Record.asWas_reference ((records i).ok (ok i)) m)
  next => exact records j

/-- Records that differ at most in their flow references, beside lanes and messages that stand. -/
theorem Kept.of_flows (h : s.CountsExact) (ok : ∀ i, (s.record i).Ok) (records : ∀ i, (s.record i).AsWas (t.record i))
    (lanes : t.lanes = s.lanes) (transit : t.transit = s.transit)
    (kept : ∀ l i, (l, i) ∈ s.transit.enqueues → t.namingEntries i = 0 → ∃ c awaited,
      t.flowTurn = some (.releasing c i awaited) ∧ s.transit.enqueues.count (l, i) ≤ awaited.count (l, i)) : Kept s t where
  ok i := (records i).ok (ok i)
  moves i k := by
    rw [(records i).slots]
    exact Slot.moves_same rfl rfl rfl
  counts := by
    have lane (l : LaneId) : t.lane l = s.lane l := State.lane_congr lanes l
    have queuedAt (l : LaneId) (i : Nat) : t.queuedAt l i = s.queuedAt l i := by
      rw [State.queuedAt_eq, State.queuedAt_eq, lane, transit]
    have egressHeld (i : Nat) (k : SlotNo) : t.egressHeld i k = s.egressHeld i k := by
      rw [State.egressHeld_eq, State.egressHeld_eq, lanes, transit]
    have ingressHeld (i : Nat) (k : SlotNo) : t.ingressHeld i k = s.ingressHeld i k := by
      rw [State.ingressHeld_eq, State.ingressHeld_eq, lanes, transit]
    refine ⟨fun l => by rw [lane]; exact h.requests l, fun l => by rw [lane]; exact h.receivers l, fun i => ?_, fun l i => ?_,
      fun l i => by rw [transit]; exact kept l i, fun i => ?_, fun i kind => ?_, fun i k kind => ?_, fun i k kind => ?_⟩
    · rw [(records i).queued, transit, List.map_congr_left fun l _ => queuedAt l i]
      exact h.queued i
    · rw [transit, queuedAt]
      exact h.enqueues l i
    · rw [(records i).queued]
      exact h.queuedRoom i
    · rw [(records i).queued]
      exact h.waiting i ((records i).kind.symm.trans kind)
    · rw [(records i).slots, egressHeld, ingressHeld]
      exact h.egress i k ((records i).kind.symm.trans kind)
    · rw [(records i).slots, egressHeld, ingressHeld]
      exact h.ingress i k ((records i).kind.symm.trans kind)

/-- What a flow command's event leaves of the records. -/
theorem FlowChange.asWas {done : FlowOutcome} {claim : Option Nat} (change : FlowChange u done claim) (ok : ∀ i, (u.record i).Ok) (i : Nat) :
    (u.record i).AsWas (done.after.record i) := by
  have claims (i : Nat) : (u.record i).AsWas ((u.claims claim).record i) := by
    cases claim with
    | none => exact .refl _
    | some j => exact asWas_setReference (fun i => .refl _) ok j _ i
  have same : done.after.record i = (u.claims claim).record i := by
    unfold State.record
    rw [change.manager]
  rw [same]
  exact claims i

variable (h : s.CountsExact) (ok : ∀ i, (s.record i).Ok)

include h ok

/-- A flow command's event keeps the counts, where no other command has a reference to release (R84). -/
theorem kept_flowEnds {c : Command} {done : FlowOutcome} {claim : Option Nat} (change : FlowChange u done claim)
    (records : ∀ i, u.record i = s.record i) (lanes : u.lanes = s.lanes) (transit : u.transit = s.transit) (flowMap : u.flowMap = s.flowMap)
    (calm : ∀ c i awaited, s.flowTurn ≠ some (.releasing c i awaited)) : FlowEnds (Kept s) c done := by
  have after (i : Nat) : (s.record i).AsWas (done.after.record i) := by
    rw [← records]
    exact change.asWas (fun i => records i ▸ ok i) i
  have sameLanes : done.after.lanes = s.lanes := change.lanes.trans lanes
  have sameTransit : done.after.transit = s.transit := change.transit.trans transit
  have named {l : LaneId} {i : Nat} (mem : (l, i) ∈ s.transit.enqueues) : namingOf s.flowMap i ≠ 0 := fun none => by
    obtain ⟨c, awaited, turn, -⟩ := h.kept l i mem none
    exact calm c i awaited turn
  refine ⟨fun none => ?_, fun i _ empty => ?_, fun i released _ => ?_⟩
  · refine .of_flows h ok after sameLanes sameTransit fun l i mem unnamed => absurd ?_ (named mem)
    have naming := change.naming i
    rw [none, flowMap, if_neg (fun e => nomatch e)] at naming
    have zero : namingOf done.after.flowMap i = 0 := unnamed
    omega
  · refine .of_flows h ok (asWas_setReference after ok i _) sameLanes sameTransit fun l i mem => ?_
    rw [← sameTransit, empty] at mem
    cases mem
  · refine .of_flows h ok after sameLanes sameTransit fun l j mem unnamed => ?_
    by_cases e : i = j
    · subst e
      exact ⟨c, _, rfl, by rw [sameTransit]⟩
    · refine absurd ?_ (named mem)
      have naming := change.naming j
      rw [released, flowMap, if_neg (fun e' => e (Option.some.inj e'))] at naming
      have zero : namingOf done.after.flowMap j = 0 := unnamed
      omega

theorem kept_serveFlow (flows : FlowMapOk s.flowMap) {name : CommandName} {owner : Command → State → FlowOutcome}
    (change : ∀ c (u : State), FlowMapOk u.flowMap → ∃ claim, FlowChange u (owner c u) claim) :
    Ensures (s.serveFlow name owner) (Kept s) := by
  have same := sameCore_taken s
  have stays : Kept s s := .of_same ok (fun _ => rfl) h
  refine ensures_serveFlow (kept_core s) stays (fun c offered busy => ?_) (fun c offered _ => ?_) (fun c waiting => ?_)
    fun c i releasing => ?_
  · refine .of_flows h ok (fun i => by
      have record : (s.taken.holdFlowTurn (.waiting c s.transit.enqueues)).record i = s.record i := same.record i
      rw [record]
      exact .refl _) same.lanes same.transit fun l i mem unnamed => ?_
    have naming : s.namingEntries i = 0 := by
      rw [← unnamed]
      show _ = namingOf s.taken.flowMap i
      rw [same.flowMap]
      rfl
    obtain ⟨c', awaited, turn, -⟩ := h.kept l i mem naming
    rw [(State.offers_answered offered).1] at turn
    cases turn
  · have fine : FlowMapOk s.taken.endFlowTurn.flowMap := by
      show FlowMapOk s.taken.flowMap
      rw [same.flowMap]
      exact flows
    obtain ⟨claim, changed⟩ := change c _ fine
    refine kept_flowEnds h ok changed (fun i => same.record i) same.lanes same.transit same.flowMap fun c' i awaited turn => ?_
    rw [(State.offers_answered offered).1] at turn
    cases turn
  · obtain ⟨claim, changed⟩ := change c s.endFlowTurn flows
    refine kept_flowEnds h ok changed (fun _ => rfl) rfl rfl rfl fun c' i awaited turn => ?_
    rw [waiting] at turn
    cases turn
  · refine .of_flows h ok (asWas_setReference (t := s.endFlowTurn) (fun i => .refl _) ok i _) rfl rfl fun l j mem unnamed => ?_
    obtain ⟨c', awaited, turn, waited⟩ := h.kept l j mem unnamed
    rw [releasing] at turn
    cases turn
    have := List.count_pos_iff.mpr mem
    rw [List.count_nil] at waited
    omega

end Flows

/-! ### The step -/

section Step

variable {s : State}

theorem kept_reset (lanes : LaneId → Lane) (egress : ∀ l, (lanes l).egress = {}) (ingress : ∀ l, (lanes l).ingress = {}) {t : State}
    (records : ∀ i, t.record i = Record.free) (lane : ∀ l, t.lane l = lanes l) (transit : t.transit = {}) : Kept s t where
  ok i := by
    rw [records]
    exact Record.ok_free
  counts := State.countsExact_of_idle records (fun l => by rw [lane, egress]) (fun l => by rw [lane, ingress]) transit
  moves i k := by
    rw [records]
    exact .inr (.inl (by cases k <;> rfl))

theorem kept_exec (sound : s.Sound) (refs : s.ReferencesExact) (ok : ∀ i, (s.record i).Ok) (h : s.CountsExact) :
    ∀ c, Ensures (exec c s) (Kept s) := by
  have core := kept_core s
  have stays : Kept s s := .of_same ok (fun _ => rfl) h
  have sameRecords : OfTables fun t => ∀ i, t.record i = s.record i := fun t u same hs i => (same.record i).trans (hs i)
  refine Instr.byGroup (fun c quiet t next => .of_quiet ok h (ensures_quiet s quiet t next)) (fun c => ensures_readsOnly core stays)
    (fun c lanes t next => .of_same ok (ensures_lanesOnly sameRecords (fun _ => rfl) lanes t next)
      (countsExact_lanesOnly h (fun l => (sound.lanes l).egress.oneReceiving) lanes t next))
    (kept_serveFlow h ok sound.flows fun c u => flowChange_addFlowOwner)
    (kept_serveFlow h ok sound.flows fun c u flows => ⟨none, flowChange_removeFlowOwner flows⟩)
    (kept_serveFlow h ok sound.flows fun c u flows => ⟨none, flowChange_readFlowOwner flows⟩)
    (fun _ => ensures_unlessResetting stays fun _ => ensures_next (kept_reset _ ?_ ?_ (fun _ => rfl) (State.lane_beginReset s) rfl))
    (fun links => ensures_next (kept_reset _ ?_ ?_ (fun _ => rfl) (State.lane_fullReset s links) rfl))
    (fun links => ensures_next (kept_reset _ ?_ ?_ (fun _ => rfl) (State.lane_fullReset s links) rfl))
    ?enqueue ?withdrawal ?allocation ?release ?abandon ?lookup ?commit
  iterate 6 exact fun _ => rfl
  case enqueue =>
    intro l i
    exact ensures_unlessResetting stays fun _ => ensures_ite
      (fun due => ensures_takes core (kept_takeEnqueue h ok l i refs due.1 due.2)) fun _ => ensures_next stays
  case withdrawal =>
    intro l i
    exact ensures_unlessResetting stays fun _ => ensures_ite
      (fun due => ensures_takes core (kept_takeWithdrawal h ok l i due.1 due.2)) fun _ => ensures_next stays
  case allocation =>
    intro l
    refine ensures_unlessResetting stays fun _ => ?_
    split
    next q asked => exact ensures_ite (fun due => ensures_takes core (kept_takeAllocation h ok asked due)) fun _ => ensures_next stays
    next => exact ensures_next stays
  case release =>
    intro m
    exact ensures_unlessResetting stays fun _ => ensures_ite
      (fun mem => ensures_takes core (kept_takeRelease h ok mem)) fun _ => ensures_next stays
  case abandon =>
    intro m
    exact ensures_unlessResetting stays fun _ => ensures_ite
      (fun mem => ensures_takes core (kept_takeAbandon h ok mem)) fun _ => ensures_next stays
  case lookup =>
    intro l j
    refine ensures_unlessResetting stays fun _ => ?_
    split
    next f store =>
      split
      next octets e status =>
        exact ensures_ite (fun _ => ensures_next stays) fun room =>
          ensures_takes core (kept_takeLookup h ok refs store status (eq_false_of_ne_true room))
      next => exact ensures_next stays
    next => exact ensures_next stays
  case commit =>
    intro l j
    refine ensures_unlessResetting stays fun _ => ?_
    split
    next f store =>
      split
      next octets e g plaintext status => exact ensures_takes core (kept_takeCommit h ok store status)
      next => exact ensures_next stays
    next => exact ensures_next stays

/-- The invariants do not read the queue of commands. -/
theorem State.Sound.withPending (h : s.Sound) (rest : List Instr) : ({ s with pending := rest } : State).Sound :=
  ⟨h.manager, h.flows, h.lanes, h.port, ⟨h.turn.one, h.turn.room, h.turn.walk⟩, h.timebase⟩

theorem State.ReferencesExact.withPending (h : s.ReferencesExact) (rest : List Instr) : ({ s with pending := rest } : State).ReferencesExact :=
  ⟨h.named, h.releasing, h.flowCount, h.companion, h.companionCount, h.tagged, h.indexed, h.tagRoom⟩

theorem kept_step (sound : s.Sound) (refs : s.ReferencesExact) (ok : ∀ i, (s.record i).Ok) (h : s.CountsExact) :
    Ensures (step s) (Kept s) := by
  unfold step
  split
  · exact ensures_next (.of_same ok (fun _ => rfl) h.quantum)
  next c rest _ =>
    have counts : ({ s with pending := rest } : State).CountsExact := countsExact_core s _ ⟨rfl, rfl, rfl, rfl, rfl, rfl, rfl, rfl⟩ h
    exact fun t next =>
      have kept := kept_exec (sound.withPending rest) (refs.withPending rest) ok counts c t next
      ⟨kept.ok, kept.counts, kept.moves⟩

end Step

/-- Settles O8: each command or event leaves the records' slots and counts as what the engines hold for them, and moves each slot's number
on, erases the slot or writes a key into it. -/
theorem nextSequenceNeverFalls : Obligations.NextSequenceNeverFalls := by
  intro s t sound refs ok h next
  obtain ⟨after, counts, moves⟩ := kept_step sound refs ok h t next
  exact ⟨after, counts, moves⟩

end Sys2Proof.Machine
end

section
/-!
PROOFS. The events of the lanes keep the settings and the capacities of the two buffers (sections 6.1, 7.1 and 8.1).
-/

namespace Sys2Proof.Machine

/-! ### Buffers -/

/-- The RECEIVING entries of a Holding Buffer. -/
def receivingIn (b : List Entry) : Nat := (b.filter (fun x => x.status == .receiving)).length

/-- The cells that the entries of a Holding Buffer hold. -/
def cellsIn (b : List Entry) : Nat := (b.map Entry.cells).sum

/-- A Holding Buffer with no more RECEIVING entries and no more cells than another. -/
structure BufferFits (b b' : List Entry) : Prop where
  receiving : receivingIn b' ≤ receivingIn b
  cells : cellsIn b' ≤ cellsIn b

theorem BufferFits.refl (b : List Entry) : BufferFits b b := ⟨le_rfl, le_rfl⟩

theorem BufferFits.of_sublist {b b' : List Entry} (h : b'.Sublist b) : BufferFits b b' :=
  ⟨(h.filter _).length_le, (h.map _).sum_le_sum fun _ _ => Nat.zero_le _⟩

/-- Entries given forms none of which is newly RECEIVING. -/
theorem receivingIn_map (b : List Entry) {f : Entry → Entry} (receiving : ∀ x, (f x).status = .receiving → x.status = .receiving) :
    receivingIn (b.map f) ≤ receivingIn b := by
  unfold receivingIn
  rw [List.filter_map, List.length_map]
  refine (List.monotone_filter_right b fun x hx => ?_).length_le
  rw [Function.comp_apply, beq_iff_eq] at hx
  exact beq_iff_eq.mpr (receiving x hx)

/-- Entries given forms of as many cells, none of them newly RECEIVING. -/
theorem BufferFits.of_map (b : List Entry) {f : Entry → Entry} (receiving : ∀ x, (f x).status = .receiving → x.status = .receiving)
    (cells : ∀ x, (f x).cells = x.cells) : BufferFits b (b.map f) := by
  refine ⟨receivingIn_map b receiving, ?_⟩
  unfold cellsIn
  rw [List.map_map]
  exact le_of_eq (congrArg List.sum (List.map_congr_left fun x _ => cells x))

/-- A lane whose settings stand and whose buffers hold no more than they may. -/
structure Lane.Fits (v v' : Lane) : Prop where
  config : v'.control.config = v.control.config
  buffer : BufferFits v.egress.buffer v'.egress.buffer
  delivery : v.ingress.deliveryOccupancy ≤ Config.deliveryCells → v'.ingress.deliveryOccupancy ≤ Config.deliveryCells

section Lanes

variable {v v' v'' : Lane} {e : EgressEngine}

theorem Lane.Fits.ok (h : v.Fits v') (ok : v.Ok) : v'.Ok where
  config := h.config ▸ ok.config
  egress := ⟨h.buffer.receiving.trans ok.egress.oneReceiving, h.buffer.cells.trans ok.egress.occupancy⟩
  delivery := h.delivery ok.delivery

theorem Lane.Fits.of_same (config : v'.control.config = v.control.config) (buffer : v'.egress.buffer = v.egress.buffer)
    (delivery : v'.ingress.delivery = v.ingress.delivery) : v.Fits v' :=
  ⟨config, buffer ▸ .refl _, fun h => by unfold IngressEngine.deliveryOccupancy at *; rwa [delivery]⟩

theorem Lane.Fits.refl (v : Lane) : v.Fits v := .of_same rfl rfl rfl

theorem Lane.Fits.trans (h : v.Fits v') (h' : v'.Fits v'') : v.Fits v'' where
  config := h'.config.trans h.config
  buffer := ⟨h'.buffer.receiving.trans h.buffer.receiving, h'.buffer.cells.trans h.buffer.cells⟩
  delivery := h'.delivery ∘ h.delivery

/-- What follows and touches neither the settings nor a buffer. -/
theorem Lane.Fits.andSame (h : v.Fits v') (config : v''.control.config = v'.control.config) (buffer : v''.egress.buffer = v'.egress.buffer)
    (delivery : v''.ingress.delivery = v'.ingress.delivery) : v.Fits v'' := h.trans (.of_same config buffer delivery)

/-! ### The Holding Buffer -/

theorem Lane.afterBuffer_fields (v : Lane) (e : EgressEngine) : (v.afterBuffer e).control = v.control ∧
    (v.afterBuffer e).egress.buffer = e.buffer ∧ (v.afterBuffer e).ingress = v.ingress := by
  obtain ⟨a, r, w, shape⟩ := v.afterBuffer_shape e
  rw [shape]
  exact ⟨rfl, rfl, rfl⟩

theorem Lane.Fits.afterBuffer (h : BufferFits v.egress.buffer e.buffer) : v.Fits (v.afterBuffer e) := by
  obtain ⟨control, buffer, ingress⟩ := v.afterBuffer_fields e
  exact ⟨by rw [control], buffer ▸ h, by rw [ingress]; exact id⟩

/-- An entry more, or one given more octets, where the cells suffice. -/
theorem Lane.ok_afterBuffer (ok : v.Ok) (receiving : receivingIn e.buffer ≤ 1) (cells : cellsIn e.buffer ≤ Config.holdingCells) :
    (v.afterBuffer e).Ok := by
  obtain ⟨control, buffer, ingress⟩ := v.afterBuffer_fields e
  refine ⟨control ▸ ok.config, ⟨?_, ?_⟩, ingress ▸ ok.delivery⟩
  · rw [buffer]
    exact receiving
  · unfold EgressEngine.occupancy
    rw [buffer]
    exact cells

theorem Lane.dropArriving_fits (v : Lane) : v.Fits (v.afterBuffer v.egress.dropArriving) := .afterBuffer (.of_sublist List.filter_sublist)

theorem Lane.dropOutbound_fits (v : Lane) (why : OutCounter) : v.Fits (v.dropOutbound why) := v.dropArriving_fits.andSame rfl rfl rfl

theorem EgressEngine.setArriving_fits (e : EgressEngine) {f : Entry → Entry} (receiving : ∀ x, (f x).status = .receiving → x.status = .receiving)
    (cells : ∀ x, (f x).cells = x.cells) : BufferFits e.buffer (e.setArriving f).buffer :=
  .of_map e.buffer (fun x h => by
    split at h
    next => exact receiving x h
    next => exact h) fun x => by
    split
    · exact cells x
    · rfl

theorem Lane.queueOutbound_fits (v : Lane) (d : Disposition) : v.Fits (v.queueOutbound d) :=
  ⟨rfl, v.egress.setArriving_fits (fun _ h => nomatch h) fun _ => rfl, id⟩

theorem Lane.consumeSystemControl_fits (v : Lane) (f : Frame) : v.Fits (v.consumeSystemControl f) := by
  unfold Lane.consumeSystemControl
  dsimp only
  split
  · exact v.dropArriving_fits.andSame rfl rfl rfl
  · exact v.dropArriving_fits

/-- One octet more claims a cell where the octets before fill theirs (R92). -/
theorem Entry.cells_octet (x : Entry) (b : Byte) : ({ x with octets := x.octets ++ [b] } : Entry).cells =
    x.cells + if x.octets.length % Config.cellOctets = 0 ∧ x.cells < Config.frameCells then 1 else 0 := by
  have cell : Config.cellOctets = 128 := rfl
  have frame : Config.frameCells = 72 := rfl
  unfold Entry.cells cellsFor
  rw [List.length_append, List.length_singleton, cell, frame]
  split <;> omega

/-- The octet of a frame in reception adds the cell that it claims. -/
theorem cellsIn_octet (bs : List Entry) (b : Byte) (x : Entry) (one : receivingIn bs ≤ 1) (arriving : bs.find? (fun y => y.status == .receiving) = some x) :
    cellsIn (bs.map fun y => if y.status = .receiving then { y with octets := y.octets ++ [b] } else y) =
      cellsIn bs + if x.octets.length % Config.cellOctets = 0 ∧ x.cells < Config.frameCells then 1 else 0 := by
  unfold cellsIn
  induction bs with
  | nil => cases arriving
  | cons y bs ih =>
    unfold receivingIn at one ih
    rw [List.filter_cons] at one
    rw [List.find?_cons] at arriving
    rw [List.map_cons, List.map_cons, List.map_cons, List.sum_cons, List.sum_cons]
    by_cases here : y.status = .receiving
    · rw [here] at one arriving
      cases arriving
      have others : ∀ z ∈ bs, z.status ≠ .receiving := fun z mem receiving => by
        have listed : z ∈ bs.filter (fun y => y.status == .receiving) := List.mem_filter.mpr ⟨mem, beq_iff_eq.mpr receiving⟩
        have := List.length_pos_of_mem listed
        rw [if_pos (beq_self_eq_true _), List.length_cons] at one
        omega
      have rest : bs.map (fun z => if z.status = .receiving then { z with octets := z.octets ++ [b] } else z) = bs :=
        (List.map_congr_left fun z mem => if_neg (others z mem)).trans (List.map_id bs)
      rw [rest, if_pos here, Entry.cells_octet]
      omega
    · rw [beq_eq_false_iff_ne.mpr here] at one arriving
      rw [if_neg here, ih one arriving]
      omega

theorem Lane.ok_octetArrives (ok : v.Ok) (first : Bool) (b : Byte) : (v.octetArrives first b).Ok := by
  have full : v.bufferFull.Ok := (v.dropArriving_fits.andSame (v'' := v.bufferFull) rfl rfl rfl).ok ok
  unfold Lane.octetArrives
  split
  next arriving =>
    have calm : receivingIn v.egress.buffer = 0 :=
      List.length_eq_zero_iff.mpr (List.filter_eq_nil_iff.mpr (List.find?_eq_none.mp arriving))
    split
    · split
      · exact full
      next room =>
        refine Lane.ok_afterBuffer ok ?_ ?_
        · unfold receivingIn at *
          rw [List.filter_append, List.length_append, calm]
          exact le_rfl
        · unfold cellsIn
          rw [List.map_append, List.sum_append]
          have fits : v.egress.occupancy + 1 ≤ Config.holdingCells := Nat.lt_of_not_le room
          have one : ([{ status := .receiving, octets := [b], disposition := none }] : List Entry).map Entry.cells = [1] := by
            simp [Entry.cells, cellsFor, Config.cellOctets, Config.frameCells]
          rw [one]
          exact fits
    · exact ok
  next x arriving =>
    split
    · exact ok
    · split
      · exact full
      next room =>
        refine Lane.ok_afterBuffer ok ?_ ?_
        · refine (receivingIn_map v.egress.buffer fun y h => ?_).trans ok.egress.oneReceiving
          split at h
          next already => exact already
          next => exact h
        · have cells := cellsIn_octet v.egress.buffer b x ok.egress.oneReceiving arriving
          have bound : cellsIn v.egress.buffer ≤ Config.holdingCells := ok.egress.occupancy
          refine (le_of_eq cells).trans ?_
          split
          next claims => exact Nat.lt_of_not_le fun le => room ⟨claims.1, claims.2, le⟩
          next => exact bound

end Lanes

end Sys2Proof.Machine
end

section
/-!
PROOFS. Every event of the lanes keeps the settings and the capacities: the operations one by one, and the events at the part (chapters 6
to 8).
-/

namespace Sys2Proof.Machine

section Lanes

variable {v v' : Lane} {e : EgressEngine}

/-! ### Commands -/

theorem Lane.flush_fits (v : Lane) : v.Fits v.flush := by
  have flushed : v.Fits (v.afterBuffer { v.egress with buffer := v.egress.buffer.filter (fun x => x.status != .queued) }) :=
    .afterBuffer (.of_sublist List.filter_sublist)
  exact flushed.andSame rfl rfl rfl

theorem Lane.changeMode_fits (v : Lane) (m : Mode) : v.Fits (v.changeMode m) := by
  have quiet (u : Lane) (h : v.Fits u) : v.Fits u.quietInOff := by
    unfold Lane.quietInOff
    split
    · exact h.andSame rfl rfl rfl
    · exact h
  have moded : v.Fits (v.withMode m) := .of_same rfl rfl rfl
  unfold Lane.changeMode
  split
  · exact quiet _ (moded.trans (v.withMode m).flush_fits)
  · exact quiet _ moded

theorem Lane.restart_fits (v : Lane) : v.Fits v.restart :=
  ⟨rfl, .of_sublist (List.nil_sublist _), fun _ => Nat.zero_le _⟩

theorem Command.maxFrame_bounds (c : Command) : Config.frameMin ≤ c.maxFrame ∧ c.maxFrame ≤ Config.frameMax :=
  ⟨le_max_left .., max_le (by decide) (min_le_left ..)⟩

theorem LaneConfig.ok_command (g : LaneConfig) (ok : g.Ok) (c : Command) (marks : (c.laneConfig g).marksOk = true) : (c.laneConfig g).Ok := by
  unfold LaneConfig.marksOk at marks
  obtain ⟨low, high, quanta⟩ := of_decide_eq_true marks
  obtain ⟨least, most⟩ := c.maxFrame_bounds
  refine ⟨?_, ?_, low, high, quanta⟩
  · show _ ≤ if _ then _ else _
    split
    · exact least
    · exact ok.minFrame
  · show (if _ then _ else _) ≤ _
    split
    · exact most
    · exact ok.maxFrame

/-! ### The head of the queue -/

theorem Lane.dropHead_fits (v : Lane) (why : OutCounter) : v.Fits ((v.afterBuffer v.egress.dropHead).countOut why) := by
  have dropped : v.Fits (v.afterBuffer v.egress.dropHead) := .afterBuffer (.of_sublist (List.tail_sublist _))
  exact dropped.andSame rfl rfl rfl

theorem EgressEngine.fill_buffer (e : EgressEngine) (k : SlotNo) (t : TransmitStore) : (e.fill k t).buffer = e.buffer :=
  (e.setStore_fields k t).1

theorem Lane.startHead_fits (v : Lane) (x : Entry) (k : SlotNo) (d : Destination) : v.Fits (v.startHead x k d) := by
  have bypass : v.Fits (v.startBypass x k d) := by
    refine .afterBuffer ?_
    rw [EgressEngine.fill_buffer]
    exact .of_sublist (List.tail_sublist _)
  have protect (i : Nat) : v.Fits (v.startProtect x i k d) := by
    have buffer : (v.startProtect x i k d).egress.buffer = v.egress.requestHead.buffer := EgressEngine.fill_buffer ..
    refine ⟨rfl, ?_, id⟩
    rw [buffer]
    unfold EgressEngine.requestHead
    split
    · exact .refl _
    next y rest hold =>
      rw [hold]
      refine ⟨?_, le_rfl⟩
      unfold receivingIn
      rw [List.filter_cons, List.filter_cons]
      dsimp only
      rw [if_neg (by decide)]
      split
      · exact Nat.le_succ _
      · exact le_rfl
  unfold Lane.startHead
  split
  · exact protect _
  · exact bypass

/-! ### The allocation answer -/

theorem Lane.settle_fits (v : Lane) (k : SlotNo) (t : TransmitStore) : v.Fits (v.afterBuffer (v.egress.settle k t)) := by
  refine .afterBuffer ?_
  have same : (v.egress.answered.setStore k t).buffer = v.egress.buffer := (v.egress.answered.setStore_fields k t).1
  unfold EgressEngine.settle
  dsimp only
  split
  · unfold EgressEngine.dropHead
    rw [same]
    exact .of_sublist (List.tail_sublist _)
  · rw [same]
    exact .refl _

/-! ### Transmission -/

theorem Lane.setTransmit_fits (v : Lane) (k : SlotNo) (t : TransmitStore) : v.Fits (v.withEgress (v.egress.setStore k t)) :=
  .of_same rfl (v.egress.setStore_fields k t).1 rfl

theorem Lane.endTransmission_fits (v : Lane) (k : SlotNo) : v.Fits (v.endTransmission k) := (v.setTransmit_fits k .free).andSame rfl rfl rfl

theorem Lane.beginLoop_fits (v : Lane) : v.Fits v.beginLoop := by
  unfold Lane.beginLoop
  split
  · exact .refl v
  · exact (v.setTransmit_fits _ _).andSame rfl rfl rfl

theorem Lane.beginTransmission_fits (v : Lane) : v.Fits v.beginTransmission := by
  unfold Lane.beginTransmission
  split
  · split
    · split
      · exact .refl v
      · exact v.setTransmit_fits _ _
    · exact v.beginLoop_fits
  · exact .refl v

/-! ### The Delivery Buffer -/

theorem Lane.queueReady_fits_buffer (v : Lane) (k : StoreId) (f : Frame) : v.Fits (v.queueReady k f) := by
  unfold Lane.queueReady
  dsimp only
  split
  next room =>
    refine ⟨rfl, .refl _, fun _ => ?_⟩
    show ((v.ingress.delivery ++ [f]).map fun f => cellsFor f.length).sum ≤ _
    rw [List.map_append, List.sum_append]
    exact room
  next => exact .of_same rfl rfl rfl

theorem Lane.queueDelivery_fits (v : Lane) : v.Fits v.queueDelivery := by
  have run (ks : List StoreId) : ∀ v : Lane, v.Fits (v.queueRun ks) := by
    induction ks with
    | nil => exact .refl
    | cons k ks ih =>
      intro v
      unfold Lane.queueRun
      split
      · exact (v.queueReady_fits_buffer k _).trans (ih _)
      · exact .refl v
  exact run _ v

theorem Lane.Fits.queueDelivery (h : v.Fits v') : v.Fits v'.queueDelivery := h.trans v'.queueDelivery_fits

/-! ### Reception -/

theorem Lane.dropInbound_fits (v : Lane) (store : Option StoreId) (why : InCounter) : v.Fits (v.dropInbound store why) := by
  unfold Lane.dropInbound
  split <;> exact .of_same rfl rfl rfl

theorem Lane.setStatus_fits (v : Lane) (store : Option StoreId) (source : Source) (st : StoreStatus) : v.Fits (v.setStatus store source st) := by
  unfold Lane.setStatus
  split <;> exact .of_same rfl rfl rfl

theorem Lane.consumeLineControl_fits (v : Lane) (store : Option StoreId) (f : Frame) : v.Fits (v.consumeLineControl store f) := by
  unfold Lane.consumeLineControl
  dsimp only
  cases store with
  | none => split <;> exact .of_same rfl rfl rfl
  | some k => split <;> exact .of_same rfl rfl rfl

theorem Lane.disposeInbound_fits (v : Lane) (ty : BitVec 16) (store : Option StoreId) (source : Source) (f : Frame) :
    v.Fits (v.disposeInbound ty store source f) := by
  have drop := v.dropInbound_fits store
  have status := v.setStatus_fits store source
  unfold Lane.disposeInbound
  repeat' split
  · exact drop _
  · exact drop _
  · exact drop _
  · exact status _
  · unfold Lane.parseInbound
    split
    · exact drop _
    · exact drop _
    · exact status _
  · exact status _
  · exact drop _

theorem Lane.completeInbound_fits (v : Lane) (ty : BitVec 16) (store : Option StoreId) (source : Source) (f : Frame) :
    v.Fits (v.completeInbound ty store source f) := by
  refine Lane.Fits.queueDelivery ?_
  repeat' split
  iterate 3 exact v.dropInbound_fits store _
  · exact v.consumeLineControl_fits store f
  · exact v.disposeInbound_fits ty store source f

theorem Lane.transmitted_fits (v : Lane) (ty : BitVec 16) (k : SlotNo) (f : StoredFrame) : v.Fits (v.transmitted ty k f) := by
  have ended := v.endTransmission_fits k
  unfold Lane.transmitted
  split
  · exact ended.andSame rfl rfl rfl
  · split
    · exact ended.trans (Lane.completeInbound_fits ..)
    · exact ended

theorem Lane.startLineFrame_fits (v : Lane) : v.Fits v.startLineFrame := by
  unfold Lane.startLineFrame
  split
  · split <;> exact .of_same rfl rfl rfl
  · exact .of_same rfl rfl rfl

theorem Lane.completeLine_fits (v : Lane) (ty : BitVec 16) (store : Option StoreId) (f : Frame) : v.Fits (v.completeLine ty store f) := by
  have idle : v.Fits (v.withIngress { v.ingress with receiver := .idle }) := .of_same rfl rfl rfl
  exact idle.trans (Lane.completeInbound_fits ..)

/-! ### Answers at a frame store -/

theorem Lane.takeLookupAnswer_fits (v : Lane) (k : StoreId) (f : FrameStore) (octets : Frame) (h : EnvelopeFields) (a : LookupAnswer) :
    v.Fits (v.takeLookupAnswer k f octets h a) := by
  refine Lane.Fits.queueDelivery ?_
  cases a with
  | refused why => exact v.dropInbound_fits _ _
  | granted g =>
    dsimp only
    split
    · exact v.dropInbound_fits _ _
    · exact .of_same rfl rfl rfl

theorem Lane.takeVerification_fits (v : Lane) (k : StoreId) (f : FrameStore) (octets : Frame) (h : EnvelopeFields) (g : IngressGrant) :
    v.Fits (v.takeVerification k f octets h g) := by
  refine Lane.Fits.queueDelivery ?_
  cases openFrame g.key g.salt h octets with
  | some plaintext => exact .of_same rfl rfl rfl
  | none => exact v.dropInbound_fits _ _

theorem Lane.takeCommitAnswer_fits (v : Lane) (k : StoreId) (f : FrameStore) (octets : Frame) (plaintext : List Byte) (g : IngressGrant)
    (a : CommitAnswer) : v.Fits (v.takeCommitAnswer k f octets plaintext g a) := by
  refine Lane.Fits.queueDelivery ?_
  split
  · exact v.dropInbound_fits _ _
  · split
    · exact v.dropInbound_fits _ _
    · exact .of_same rfl rfl rfl

/-! ### Link loss, delivery and pause -/

theorem Lane.shortDelivery_fits (config : v'.control.config = v.control.config) (buffer : v'.egress.buffer = v.egress.buffer)
    (delivery : v'.ingress.delivery = v.ingress.delivery.tail) : v.Fits v' :=
  ⟨config, buffer ▸ .refl _, fun h => by
    refine le_trans ?_ h
    unfold IngressEngine.deliveryOccupancy
    rw [delivery]
    exact ((List.tail_sublist _).map _).sum_le_sum fun _ _ => Nat.zero_le _⟩

theorem Lane.linkChanged_fits (v : Lane) (side : Side) (up : Bool) (arrived : Nat) : v.Fits (v.linkChanged side up arrived) := by
  cases side with
  | line =>
    cases up with
    | true => exact .refl v
    | false =>
      show v.Fits (v.egressLineDown.ingressLineDown arrived)
      have down : v.Fits v.egressLineDown := .of_same rfl rfl rfl
      unfold Lane.ingressLineDown
      split
      · exact down
      · have idle := down.andSame (v'' := v.egressLineDown.withIngress { v.egressLineDown.ingress with receiver := .idle }) rfl rfl rfl
        exact (idle.trans (Lane.dropInbound_fits ..)).queueDelivery
  | system =>
    cases up with
    | true =>
      show v.Fits v.egressSystemUp
      unfold Lane.egressSystemUp
      split <;> exact .of_same rfl rfl rfl
    | false =>
      have cut : v.Fits v.cutArriving := by
        unfold Lane.cutArriving
        split
        · exact .refl v
        · exact v.dropArriving_fits.andSame rfl rfl rfl
      have down : v.Fits v.egressSystemDown := cut.andSame rfl rfl rfl
      show v.Fits v.egressSystemDown.ingressSystemDown
      unfold Lane.ingressSystemDown
      dsimp only
      split
      · exact down.trans (Lane.shortDelivery_fits rfl rfl rfl)
      · exact down.andSame rfl rfl rfl

theorem Lane.startDelivery_fits (v : Lane) : v.Fits v.startDelivery := by
  unfold Lane.startDelivery
  split
  · exact Lane.shortDelivery_fits rfl rfl rfl
  · split
    · exact Lane.shortDelivery_fits rfl rfl rfl
    · split <;> exact .of_same rfl rfl rfl

theorem Lane.refreshExpiry_fits (v : Lane) (mode : Mode) (g : LaneConfig) : v.Fits (v.withEgress (v.egress.refreshExpiry mode g)) := by
  unfold EgressEngine.refreshExpiry
  split
  · exact .of_same rfl rfl rfl
  · split <;> exact .of_same rfl rfl rfl

end Lanes

/-! ### The lanes of the part -/

/-- Every lane keeps its settings in range and its buffers within their capacities. -/
def State.lanesOk (s : State) : Prop := ∀ l, (s.lane l).Ok

theorem lanesOk_core : OfCore State.lanesOk := fun _ _ same h l => same.lane l ▸ h l

theorem Lane.ok_cleared (systemUp lineUp : Bool) : (Lane.cleared systemUp lineUp).Ok :=
  have ok : ({} : Lane).Ok := State.lane_reset 0 ▸ sound_reset.lanes 0
  ⟨ok.config, ok.egress, ok.delivery⟩

section Part

variable {s t : State} (h : s.lanesOk) {l : LaneId} {v : Lane}

include h

theorem State.lanesOk.same (lanes : t.lanes = s.lanes) : t.lanesOk := fun l => State.lane_congr lanes l ▸ h l

theorem State.lanesOk.set (lanes : t.lanes = (s.setLane l v).lanes) (ok : v.Ok) : t.lanesOk := fun m => by
  rw [State.lane_congr lanes, State.lane_setLane]
  split
  · exact ok
  · exact h m

theorem State.lanesOk.fit (fits : (s.lane l).Fits v) (lanes : t.lanes = (s.setLane l v).lanes) : t.lanesOk := h.set lanes (fits.ok (h l))

theorem State.lanesOk.completeOutbound (l : LaneId) (f : Frame) : (s.completeOutbound l f).lanesOk := by
  have drop (why : OutCounter) : (s.setLane l ((s.lane l).dropOutbound why)).lanesOk := h.fit (Lane.dropOutbound_fits _ _) rfl
  have classified : ((s.classify l f).1.applyAction l (s.classify l f).2).lanesOk := by
    have hit : (s.classify l f).1.lanesOk := h.same (s.classify_keeps l f).2
    cases (s.classify l f).2 with
    | discard => exact hit.fit (Lane.dropOutbound_fits _ .discard) rfl
    | bypass => exact hit.fit (Lane.queueOutbound_fits _ .bypass) rfl
    | protect i => exact hit.fit (Lane.queueOutbound_fits _ (.protect i)) rfl
  unfold State.completeOutbound
  dsimp only
  split
  · exact drop _
  · split
    · exact drop _
    · split
      · exact drop _
      · split
        · exact h.fit (Lane.consumeSystemControl_fits _ _) rfl
        · unfold State.disposeOutbound
          split
          · exact drop _
          · exact h.fit (Lane.queueOutbound_fits _ _) rfl
          · exact classified
          · exact classified

theorem State.lanesOk.takeHead (l : LaneId) (x : Entry) : (s.takeHead l x).lanesOk := by
  unfold State.takeHead
  split
  · exact h
  next why _ => exact h.fit (Lane.dropHead_fits _ why) rfl
  next k d _ => exact h.fit (Lane.startHead_fits _ x k d) rfl

theorem State.lanesOk.takeAllocationAnswer (l : LaneId) (k : SlotNo) (d : Destination) (a : AllocationAnswer) (n : Nat) :
    (s.takeAllocationAnswer l k d a n).lanesOk := by
  have settled := (s.lane l).settle_fits k .free
  unfold State.takeAllocationAnswer
  dsimp only
  split
  next why => exact h.fit (v := (s.lane l).takeRefusal k why) (settled.andSame rfl rfl rfl) rfl
  next => exact h.fit (v := ((s.lane l).afterBuffer ((s.lane l).egress.settle k .free)).countOut .aborted) (settled.andSame rfl rfl rfl) rfl
  next =>
    split
    · exact h.fit (v := ((s.lane l).afterBuffer ((s.lane l).egress.settle k .free)).countOut .aborted) (settled.andSame rfl rfl rfl) rfl
    · exact h.fit (Lane.settle_fits ..) rfl

/-- The events of the lanes keep their capacities. -/
theorem lanesOk_lanesOnly {c : Instr} (lanes : lanesOnly c = true) : Ensures (exec c s) State.lanesOk := by
  have core := lanesOk_core
  have taken : s.taken.lanesOk := core _ _ (sameCore_taken s) h
  cases c with
  | setLaneMode =>
    refine ensures_serve core h fun c _ => ?_
    unfold setLaneModeOwner
    dsimp only
    split
    · split
      · exact taken
      · split
        · exact taken.fit (Lane.changeMode_fits _ _) rfl
        · exact taken
    · exact taken
  | configureLane =>
    refine ensures_serve core h fun c _ => ?_
    unfold configureLaneOwner
    dsimp only
    split
    · exact taken
    next l _ =>
      split
      · exact taken
      · split
        next marks => exact taken.set rfl ⟨LaneConfig.ok_command _ (taken l).config c marks, (taken l).egress, (taken l).delivery⟩
        next => exact taken
  | sampleLaneCounters =>
    refine ensures_serve core h fun c _ => ?_
    unfold sampleLaneCountersOwner
    split
    · exact taken
    next l _ =>
      exact taken.fit (l := l) (v := (s.taken.lane l).withControl ((s.taken.lane l).control.latch s.taken.timebase.tickCount))
        (.of_same rfl rfl rfl) rfl
  | restartLane =>
    refine ensures_serve core h fun c _ => ?_
    unfold restartLaneOwner
    split
    · exact taken
    · exact taken.fit (Lane.restart_fits _) rfl
  | partResetEnd links =>
    refine ensures_ite (fun _ => ensures_next fun l => ?_) fun _ => ensures_next h
    rw [State.lane_endReset]
    exact ⟨(h l).config, (h l).egress, (h l).delivery⟩
  | cellClaim l first b => exact ensures_unlessResetting h fun _ => ensures_takes core (h.set rfl (Lane.ok_octetArrives (h l) first b))
  | transmissionBegin l => exact ensures_unlessResetting h fun _ => ensures_takes core (h.fit (Lane.beginTransmission_fits _) rfl)
  | loopHandoverStart l => exact ensures_unlessResetting h fun _ => ensures_takes core (h.fit (Lane.beginLoop_fits _) rfl)
  | egressReceiveCompletion l =>
    refine ensures_unlessResetting h fun _ => ?_
    split
    · exact ensures_next h
    · exact ensures_takes core (h.completeOutbound l _)
  | headTaken l =>
    refine ensures_unlessResetting h fun _ => ?_
    split
    · exact ensures_next h
    · exact ensures_ite (fun _ => ensures_takes core (h.takeHead l _)) fun _ => ensures_next h
  | allocationAnswer l =>
    refine ensures_unlessResetting h fun _ => ?_
    split
    · exact ensures_takes core (h.takeAllocationAnswer l _ _ _ _)
    · exact ensures_next h
  | transmissionCompletion l =>
    refine ensures_unlessResetting h fun _ => ?_
    split
    next k f _ => exact ensures_takes core (h.fit (Lane.transmitted_fits (s.lane l) s.port.envelopeType k f) rfl)
    next => exact ensures_next h
  | linePauseIndication l =>
    refine ensures_unlessResetting h fun _ => ?_
    split
    · exact ensures_next h
    next q rest _ =>
      exact ensures_takes core (h.fit (l := l)
        (v := (s.lane l).withEgress ((s.lane l).egress.indicated (s.lane l).control.mode q rest)) (.of_same rfl rfl rfl) rfl)
  | systemPauseIndication l =>
    refine ensures_unlessResetting h fun _ => ?_
    split
    · exact ensures_next h
    next q rest _ =>
      exact ensures_takes core (h.fit (l := l)
        (v := (s.lane l).withIngress { (s.lane l).ingress with indications := rest, systemPause := pauseTimer q }) (.of_same rfl rfl rfl) rfl)
  | linePauseExpiry l =>
    exact ensures_unlessResetting h fun _ => ensures_ite (fun _ => ensures_takes core (h.fit (l := l)
      (v := (s.lane l).withEgress { (s.lane l).egress with linePause := none }) (.of_same rfl rfl rfl) rfl)) fun _ => ensures_next h
  | refreshExpiry l =>
    exact ensures_unlessResetting h fun _ =>
      ensures_ite (fun _ => ensures_takes core (h.fit (Lane.refreshExpiry_fits (s.lane l) _ _) rfl)) fun _ => ensures_next h
  | deliveryStart l =>
    exact ensures_unlessResetting h fun _ =>
      ensures_ite (fun _ => ensures_takes core (h.fit (Lane.startDelivery_fits (s.lane l)) rfl)) fun _ => ensures_next h
  | systemPauseExpiry l =>
    exact ensures_unlessResetting h fun _ => ensures_ite (fun _ => ensures_takes core (h.fit (l := l)
      (v := (s.lane l).withIngress { (s.lane l).ingress with systemPause := none }) (.of_same rfl rfl rfl) rfl)) fun _ => ensures_next h
  | pauseFrameSend l =>
    refine ensures_unlessResetting h fun _ => ?_
    split
    · exact ensures_next h
    next q _ =>
      exact ensures_ite (fun _ => ensures_takes core (h.fit (l := l) (v := (s.lane l).sendPause q) (.of_same rfl rfl rfl) rfl))
        fun _ => ensures_next h
  | linkEvent l side up n =>
    have linked : (s.lane l).Fits ((s.lane l).withLink side up) := by cases side <;> exact .of_same rfl rfl rfl
    exact ensures_unlessResetting h fun _ => ensures_ite (fun _ => ensures_next h)
      fun _ => ensures_takes core (h.fit (linked.trans (Lane.linkChanged_fits _ side up n)) rfl)
  | lineFrameStart l =>
    refine ensures_unlessResetting h fun _ => ?_
    split
    · exact ensures_takes core (h.fit (Lane.startLineFrame_fits (s.lane l)) rfl)
    · exact ensures_next h
  | ingressReceiveCompletion l arrival =>
    refine ensures_unlessResetting h fun _ => ?_
    split
    · exact ensures_takes core (h.fit (Lane.completeLine_fits (s.lane l) _ _ _) rfl)
    · exact ensures_next h
    · unfold State.completeLoop
      split
      next k f _ =>
        exact ensures_ite (fun _ => ensures_takes core (h.fit (Lane.transmitted_fits (s.lane l) s.port.envelopeType k f) rfl))
          fun _ => ensures_next h
      next => exact ensures_next h
  | lookupAnswer l j =>
    refine ensures_unlessResetting h fun _ => ?_
    split
    · split
      · exact ensures_takes core (h.fit (Lane.takeLookupAnswer_fits (s.lane l) j _ _ _ _) rfl)
      · exact ensures_next h
    · exact ensures_next h
  | verificationCompletion l j =>
    refine ensures_unlessResetting h fun _ => ?_
    split
    · split
      · exact ensures_takes core (h.fit (Lane.takeVerification_fits (s.lane l) j _ _ _ _) rfl)
      · exact ensures_next h
    · exact ensures_next h
  | commitAnswer l j =>
    refine ensures_unlessResetting h fun _ => ?_
    split
    · split
      · exact ensures_takes core (h.fit (Lane.takeCommitAnswer_fits (s.lane l) j _ _ _ _ _) rfl)
      · exact ensures_next h
    · exact ensures_next h
  | deliveryCompletion l =>
    refine ensures_unlessResetting h fun _ => ?_
    split
    next f rest _ hold =>
      exact ensures_takes core (h.fit (l := l) (v := (s.lane l).endDelivery f rest)
        (Lane.shortDelivery_fits rfl rfl (by rw [hold]; rfl)) rfl)
    next => exact ensures_next h
  | _ => cases lanes

end Part

end Sys2Proof.Machine
end

section
/-!
PROOFS. Every step keeps the capacities of the Command Port, one unanswered command at most with room for its response, and a walk's body
within its bound (sections 9.2, 10.2 and 10.3).
-/

namespace Sys2Proof.Machine

/-! ### The port and the turn of a command -/

/-- The Command Port and the unanswered command keep their bounds. -/
def State.portOk (s : State) : Prop := s.port.Ok ∧ s.TurnOk

/-- Two states with the same FIFOs, the same flow command in its turn and the same walk. -/
structure SamePort (s t : State) : Prop where
  commands : t.port.commands = s.port.commands
  responses : t.port.responses = s.port.responses
  flowTurn : t.flowTurn = s.flowTurn
  walk : t.manager.walk = s.manager.walk

section Same

variable {s t u : State}

theorem SamePort.refl (s : State) : SamePort s s := ⟨rfl, rfl, rfl, rfl⟩

theorem SamePort.trans (h : SamePort s t) (h' : SamePort t u) : SamePort s u :=
  ⟨h'.commands.trans h.commands, h'.responses.trans h.responses, h'.flowTurn.trans h.flowTurn, h'.walk.trans h.walk⟩

theorem SamePort.unanswered (h : SamePort s t) : t.unanswered = s.unanswered := by
  unfold State.unanswered
  rw [h.flowTurn, h.walk]

theorem samePort_notify (s u : State) : SamePort u (s.notify u) := by
  constructor <;> simp

theorem samePort_notifyWrite (u : State) : SamePort u u.notifyWrite := by
  constructor <;> simp

theorem CommandPort.Ok.of_same {p q : CommandPort} (h : p.Ok) (commands : q.commands = p.commands)
    (responses : q.responses = p.responses) : q.Ok := by
  refine ⟨?_, by rw [responses]; exact h.responseWords, by rw [commands]; exact h.olderClosed⟩
  unfold CommandPort.commandWords
  rw [commands]
  exact h.commandWords

theorem State.TurnOk.of_same (h : s.TurnOk) (same : SamePort s t) : t.TurnOk where
  one := by
    rw [same.flowTurn, same.walk]
    exact h.one
  room := by
    rw [same.unanswered, same.responses]
    exact h.room
  walk := by
    rw [same.walk]
    exact h.walk

theorem State.portOk.same (h : s.portOk) (same : SamePort s t) : t.portOk := ⟨h.1.of_same same.commands same.responses, h.2.of_same same⟩

theorem portOk_takes (h : u.portOk) : Ensures (s.takes u) State.portOk := ensures_next (h.same (samePort_notify s u))

end Same

/-! ### A command taken and answered -/

section Turns

variable {s u : State} {c : Command}

theorem CommandPort.ok_tail {p : CommandPort} (h : p.Ok) : ({ p with commands := p.commands.tail } : CommandPort).Ok where
  commandWords := (((List.tail_sublist p.commands).map _).sum_le_sum fun _ _ => Nat.zero_le _).trans h.commandWords
  responseWords := h.responseWords
  olderClosed x mem := h.olderClosed x (by
    have sub : p.commands.tail.dropLast = p.commands.dropLast.tail := List.tail_dropLast.symm
    rw [sub] at mem
    exact List.mem_of_mem_tail mem)

/-- What the Command Processor has found when it takes a command (R157). -/
theorem State.ready_room (ready : s.ready = some c) : s.flowTurn = none ∧ s.manager.walk = none ∧
    s.port.responses.length + Config.responseRoom ≤ Config.fifoWords := by
  unfold State.ready at ready
  split at ready
  · cases ready
  · split at ready
    next taken =>
      obtain ⟨-, unanswered, room, -⟩ := taken
      unfold State.unanswered at unanswered
      obtain ⟨turn, walk⟩ := Bool.or_eq_false_iff.mp unanswered
      refine ⟨Option.not_isSome_iff_eq_none.mp (by rw [turn]; decide), Option.not_isSome_iff_eq_none.mp (by rw [walk]; decide), ?_⟩
      unfold CommandPort.freeResponseWords at room
      have words : Config.responseRoom = 64 := rfl
      omega
    next => cases ready

/-- A state in which a command is being answered: nothing is unanswered but it, and its response has room (R157). -/
structure State.Answering (s : State) : Prop where
  port : s.port.Ok
  turn : s.flowTurn = none
  walk : s.manager.walk = none
  room : s.port.responses.length + Config.responseRoom ≤ Config.fifoWords

theorem State.Answering.portOk (h : s.Answering) : s.portOk :=
  ⟨h.port, .inl h.turn, fun _ => h.room, fun _ e => nomatch h.walk.symm.trans e⟩

theorem State.Answering.same (h : s.Answering) (same : SamePort s u) : u.Answering :=
  ⟨h.port.of_same same.commands same.responses, same.flowTurn.trans h.turn, same.walk.trans h.walk, by rw [same.responses]; exact h.room⟩

theorem State.answering_taken (h : s.portOk) (ready : s.ready = some c) : s.taken.Answering := by
  obtain ⟨turn, walk, room⟩ := State.ready_room ready
  have dropped : s.dropCommand.Answering := ⟨CommandPort.ok_tail h.1, turn, walk, room⟩
  exact dropped.same (samePort_notify s _)

/-- A response of at most 64 words, posted whole (R157). -/
theorem State.Answering.post (h : s.Answering) (tag : Nat) {r : Reply} (short : r.body.length ≤ Config.walkBody) : (s.post tag r).portOk := by
  have room := h.room
  have words : Config.responseRoom = 64 := rfl
  have body : Config.walkBody = 63 := rfl
  have length : (responseWords tag r).length = 1 + r.body.length := by
    unfold responseWords
    rw [List.length_cons, Nat.add_comm]
  have idle : (s.appendResponse (responseWords tag r)).unanswered = false := by
    show (s.flowTurn.isSome || s.manager.walk.isSome) = false
    rw [h.turn, h.walk]
    rfl
  have posted : (s.appendResponse (responseWords tag r)).portOk := by
    refine ⟨⟨h.port.commandWords, ?_, h.port.olderClosed⟩, .inl h.turn, fun busy => ?_, fun x e => nomatch h.walk.symm.trans e⟩
    · show (s.port.responses ++ responseWords tag r).length ≤ _
      rw [List.length_append, length]
      omega
    · rw [idle] at busy
      cases busy
  exact posted.same (samePort_notify s _)

theorem portOk_serve (h : s.portOk) {name : CommandName} {owner : Command → State → State × Reply}
    (same : ∀ c (u : State), SamePort u (owner c u).1) (short : ∀ c (u : State), (owner c u).2.body.length ≤ Config.walkBody) :
    Ensures (s.serve name owner) State.portOk := by
  unfold State.serve
  cases ready : s.ready with
  | none => exact ensures_next h
  | some c =>
    refine ensures_ite (fun _ => ensures_next ?_) fun _ => ensures_next h
    have answering := (State.answering_taken h ready).same (same c s.taken)
    exact (answering.same (samePort_notify s.taken _)).post _ (short c s.taken)

end Turns

end Sys2Proof.Machine
end

section
/-!
PROOFS. The bounds of the Command Port at the flow commands, the walks, the window's events and the other commands and events (sections
5.3, 9.2 and 10.1 to 10.3).
-/

namespace Sys2Proof.Machine

section Port

variable {s u : State} {c : Command}

/-! ### Flow commands -/

/-- A command held at the Flow Classifier while it waits (R84). -/
theorem State.Answering.hold (h : s.Answering) (t : FlowTurn) : (s.holdFlowTurn t).portOk :=
  ⟨h.port.of_same rfl rfl, .inr h.walk, fun _ => h.room, fun _ e => nomatch h.walk.symm.trans e⟩

theorem FlowChange.samePort {done : FlowOutcome} {claim : Option Nat} (change : FlowChange u done claim) : SamePort u done.after := by
  have walk : (u.claims claim).manager.walk = u.manager.walk := by cases claim <;> rfl
  exact ⟨by rw [change.port], by rw [change.port], change.flowTurn, by rw [change.manager]; exact walk⟩

/-- A flow command that is unanswered is the only one, and its response has room (R157). -/
theorem State.answering_endFlowTurn (h : s.portOk) {t : FlowTurn} (turn : s.flowTurn = some t) : s.endFlowTurn.Answering := by
  obtain ⟨port, one, room, -⟩ := h
  refine ⟨port, rfl, one.resolve_left fun none => (nomatch turn.symm.trans none), room ?_⟩
  unfold State.unanswered
  rw [turn]
  rfl

theorem portOk_flowEvent {owner : Command → State → FlowOutcome} {claim : Option Nat} (h : s.endFlowTurn.Answering)
    (change : FlowChange s.endFlowTurn (owner c s.endFlowTurn) claim)
    (short : (owner c s.endFlowTurn).reply.body.length ≤ Config.walkBody) : Ensures (s.flowEvent c owner) State.portOk := by
  have after := h.same change.samePort
  unfold State.flowEvent
  dsimp only
  split
  · exact ensures_next ((after.same (samePort_notify s _)).post _ short)
  next i _ =>
    have released : ((owner c s.endFlowTurn).after.releaseReference i).Answering := after.same ⟨rfl, rfl, rfl, rfl⟩
    exact ensures_ite (fun _ => ensures_next ((released.same (samePort_notify s _)).post _ short))
      fun _ => portOk_takes (after.hold _)

theorem portOk_serveFlow (h : s.portOk) (flows : FlowMapOk s.flowMap) {name : CommandName} {owner : Command → State → FlowOutcome}
    (change : ∀ c (u : State), FlowMapOk u.flowMap → ∃ claim, FlowChange u (owner c u) claim)
    (short : ∀ c (u : State), (owner c u).reply.body.length ≤ Config.walkBody) : Ensures (s.serveFlow name owner) State.portOk := by
  unfold State.serveFlow
  split
  · split
    next c ready =>
      refine ensures_ite (fun _ => ?_) fun _ => ensures_next h
      have answering := State.answering_taken h ready
      have ended : s.taken.endFlowTurn.Answering := ⟨answering.port, rfl, answering.walk, answering.room⟩
      have fine : FlowMapOk s.taken.endFlowTurn.flowMap := by
        show FlowMapOk s.taken.flowMap
        rw [(sameCore_taken s).flowMap]
        exact flows
      obtain ⟨claim, changed⟩ := change c _ fine
      exact ensures_ite (fun _ => portOk_flowEvent ended changed (short _ _)) fun _ => portOk_takes (answering.hold _)
    next => exact ensures_next h
  next c waiting =>
    obtain ⟨claim, changed⟩ := change c s.endFlowTurn flows
    exact ensures_ite (fun _ => ensures_unlessResetting h fun _ =>
      portOk_flowEvent (State.answering_endFlowTurn h waiting) changed (short _ _)) fun _ => ensures_next h
  next c i releasing =>
    have ended := State.answering_endFlowTurn h releasing
    have released : (s.endFlowTurn.releaseReference i).Answering := ended.same ⟨rfl, rfl, rfl, rfl⟩
    exact ensures_ite (fun _ => ensures_unlessResetting h fun _ =>
      ensures_next ((released.same (samePort_notify s _)).post _ (Nat.zero_le _))) fun _ => ensures_next h
  · exact ensures_next h

theorem addFlowOwner_short (c : Command) (u : State) : (addFlowOwner c u).reply.body.length ≤ Config.walkBody := by
  unfold addFlowOwner
  split
  · split <;> exact Nat.zero_le _
  · exact Nat.zero_le _

theorem removeFlowOwner_short (c : Command) (u : State) : (removeFlowOwner c u).reply.body.length ≤ Config.walkBody := by
  unfold removeFlowOwner
  split
  · exact Nat.zero_le _
  · split <;> exact Nat.zero_le _

theorem readFlowOwner_short (c : Command) (u : State) : (readFlowOwner c u).reply.body.length ≤ Config.walkBody := by
  have two : 2 ≤ Config.walkBody := by decide
  unfold readFlowOwner
  split
  · exact Nat.zero_le _
  · split
    · exact Nat.zero_le _
    · exact two

/-! ### Walks -/

/-- A walk whose body, with its resume word, stays within 63 words (R147). -/
def Walk.short (w : Walk) : Prop := 1 + w.entries.length ≤ Config.walkBody

theorem Walk.short_endRun {w w' : Walk} (h : w.short) (ended : w.endRun = some w') : w'.short := by
  unfold Walk.endRun at ended
  split_ifs at ended with none fits
  · cases ended
    exact h
  · cases ended
    unfold Walk.fits at fits
    unfold Walk.short Walk.appendGap
    rw [List.length_append, List.length_singleton]
    have := of_decide_eq_true fits
    omega

theorem Walk.short_appendSummary {w : Walk} (fits : w.fits 3 = true) (i : Nat) (r : Record) : (w.appendSummary i r).short := by
  have room := of_decide_eq_true fits
  have three (n : Nat) : (r.summary i n).length = 3 := rfl
  unfold Walk.short Walk.appendSummary
  dsimp only
  rw [List.length_append, three]
  omega

theorem Walk.short_visit {w : Walk} (h : w.short) (d : WalkDirection) (f : WalkFilter) (count i : Nat) (r : Record) :
    (w.visit d f count i r).1.short := by
  have failing : (w.countFailing i).short := h
  unfold Walk.visit
  split
  · split
    · exact h
    next w' ended =>
      split
      next fits => split <;> exact Walk.short_appendSummary fits i r
      next => exact Walk.short_endRun h ended
  · split
    · split
      · exact failing
      next w' ended => exact Walk.short_endRun failing ended
    · exact failing

theorem Walk.short_atEnd {w : Walk} (h : w.short) : w.atEnd.1.short := by
  unfold Walk.atEnd
  split
  next w' ended => exact Walk.short_endRun h ended
  next => exact h

theorem State.short_walkFrom (s : State) (d : WalkDirection) (f : WalkFilter) (count visits : Nat) :
    ∀ (next : Option Nat) {w : Walk}, w.short → (s.walkFrom d f count visits next w).1.short := by
  induction visits with
  | zero =>
    intro next w h
    cases next with
    | none => exact Walk.short_atEnd h
    | some i => exact h
  | succ visits ih =>
    intro next w h
    cases next with
    | none => exact Walk.short_atEnd h
    | some i =>
      have visited := Walk.short_visit h d f count i (s.record i)
      unfold State.walkFrom
      split
      next w' next' e =>
        rw [e] at visited
        exact ih next' visited
      next w' resume e =>
        rw [e] at visited
        exact visited

/-- A state in which a walk may be taken further (R157). -/
structure State.Walking (s : State) : Prop where
  port : s.port.Ok
  turn : s.flowTurn = none
  room : s.port.responses.length + Config.responseRoom ≤ Config.fifoWords

theorem State.Walking.walkOn (h : s.Walking) {t : WalkTurn} (built : t.built.short) : Ensures (s.walkOn t) State.portOk := by
  have walked := State.short_walkFrom s t.direction t.filter t.count (max 1 s.walkPace) t.next (w := { t.built with draws := s.freeDraws }) built
  unfold State.walkOn
  split
  next w next e =>
    rw [e] at walked
    refine portOk_takes ⟨h.port.of_same rfl rfl, .inl h.turn, fun _ => h.room, fun x held => ?_⟩
    cases held
    exact walked
  next w resume e =>
    rw [e] at walked
    have ended : (s.endWalk resume w.draws).Answering := ⟨h.port, h.turn, rfl, h.room⟩
    refine ensures_next ((ended.same (samePort_notify s _)).post _ ?_)
    rw [List.length_cons, Nat.add_comm]
    exact walked

theorem portOk_walkTable (h : s.portOk) : Ensures (execWalkTable s) State.portOk := by
  unfold execWalkTable
  split
  next t walking =>
    obtain ⟨port, one, room, walk⟩ := h
    refine ensures_unlessResetting ⟨port, one, room, walk⟩ fun _ => State.Walking.walkOn
      ⟨port, one.resolve_right fun none => (nomatch walking.symm.trans none), room ?_⟩ (walk t walking)
    unfold State.unanswered
    rw [walking]
    exact Bool.or_true _
  · split
    · exact ensures_next h
    next c ready =>
      refine ensures_ite (fun _ => ?_) fun _ => ensures_next h
      have answering := State.answering_taken h ready
      split
      · exact ensures_next (answering.post _ (Nat.zero_le _))
      next t begun =>
        refine State.Walking.walkOn ⟨answering.port, answering.turn, answering.room⟩ ?_
        have empty : t.built.entries = [] := by
          unfold State.beginWalk at begun
          dsimp only at begun
          split at begun
          · cases begun
          · split at begun
            · split at begun
              · cases begun
              · cases begun
                rfl
            · cases begun
        unfold Walk.short
        rw [empty]
        decide

/-! ### The window -/

theorem portOk_withPort (h : s.portOk) {p : CommandPort} (ok : p.Ok) (responses : p.responses.length ≤ s.port.responses.length) :
    (s.withPort p).portOk := by
  obtain ⟨-, one, room, walk⟩ := h
  refine ⟨ok, one, fun busy => ?_, walk⟩
  have before := room busy
  show p.responses.length + _ ≤ _
  omega

section Assembly

variable {p : CommandPort} (h : p.Ok)

theorem CommandPort.assembly_eq {n : Nat} (assembly : p.assembly = some (c, n)) : p.commands = p.commands.dropLast ++ [c] := by
  unfold CommandPort.assembly at assembly
  split at assembly
  · cases assembly
  next x newest =>
    split at assembly
    · cases assembly
      exact (List.dropLast_append_getLast? c newest).symm
    all_goals cases assembly

theorem CommandPort.words_newest (xs : List Command) (c : Command) : ((xs ++ [c]).map Command.words).sum = (xs.map Command.words).sum + c.words := by
  rw [List.map_append, List.sum_append]
  rfl

include h

/-- The newest command replaced by one whose words fit. -/
theorem CommandPort.ok_setNewest {n : Nat} (assembly : p.assembly = some (c, n)) {c' : Command}
    (words : p.commandWords + c'.words ≤ Config.fifoWords + c.words) : (p.setNewest c').Ok := by
  have before : p.commandWords = (p.commands.dropLast.map Command.words).sum + c.words := by
    unfold CommandPort.commandWords
    rw [← CommandPort.words_newest, ← CommandPort.assembly_eq assembly]
  refine ⟨?_, h.responseWords, fun x mem => h.olderClosed x ?_⟩
  · show ((p.commands.dropLast ++ [c']).map Command.words).sum ≤ _
    rw [CommandPort.words_newest]
    omega
  · have older : (p.setNewest c').commands.dropLast = p.commands.dropLast := List.dropLast_concat
    rwa [older] at mem

omit h in
theorem Command.closed_of_not_assembling (idle : ∀ n, c.phase ≠ .assembling n) : c.closed = true := by
  unfold Command.closed
  split
  next n assembling => exact absurd assembling (idle n)
  next => rfl
  next => rfl

/-- A port whose newest command is no longer in assembly: every command is closed (R153). -/
theorem CommandPort.ok_truncate : p.truncate.Ok ∧ (∀ x ∈ p.truncate.commands, x.closed = true) ∧ p.truncate.responses = p.responses := by
  unfold CommandPort.truncate
  split
  next c n assembly =>
    refine ⟨CommandPort.ok_setNewest h assembly (Nat.add_le_add_right h.commandWords _), fun x mem => ?_, rfl⟩
    rcases List.mem_append.mp mem with older | newest
    · exact h.olderClosed x older
    · rw [List.mem_singleton.mp newest]
      rfl
  next none =>
    refine ⟨h, fun x mem => ?_, rfl⟩
    unfold CommandPort.assembly at none
    split at none
    next empty =>
      rw [List.getLast?_eq_none_iff.mp empty] at mem
      cases mem
    next y newest =>
      rw [← List.dropLast_append_getLast? y newest] at mem
      rcases List.mem_append.mp mem with older | last
      · exact h.olderClosed x older
      · rw [List.mem_singleton.mp last]
        refine Command.closed_of_not_assembling fun n assembling => ?_
        rw [assembling] at none
        cases none

theorem CommandPort.ok_writeHeader (w : Word) : (p.writeHeader w).Ok ∧ (p.writeHeader w).responses = p.responses := by
  obtain ⟨ok, closed, responses⟩ := CommandPort.ok_truncate h
  unfold CommandPort.writeHeader
  split
  · exact ⟨ok.of_same rfl rfl, responses⟩
  next room =>
    refine ⟨⟨?_, ok.responseWords, fun x mem => closed x ?_⟩, responses⟩
    · show ((p.truncate.commands ++ [commandOf w]).map Command.words).sum ≤ _
      rw [CommandPort.words_newest]
      unfold CommandPort.freeCommandWords CommandPort.commandWords at room
      have one : (commandOf w).words = 1 := rfl
      omega
    · rwa [List.dropLast_concat] at mem

theorem CommandPort.ok_writeBody (place : Place) (w : Word) : (p.writeBody place w).Ok ∧ (p.writeBody place w).responses = p.responses := by
  unfold CommandPort.writeBody
  split
  · exact ⟨h.of_same rfl rfl, rfl⟩
  next c n assembly =>
    have bound := h.commandWords
    split
    · have ok : (p.setNewest (c.takeWord n place w true)).Ok :=
        CommandPort.ok_setNewest h assembly (c' := c.takeWord n place w true) (Nat.add_le_add_right bound _)
      exact ⟨ok.of_same rfl rfl, rfl⟩
    next room =>
      refine ⟨CommandPort.ok_setNewest h assembly (c' := c.takeWord n place w false) ?_, rfl⟩
      have longer : (c.takeWord n place w false).words = c.words + 1 := by
        show 1 + (c.body ++ [(place, w)]).length = 1 + c.body.length + 1
        rw [List.length_append]
        rfl
      unfold CommandPort.freeCommandWords at room
      omega

end Assembly

theorem portOk_readsOnly (h : s.portOk) {c : Instr} (reads : readsOnly c = true) : Ensures (exec c s) State.portOk := by
  have write (p : CommandPort) (commands : p.commands = s.port.commands) (responses : p.responses = s.port.responses) :
      Ensures (s.unlessResetting (s.withPort p).takesWrite) State.portOk :=
    ensures_unlessResetting h fun _ => by
      have given : SamePort s (s.withPort p) := ⟨commands, responses, rfl, rfl⟩
      exact ensures_next (h.same (given.trans (samePort_notifyWrite _)))
  have assembles {p : CommandPort} (made : p.Ok ∧ p.responses = s.port.responses) :
      Ensures (s.unlessResetting (s.takes (s.withPort p))) State.portOk :=
    ensures_unlessResetting h fun _ => portOk_takes (portOk_withPort h made.1 (by rw [made.2]))
  cases c with
  | readAssociation =>
    refine portOk_serve h (fun c u => ?_) fun c u => ?_
    · unfold readAssociationOwner
      dsimp only
      split
      · exact .refl u
      · split <;> exact .refl u
    · unfold readAssociationOwner
      dsimp only
      split
      · exact Nat.zero_le _
      · split
        · exact Nat.zero_le _
        · have words : (u.record c.index).readBody.length = 26 := by
            unfold Record.readBody Record.readEgress Record.readIngress Slot.readWords Record.readCounters
            cases (u.record c.index).config.kind <;> rfl
          rw [words]
          decide
  | readPart => exact portOk_serve h (fun _ u => .refl u) fun _ _ => by show (4 : Nat) ≤ _; decide
  | walkTable => exact portOk_walkTable h
  | commandAnsweredByPort =>
    show Ensures (execCommandAnsweredByPort s) _
    unfold execCommandAnsweredByPort
    split
    · exact ensures_next h
    next c ready =>
      split
      · exact ensures_next ((State.answering_taken h ready).post _ (Nat.zero_le _))
      · exact ensures_next h
  | headerWrite w => exact assembles (CommandPort.ok_writeHeader h.1 w)
  | bodyWrite w => exact assembles (CommandPort.ok_writeBody h.1 .body w)
  | keyWrite w => exact assembles (CommandPort.ok_writeBody h.1 .key w)
  | assemblyExpiry =>
    obtain ⟨ok, -, responses⟩ := CommandPort.ok_truncate h.1
    exact assembles ⟨ok, responses⟩
  | serviceStatusWrite w => exact write _ rfl rfl
  | serviceEnableWrite w => exact write _ rfl rfl
  | holdBitWrite b => exact write _ rfl rfl
  | ignoredWrite o w => exact ensures_next h
  | responseRead =>
    refine ensures_ite (fun _ => ensures_next (h.same ⟨rfl, rfl, rfl, rfl⟩)) fun _ => ?_
    have shorter : (s.port.responses.tail).length ≤ s.port.responses.length := (List.tail_sublist _).length_le
    have popped : s.popResponse.portOk :=
      portOk_withPort h ⟨h.1.commandWords, shorter.trans h.1.responseWords, h.1.olderClosed⟩ shorter
    exact portOk_takes (popped.same ⟨rfl, rfl, rfl, rfl⟩)
  | _ => cases reads

end Port

end Sys2Proof.Machine
end

section
/-!
LAWS. What names a record is not touched by ticks, rollovers and messages: they leave its configuration, its counts of what names it,
and whether it is in use, but that a drained RETIRING record becomes FREE (sections 1.2, 1.7 and 1.9).
-/

namespace Sys2Proof.Machine

/-- The rule that asks nothing of the slots. -/
theorem slotRule_any : SlotRule (fun _ _ => True) :=
  ⟨fun _ => trivial, fun _ _ _ _ _ => trivial, fun _ => trivial, fun _ _ => trivial, fun _ _ => trivial⟩

/-- A record with the configuration, the counts of references and the use of another. -/
structure Record.RefersAs (r r' : Record) : Prop where
  config : r'.config = r.config
  companionCount : r'.companionCount = r.companionCount
  flowReferences : r'.flowReferences = r.flowReferences
  state : r'.state = r.state ∨ (r.inUse ∧ r'.inUse)

/-- A record that refers as another, or the FREE record in place of one that is not in use (R16). -/
inductive Record.Refers (r r' : Record) : Prop where
  | kept (h : r.RefersAs r')
  | freed (unused : ¬ r.inUse) (free : r' = Record.free)

section Refers

variable {r q r' : Record}

theorem Record.RefersAs.refl (r : Record) : r.RefersAs r := ⟨rfl, rfl, rfl, .inl rfl⟩

theorem Record.inUse_congr (h : r'.state = r.state) : r'.inUse ↔ r.inUse := by
  unfold Record.inUse
  rw [h]

theorem Record.RefersAs.trans (h : r.RefersAs q) (h' : q.RefersAs r') : r.RefersAs r' where
  config := h'.config.trans h.config
  companionCount := h'.companionCount.trans h.companionCount
  flowReferences := h'.flowReferences.trans h.flowReferences
  state := by
    rcases h.state with same | ⟨before, between⟩ <;> rcases h'.state with same' | ⟨between', after⟩
    · exact .inl (same'.trans same)
    · exact .inr ⟨(Record.inUse_congr same).mp between', after⟩
    · exact .inr ⟨before, (Record.inUse_congr same').mpr between⟩
    · exact .inr ⟨before, after⟩

theorem Record.RefersAs.inUse_iff (h : r.RefersAs r') : r'.inUse ↔ r.inUse := by
  rcases h.state with same | ⟨before, after⟩
  · exact Record.inUse_congr same
  · exact iff_of_true after before

theorem Record.Follows.refersAs {R : Slot → Slot → Prop} (h : r.Follows R r') : r.RefersAs r' :=
  ⟨h.config, h.companionCount, h.flowReferences, h.state⟩

theorem Record.refersAs_setSlot (r : Record) (k : SlotNo) (sl : Slot) : r.RefersAs (r.setSlot k sl) :=
  (Record.follows_setSlot slotRule_any r trivial).refersAs

theorem Record.refersAs_halt (h : r.inUse) (why : HaltReason) : r.RefersAs (r.halt why) := (Record.follows_halt slotRule_any h why).refersAs

theorem Record.unused_of_retiring (retiring : r.state = .retiring) : ¬ r.inUse := fun inUse => by
  unfold Record.inUse at inUse
  rw [retiring] at inUse
  rcases inUse with e | e | e <;> cases e

theorem Record.Refers.freeWhenDrained (h : r.RefersAs r') : r.Refers r'.freeWhenDrained := by
  unfold Record.freeWhenDrained
  split
  next drained =>
    obtain ⟨retiring, -⟩ := drained
    exact .freed (fun inUse => Record.unused_of_retiring retiring (h.inUse_iff.mpr inUse)) rfl
  next => exact .kept h

/-- A record that is present refers to one that was. -/
theorem Record.Refers.present (h : r.Refers r') (present : r'.state ≠ .free) : r.state ≠ .free := by
  cases h with
  | kept h =>
    rcases h.state with same | ⟨before, -⟩
    · rwa [← same]
    · exact Record.inUse_ne_free before
  | freed _ free =>
    rw [free] at present
    exact absurd rfl present

/-- What a record refers to, as the table holds it. -/
theorem Record.Refers.stored (h : r.Refers r') : r.Refers r'.stored := by
  unfold Record.stored
  split
  next none =>
    cases h with
    | kept h => exact .freed (fun inUse => Record.inUse_ne_free (h.inUse_iff.mpr inUse) none) rfl
    | freed unused => exact .freed unused rfl
  next => exact h

/-! ### The messages at a record -/

theorem Record.refers_allocate (free : r.state = .free → r = Record.free) (i : Nat) (l : LaneId) (n t : Nat) :
    r.Refers (r.allocate i l n t).1 := by
  have refused : r.RefersAs r.refuse := ⟨rfl, rfl, rfl, .inl rfl⟩
  unfold Record.allocate
  split
  · exact .freeWhenDrained refused
  next check =>
    have live : r.state = .live := by
      unfold Record.allocationCheck at check
      split_ifs at check with retiring staged halted lane
      cases state : r.state with
      | live => rfl
      | free =>
        rw [free state] at lane
        exact absurd (BitVec.getLsbD_zero ..) lane
      | staged => exact absurd state staged
      | halted => exact absurd state halted
      | retiring => exact absurd state retiring
    split
    · have numbered : r.RefersAs r.numbered := (r.refersAs_setSlot r.currentSlot r.currentPosition.assigned).trans ⟨rfl, rfl, rfl, .inl rfl⟩
      exact .kept (numbered.trans (Record.follows_grant live n t).refersAs)
    · have damaged := refused.trans (r.refuse.refersAs_setSlot r.refuse.currentSlot r.refuse.currentPosition.damage)
      exact .kept (damaged.trans (Record.refersAs_halt (damaged.inUse_iff.mpr (.inr (.inl live))) .keyFault))

theorem Record.refersAs_endGrant (r : Record) (k : SlotNo) (t : Nat) : r.RefersAs (r.endGrant k t) :=
  (r.refersAs_setSlot k _).trans (r.endGrant_follows k t).refersAs

theorem Record.refers_release (r : Record) (m : ReleaseMsg) (t : Nat) : r.Refers (r.release m t) :=
  .freeWhenDrained (Record.RefersAs.trans (q := { r with counters := r.counters.released m }) ⟨rfl, rfl, rfl, .inl rfl⟩
    (Record.refersAs_endGrant _ m.slot t))

theorem Record.refers_abandon (r : Record) (m : AbandonMsg) (t : Nat) : r.Refers (r.abandon m t) :=
  .freeWhenDrained (Record.RefersAs.trans (q := { r with counters := r.counters.abandoned m.reason }) ⟨rfl, rfl, rfl, .inl rfl⟩
    (Record.refersAs_endGrant _ m.slot t))

theorem Record.refers_lookup (r : Record) (i : Nat) (l : LaneId) (e : EnvelopeFields) : r.Refers (r.lookup i l e).1 := by
  refine .kept ?_
  have ends := r.lookup_ends i l e
  generalize r.lookup i l e = judged at ends ⊢
  cases ends with
  | refused c why => exact ⟨rfl, rfl, rfl, .inl rfl⟩
  | granted k => exact r.refersAs_setSlot k _
  | damaged k why eligible =>
    have counted : r.RefersAs r.countNoKey := ⟨rfl, rfl, rfl, .inl rfl⟩
    have inUse : r.inUse := by
      rcases (r.eligible_iff _).mp eligible with ⟨live, -⟩ | ⟨halted, -⟩
      · exact .inr (.inl live)
      · exact .inr (.inr halted)
    have present : (r.slot k).role ≠ .absent := fun absent => by
      rw [absent] at eligible
      rcases (r.eligible_iff _).mp eligible with ⟨-, e | ⟨-, e⟩ | ⟨-, e⟩⟩ | ⟨-, e⟩ <;> cases e
    exact counted.trans (Record.lookupFault_follows r.countNoKey k present inUse).refersAs

theorem Record.refersAs_ingressSwitch (r : Record) (capture t : Nat) : r.RefersAs (r.ingressSwitch capture t) :=
  (Record.follows_ingressSwitch slotRule_any t capture (fun _ => trivial) trivial).refersAs

theorem Record.refersAs_acceptCommit (r : Record) (k : SlotNo) (s n t : Nat) : r.RefersAs (r.acceptCommit k s n t) := by
  have windowed : r.RefersAs (r.windowed k s) := r.refersAs_setSlot k _
  have accepting : r.RefersAs (r.accepting k s t) := by
    unfold Record.accepting
    split
    · exact windowed.trans ((r.windowed k s).refersAs_ingressSwitch s t)
    · exact windowed
  rw [Record.acceptCommit_eq]
  exact (accepting.trans (Record.commitCredit_follows k n _).refersAs).trans ⟨rfl, rfl, rfl, .inl rfl⟩

theorem Record.refers_commit (r : Record) (k : SlotNo) (s n t : Nat) : r.Refers (r.commit k s n t) := by
  have answered : r.RefersAs (r.answerCommit (r.judgeCommit k s) k s n t) := by
    cases r.judgeCommit k s with
    | accepted => exact r.refersAs_acceptCommit k s n t
    | retired | noKey | late | replay => exact ⟨rfl, rfl, rfl, .inl rfl⟩
  exact .freeWhenDrained (answered.trans (Record.refersAs_endGrant _ k t))

/-! ### Commands and ticks -/

theorem Record.refersAs_loadNext (r : Record) (key : BitVec 256) (salt : BitVec 48) (t : Nat) : r.RefersAs (r.loadNext key salt t) :=
  (r.refersAs_setSlot _ _).trans (r.follows_loadNext key salt t).refersAs

theorem Record.refersAs_activate (staged : r.state = .staged) : r.RefersAs r.activate := ⟨rfl, rfl, rfl, .inr ⟨.inl staged, .inr (.inl rfl)⟩⟩

theorem Record.refersAs_tick (r : Record) (t : Nat) : r.RefersAs (r.tick t) := (Record.follows_tick slotRule_any t r).refersAs

theorem Record.refersAs_trigger (r : Record) (t : Nat) : r.RefersAs (r.trigger t) := (Record.follows_trigger slotRule_any t r).refersAs

theorem Record.refersAs_egressSwitch (r : Record) (t : Nat) : r.RefersAs (r.egressSwitch t) :=
  (Record.follows_egressSwitch slotRule_any t r).refersAs

theorem Record.refersAs_evidenceArrives (r : Record) (sender t : Nat) : r.RefersAs (r.evidenceArrives sender t) :=
  (Record.follows_evidenceArrives slotRule_any t r sender).refersAs

end Refers

end Sys2Proof.Machine
end

section
/-!
LAWS. What names a record, said of the records as a function of the index: the flow references, the companions and the tags are exact,
and stay so where the records refer as they did (sections 1.8, 1.9 and 5.1).
-/

namespace Sys2Proof.Machine

/-! ### What names what -/

/-- A record may be named by flow entries: an EGRESS record in use (R80). -/
def Record.takesFlows (r : Record) : Prop := r.config.kind = .egress ∧ r.inUse

/-- A record counts the flow references that are held to it, and none is held where none may be. -/
structure Record.FlowsExact (r : Record) (held : Nat) : Prop where
  goes : 0 < held → r.takesFlows
  count : r.config.kind = .egress → r.flowReferences = held

/-- A record names an index as its companion: an EGRESS record in use (R18). -/
def Record.namesCompanion (r : Record) (c : Nat) : Bool :=
  r.config.kind == .egress && r.config.companion == some c && (r.state == .staged || r.state == .live || r.state == .halted)

/-- What a record adds to the companion count of an index. -/
def Record.naming (r : Record) (c : Nat) : Nat := if r.namesCompanion c then 1 else 0

/-- The number of records that name an index as companion. -/
def namingIn (f : Nat → Record) (c : Nat) : Nat := ∑ i ∈ Finset.range Config.records, (f i).naming c

/-- The companions named are INGRESS records in use, which count what names them (R18). -/
structure CompanionsExact (f : Nat → Record) : Prop where
  named : ∀ i j, (f i).config.companion = some j → (f i).takesFlows ∧ (f j).config.kind = .ingress ∧ (f j).inUse
  count : ∀ j, (f j).config.kind = .ingress → (f j).companionCount = namingIn f j

/-- A record carries a tag in the Tag Index: an INGRESS record in use does (R17). -/
def Record.carries (r : Record) (g : Nat) : Prop := r.config.kind = .ingress ∧ r.inUse ∧ r.config.tag.toNat = g

/-- The Tag Index leads from each tag to the record that carries it (R17). -/
def TagsExact (index : KeyedList Nat) (f : Nat → Record) : Prop := ∀ g i, index.find g = some i ↔ (f i).carries g

/-- A record that another names and counts as it did: it is the same in all but what no companion sees, or FREE in place of one not in
use. -/
inductive Record.Names (r r' : Record) : Prop where
  | kept (config : r'.config = r.config) (companionCount : r'.companionCount = r.companionCount) (inUse : r'.inUse ↔ r.inUse)
  | freed (unused : ¬ r.inUse) (free : r' = Record.free)

section Records

variable {r r' : Record} {n c : Nat}

theorem Record.not_inUse_free : ¬ Record.free.inUse := fun used => by rcases used with e | e | e <;> cases e

theorem Record.namesCompanion_iff : r.namesCompanion c = true ↔ r.takesFlows ∧ r.config.companion = some c := by
  unfold Record.namesCompanion Record.takesFlows Record.inUse
  simp only [Bool.and_eq_true, Bool.or_eq_true, beq_iff_eq]
  tauto

theorem Record.naming_of_not (h : ¬ (r.takesFlows ∧ r.config.companion = some c)) : r.naming c = 0 :=
  if_neg fun e => h (Record.namesCompanion_iff.mp e)

/-- A record that may name a companion names the one that it has. -/
theorem Record.naming_of_takesFlows (h : r.takesFlows) : r.naming c = if r.config.companion = some c then 1 else 0 := by
  split
  next named => exact if_pos (Record.namesCompanion_iff.mpr ⟨h, named⟩)
  next other => exact Record.naming_of_not fun both => other both.2

theorem Record.naming_congr (h : r'.takesFlows ∧ r'.config.companion = some c ↔ r.takesFlows ∧ r.config.companion = some c) :
    r'.naming c = r.naming c := by
  by_cases named : r.takesFlows ∧ r.config.companion = some c
  · rw [Record.naming, Record.naming, if_pos (Record.namesCompanion_iff.mpr named), if_pos (Record.namesCompanion_iff.mpr (h.mpr named))]
  · rw [Record.naming_of_not named, Record.naming_of_not (h.not.mpr named)]

theorem Record.Refers.names (h : r.Refers r') : r.Names r' := by
  cases h with
  | kept h => exact .kept h.config h.companionCount h.inUse_iff
  | freed unused free => exact .freed unused free

theorem Record.Names.refl (r : Record) : r.Names r := .kept rfl rfl .rfl

theorem Record.Names.stored (h : r.Names r') : r.Names r'.stored := by
  unfold Record.stored
  split
  next none =>
    cases h with
    | kept _ _ inUse => exact .freed (fun used => Record.inUse_ne_free (inUse.mpr used) none) rfl
    | freed unused => exact .freed unused rfl
  next => exact h

theorem Record.Names.inUse (h : r.Names r') (used : r.inUse) : r'.config = r.config ∧ r'.inUse := by
  cases h with
  | kept config _ inUse => exact ⟨config, inUse.mpr used⟩
  | freed unused => exact absurd used unused

theorem Record.Names.used (h : r.Names r') (used : r'.inUse) : r.inUse := by
  cases h with
  | kept _ _ inUse => exact inUse.mp used
  | freed _ free => exact absurd (free ▸ used) Record.not_inUse_free

theorem Record.Names.inUse_iff (h : r.Names r') : r'.inUse ↔ r.inUse := ⟨h.used, fun used => (h.inUse used).2⟩

theorem Record.Names.takesFlows_iff (h : r.Names r') : r'.takesFlows ↔ r.takesFlows := by
  unfold Record.takesFlows
  rw [h.inUse_iff]
  exact and_congr_left fun used => by rw [(h.inUse used).1]

theorem Record.Names.naming (h : r.Names r') (c : Nat) : r'.naming c = r.naming c := Record.naming_congr (by
  rw [h.takesFlows_iff]
  exact and_congr_right fun used => by rw [(h.inUse used.2).1])

theorem Record.Names.carries_iff (h : r.Names r') (g : Nat) : r'.carries g ↔ r.carries g := by
  unfold Record.carries
  rw [h.inUse_iff]
  constructor
  · rintro ⟨kind, used, tag⟩
    rw [(h.inUse used).1] at kind tag
    exact ⟨kind, used, tag⟩
  · rintro ⟨kind, used, tag⟩
    rw [← (h.inUse used).1] at kind tag
    exact ⟨kind, used, tag⟩

theorem Record.FlowsExact.refer (h : r.FlowsExact n) (refers : r.Refers r') : r'.FlowsExact n := by
  cases refers with
  | kept same => exact ⟨fun held => (Record.Refers.kept same).names.takesFlows_iff.mpr (h.goes held), fun kind => by
      rw [same.flowReferences]
      exact h.count (same.config ▸ kind)⟩
  | freed unused free =>
    have none : n = 0 := Nat.eq_zero_of_not_pos fun held => unused (h.goes held).2
    rw [free, none]
    exact ⟨fun held => absurd held (Nat.lt_irrefl 0), fun _ => rfl⟩

/-- Nothing is held to the FREE record. -/
theorem Record.flowsExact_unused (unused : ¬ r.takesFlows) (h : r.FlowsExact n) : n = 0 := Nat.eq_zero_of_not_pos fun held => unused (h.goes held)

theorem Record.FlowsExact.stored (h : r.FlowsExact n) : r.stored.FlowsExact n := h.refer (Record.Refers.kept (.refl r)).stored

end Records

/-! ### Records that refer as they did -/

section Keeps

variable {f g : Nat → Record}

theorem namingIn_congr {c : Nat} (h : ∀ i, (g i).naming c = (f i).naming c) : namingIn g c = namingIn f c := Finset.sum_congr rfl fun i _ => h i

/-- Where one record alone may name anew, the count of an index loses what that record named and gains what it names. -/
theorem namingIn_change {i c : Nat} (index : i < Config.records) (others : ∀ j, j ≠ i → (g j).naming c = (f j).naming c) :
    namingIn g c + (f i).naming c = namingIn f c + (g i).naming c := by
  unfold namingIn
  have listed := Finset.mem_range.mpr index
  rw [← Finset.add_sum_erase _ _ listed, ← Finset.add_sum_erase _ (fun j => (f j).naming c) listed,
    Finset.sum_congr rfl fun j mem => others j (Finset.ne_of_mem_erase mem)]
  omega

theorem namingIn_eq_zero {c : Nat} (h : ∀ i, (f i).naming c = 0) : namingIn f c = 0 := Finset.sum_eq_zero fun i _ => h i

theorem naming_le_namingIn {i : Nat} (index : i < Config.records) (c : Nat) : (f i).naming c ≤ namingIn f c :=
  Finset.single_le_sum (f := fun j => (f j).naming c) (fun _ _ => Nat.zero_le _) (Finset.mem_range.mpr index)

theorem CompanionsExact.keep (h : CompanionsExact f) (names : ∀ i, (f i).Names (g i)) : CompanionsExact g where
  named i j companion := by
    have before : (f i).config.companion = some j := by
      cases names i with
      | kept config => rwa [← config]
      | freed _ free =>
        rw [free] at companion
        cases companion
    obtain ⟨goes, kind, used⟩ := h.named i j before
    obtain ⟨config, still⟩ := (names j).inUse used
    exact ⟨(names i).takesFlows_iff.mpr goes, config ▸ kind, still⟩
  count j kind := by
    rw [namingIn_congr fun i => (names i).naming j]
    cases names j with
    | kept config companionCount =>
      rw [companionCount]
      exact h.count j (config ▸ kind)
    | freed _ free =>
      rw [free] at kind
      cases kind

theorem TagsExact.keep {index : KeyedList Nat} (h : TagsExact index f) (names : ∀ i, (f i).Names (g i)) : TagsExact index g :=
  fun tag i => (h tag i).trans ((names i).carries_iff tag).symm

/-- One record named or unnamed: the records that it named and names count anew, and it counts what names it. -/
theorem CompanionsExact.move (h : CompanionsExact f) {i : Nat} (index : i < Config.records)
    (others : ∀ j, j ≠ i → (g j).config = (f j).config ∧ ((g j).inUse ↔ (f j).inUse))
    (counts : ∀ j, j ≠ i → (f j).config.kind = .ingress → (g j).companionCount + (f i).naming j = (f j).companionCount + (g i).naming j)
    (named : ∀ j, (g i).config.companion = some j → (g i).takesFlows ∧ j ≠ i ∧ (f j).config.kind = .ingress ∧ (f j).inUse)
    (stays : ∀ j, j ≠ i → (f j).config.companion = some i → (g i).config.kind = .ingress ∧ (g i).inUse)
    (count : (g i).config.kind = .ingress → (g i).companionCount = namingIn g i) : CompanionsExact g where
  named j k companion := by
    have target (ne : k ≠ i) (ingress : (f k).config.kind = .ingress ∧ (f k).inUse) : (g k).config.kind = .ingress ∧ (g k).inUse := by
      obtain ⟨config, inUse⟩ := others k ne
      rw [config, inUse]
      exact ingress
    by_cases here : j = i
    · subst here
      obtain ⟨goes, ne, ingress⟩ := named k companion
      exact ⟨goes, target ne ingress⟩
    · obtain ⟨config, inUse⟩ := others j here
      rw [config] at companion
      obtain ⟨goes, ingress⟩ := h.named j k companion
      refine ⟨⟨config ▸ goes.1, inUse.mpr goes.2⟩, ?_⟩
      by_cases at_index : k = i
      · subst at_index
        exact stays j here companion
      · exact target at_index ingress
  count j kind := by
    by_cases here : j = i
    · subst here
      exact count kind
    · rw [(others j here).1] at kind
      have change := namingIn_change (f := f) (g := g) (c := j) index fun k ne => by
        obtain ⟨config, inUse⟩ := others k ne
        refine Record.naming_congr ?_
        unfold Record.takesFlows
        rw [config, inUse]
      have before := h.count j kind
      have after := counts j here kind
      omega

end Keeps

end Sys2Proof.Machine
end

section
/-!
LAWS. The references of the part, told record by record: what the invariant of the references says of the lists that hold them (sections
1.8, 1.9 and 5.1).
-/

namespace Sys2Proof.Machine

/-- What names a record is what the record counts, told record by record. -/
structure State.Named (s : State) : Prop where
  flows : ∀ i, (s.record i).FlowsExact (s.heldReferences i)
  companions : CompanionsExact s.record
  tags : TagsExact s.manager.tagIndex s.record

section Named

variable {s t : State} {i : Nat}

/-! ### The records of a canonical table -/

/-- A record that is not FREE is listed (R2). -/
theorem State.mem_of_present (present : (s.record i).state ≠ .free) : (i, s.record i) ∈ s.manager.records := by
  unfold State.record at present ⊢
  cases found : s.manager.records.find i with
  | none =>
    rw [found] at present
    exact absurd rfl present
  | some r => exact KeyedList.mem_of_find found

theorem State.index_of_present (h : s.manager.Canonical) (present : (s.record i).state ≠ .free) : i < Config.records :=
  h.indices _ (State.mem_of_present present)

/-- A record in state FREE is the FREE record (R2). -/
theorem State.record_of_free (h : s.manager.Canonical) (free : (s.record i).state = .free) : s.record i = Record.free := by
  unfold State.record at free ⊢
  cases found : s.manager.records.find i with
  | none => rfl
  | some r =>
    rw [found] at free
    exact absurd free (h.noFree _ (KeyedList.mem_of_find found))

/-! ### From the lists to the records -/

theorem SameTables.heldReferences (same : SameTables s t) (i : Nat) : t.heldReferences i = s.heldReferences i := by
  unfold State.heldReferences State.releasingRecord
  rw [same.namingEntries, same.flowTurn]

theorem named_tables : OfTables State.Named := fun s t same h => by
  have records : t.record = s.record := funext same.record
  refine ⟨fun i => ?_, ?_, ?_⟩
  · rw [records, same.heldReferences]
    exact h.flows i
  · rw [records]
    exact h.companions
  · rw [records, same.tagIndex]
    exact h.tags

theorem State.record_of_mem (h : s.manager.Canonical) {p : Nat × Record} (mem : p ∈ s.manager.records) : s.record p.1 = p.2 := by
  unfold State.record
  rw [KeyedList.find_of_mem h.records mem]
  rfl

/-- The records that name an index, counted in the list of records and by index. -/
theorem State.namingRecords_eq (h : s.manager.Canonical) (c : Nat) : s.namingRecords c = namingIn s.record c := by
  have distinct : ((s.manager.records.filter fun p => p.2.namesCompanion c).map Prod.fst).Nodup :=
    ((List.filter_sublist.map _).nodup (h.records.imp fun lt => Nat.ne_of_lt lt))
  have same : ((s.manager.records.filter fun p => p.2.namesCompanion c).map Prod.fst).toFinset =
      (Finset.range Config.records).filter fun i => (s.record i).namesCompanion c = true := by
    ext i
    rw [List.mem_toFinset, List.mem_map, Finset.mem_filter, Finset.mem_range]
    constructor
    · rintro ⟨p, mem, rfl⟩
      obtain ⟨listed, names⟩ := List.mem_filter.mp mem
      rw [State.record_of_mem h listed]
      exact ⟨h.indices p listed, names⟩
    · rintro ⟨-, names⟩
      have present : (s.record i).state ≠ .free := Record.inUse_ne_free (Record.namesCompanion_iff.mp names).1.2
      exact ⟨_, List.mem_filter.mpr ⟨State.mem_of_present present, names⟩, rfl⟩
  calc s.namingRecords c
      = ((s.manager.records.filter fun p => p.2.namesCompanion c).map Prod.fst).length := (List.length_map _).symm
    _ = ((Finset.range Config.records).filter fun i => (s.record i).namesCompanion c = true).card := by
        rw [← same, List.toFinset_card_of_nodup distinct]
    _ = namingIn s.record c := Finset.card_filter ..

theorem State.ReferencesExact.named_records (refs : s.ReferencesExact) (h : s.manager.Canonical) : s.Named where
  flows i := by
    refine ⟨fun held => ?_, refs.flowCount i⟩
    by_cases releasing : s.releasingRecord = some i
    · exact refs.releasing i releasing
    · unfold State.heldReferences at held
      rw [if_neg releasing] at held
      obtain ⟨e, mem⟩ := List.exists_mem_of_length_pos (l := s.flowMap.filter _) held
      obtain ⟨listed, action⟩ := List.mem_filter.mp mem
      exact refs.named e listed i (beq_iff_eq.mp action)
  companions := by
    refine ⟨fun i j companion => ?_, fun j kind => ?_⟩
    · obtain ⟨kind, used, ingress⟩ := refs.companion i j companion
      exact ⟨⟨kind, used⟩, ingress⟩
    · rw [refs.companionCount j kind, State.namingRecords_eq h]
  tags g i := by
    constructor
    · exact refs.tagged g i
    · rintro ⟨kind, used, rfl⟩
      exact refs.indexed i kind used

/-! ### From the records to the lists -/

/-- Each tag leads to another record, so there are no more tags than records (R17). -/
theorem State.Named.tagRoom (named : s.Named) (h : s.manager.Canonical) : s.manager.tagIndex.length ≤ Config.records := by
  have found {p : Nat × Nat} (mem : p ∈ s.manager.tagIndex) : (s.record p.2).carries p.1 :=
    (named.tags p.1 p.2).mp (KeyedList.find_of_mem h.tags mem)
  have distinct : (s.manager.tagIndex.map Prod.snd).Nodup := by
    refine List.Nodup.map_on (fun p mp q mq same => ?_) (List.Nodup.of_map Prod.fst (h.tags.imp fun lt => Nat.ne_of_lt lt))
    obtain ⟨-, -, tag⟩ := found mp
    obtain ⟨-, -, tag'⟩ := found mq
    exact Prod.ext (by rw [← tag, ← tag', same]) same
  have below : s.manager.tagIndex.map Prod.snd ⊆ List.range Config.records := fun i mem => by
    obtain ⟨p, mp, rfl⟩ := List.mem_map.mp mem
    obtain ⟨-, used, -⟩ := found mp
    exact List.mem_range.mpr (State.index_of_present h (Record.inUse_ne_free used))
  calc s.manager.tagIndex.length
      = (s.manager.tagIndex.map Prod.snd).length := (List.length_map _).symm
    _ ≤ (List.range Config.records).length := (distinct.subperm below).length_le
    _ = Config.records := List.length_range

theorem State.Named.references (named : s.Named) (h : s.manager.Canonical) : s.ReferencesExact where
  named e mem i action := (named.flows i).goes (Nat.lt_of_lt_of_le (Nat.pos_of_ne_zero (State.namingEntries_pos mem action)) (Nat.le_add_right ..))
  releasing i releasing := (named.flows i).goes (by
    unfold State.heldReferences
    rw [if_pos releasing]
    exact Nat.succ_pos _)
  flowCount i := (named.flows i).count
  companion i j companion := by
    obtain ⟨⟨kind, used⟩, ingress⟩ := named.companions.named i j companion
    exact ⟨kind, used, ingress⟩
  companionCount i kind := by rw [State.namingRecords_eq h, named.companions.count i kind]
  tagged g i found := (named.tags g i).mp found
  indexed i kind used := (named.tags _ i).mpr ⟨kind, used, rfl⟩
  tagRoom := named.tagRoom h

/-! ### A record given anew -/

theorem State.Named.refer (h : s.Named) (refers : ∀ i, (s.record i).Refers (t.record i)) (held : ∀ i, t.heldReferences i = s.heldReferences i)
    (tagIndex : t.manager.tagIndex = s.manager.tagIndex) : t.Named where
  flows i := by
    rw [held]
    exact (h.flows i).refer (refers i)
  companions := h.companions.keep fun i => (refers i).names
  tags := by
    rw [tagIndex]
    exact h.tags.keep fun i => (refers i).names

/-- One record given anew that refers as it did. -/
theorem State.Named.setRecord (h : s.Named) {i : Nat} {r : Record} (refers : (s.record i).Refers r) : (s.setRecord i r).Named :=
  h.refer (fun j => by
    rw [State.record_setRecord_stored]
    split
    next e =>
      subst e
      exact refers.stored
    next => exact .kept (.refl _)) (fun _ => rfl) rfl

end Named

end Sys2Proof.Machine
end

section
/-!
PROOFS. The commands that name and unname records keep the references exact: Install, Modify and Retire Association (sections 1.4, 1.6,
1.7 and 1.9).
-/

namespace Sys2Proof.Machine

section Moves

variable {s t : State} {c : Command}

/-! ### One record given anew, and the companion counts with it -/

theorem Record.FlowsExact.counted {r : Record} {n : Nat} (h : r.FlowsExact n) (m : Nat) : ({ r with companionCount := m } : Record).FlowsExact n :=
  ⟨h.goes, h.count⟩

/-- One record given anew, while the companions that it named and names count anew. -/
theorem State.Named.move (h : s.Named) {i : Nat} {r : Record} {m : Nat → Nat} (index : i < Config.records)
    (records : ∀ j, t.record j = if i = j then r else { s.record j with companionCount := m j })
    (held : ∀ j, t.heldReferences j = s.heldReferences j) (flows : r.FlowsExact (s.heldReferences i))
    (counts : ∀ j, j ≠ i → (s.record j).config.kind = .ingress → m j + (s.record i).naming j = (s.record j).companionCount + r.naming j)
    (named : ∀ j, r.config.companion = some j → r.takesFlows ∧ j ≠ i ∧ (s.record j).config.kind = .ingress ∧ (s.record j).inUse)
    (stays : ∀ j, j ≠ i → (s.record j).config.companion = some i → r.config.kind = .ingress ∧ r.inUse)
    (count : r.config.kind = .ingress → r.companionCount + (s.record i).naming i = namingIn s.record i + r.naming i)
    (tags : TagsExact t.manager.tagIndex t.record) : t.Named := by
  have here : t.record i = r := (records i).trans (if_pos rfl)
  have others (j : Nat) (ne : j ≠ i) : t.record j = { s.record j with companionCount := m j } := (records j).trans (if_neg ne.symm)
  refine ⟨fun j => ?_, ?_, tags⟩
  · rw [held]
    by_cases e : j = i
    · rw [e, here]
      exact flows
    · rw [others j e]
      exact (h.flows j).counted _
  · have change := namingIn_change (f := s.record) (g := t.record) (c := i) index fun j ne => by
      rw [others j ne]
      exact Record.naming_congr Iff.rfl
    rw [here] at change
    refine h.companions.move index (fun j ne => ?_) (fun j ne kind => ?_) (fun j companion => ?_) (fun j ne companion => ?_) fun kind => ?_
    · rw [others j ne]
      exact ⟨rfl, Iff.rfl⟩
    · rw [others j ne, here]
      exact counts j ne kind
    · rw [here] at companion ⊢
      exact named j companion
    · rw [here]
      exact stays j ne companion
    · rw [here] at kind ⊢
      have := count kind
      omega

/-- No record names one that is not an INGRESS record in use. -/
theorem CompanionsExact.naming_eq_zero {f : Nat → Record} (h : CompanionsExact f) {i : Nat}
    (other : ¬ ((f i).config.kind = .ingress ∧ (f i).inUse)) (j : Nat) : (f j).naming i = 0 :=
  Record.naming_of_not fun both => other (h.named j i both.2).2

/-- A record does not name itself. -/
theorem CompanionsExact.naming_self {f : Nat → Record} (h : CompanionsExact f) (i : Nat) : (f i).naming i = 0 :=
  Record.naming_of_not fun both => by
    obtain ⟨⟨egress, -⟩, named⟩ := both
    exact nomatch egress.symm.trans (h.named i i named).2.1

/-- Tags where the record given anew carries what the old one did. -/
theorem TagsExact.move {index : KeyedList Nat} (h : TagsExact index s.record) {i : Nat} {r : Record} {m : Nat → Nat}
    (records : ∀ j, t.record j = if i = j then r else { s.record j with companionCount := m j })
    (carries : ∀ g, r.carries g ↔ (s.record i).carries g) : TagsExact index t.record := fun g j => by
  rw [h g j, records]
  split
  next e =>
    subst e
    exact (carries g).symm
  next => exact Iff.rfl

theorem State.heldReferences_gainCompanion (s : State) (o : Option Nat) (j : Nat) : (s.gainCompanion o).heldReferences j = s.heldReferences j := by
  cases o <;> rfl

theorem State.heldReferences_loseCompanion (s : State) (o : Option Nat) (j : Nat) : (s.loseCompanion o).heldReferences j = s.heldReferences j := by
  cases o <;> rfl

/-- A companion that passes the checks of R8 and R11 is an INGRESS record in use. -/
theorem State.companion_checked {o : Option Nat} (kind : ¬ s.companionWrongKind o = true) (present : ¬ s.companionNotPresent o = true) {j : Nat}
    (named : o = some j) : (s.record j).config.kind = .ingress ∧ (s.record j).inUse := by
  rw [State.companionWrongKind_iff] at kind
  rw [State.companionNotPresent_iff] at present
  have used : (s.record j).inUse := Record.inUse_of_not (fun free => present ⟨j, named, .inl free⟩) fun retiring => present ⟨j, named, .inr retiring⟩
  refine ⟨?_, used⟩
  cases found : (s.record j).config.kind with
  | ingress => rfl
  | egress => exact absurd ⟨j, named, Record.inUse_ne_free used, found⟩ kind

theorem State.record_present {o : Option Nat} (used : ∀ j, o = some j → (s.record j).config.kind = .ingress ∧ (s.record j).inUse) (j : Nat) (named : o = some j) :
    (s.record j).state ≠ .free := Record.inUse_ne_free (used j named).2

/-! ### Install -/

/-- An accepted Install's checks (R8). -/
structure State.Installs (s : State) (c : Command) : Prop where
  index : c.index < Config.records
  free : (s.record c.index).state = .free
  companion : ∀ j, c.installCompanion = some j → (s.record j).config.kind = .ingress ∧ (s.record j).inUse
  tag : c.installKind = .ingress → s.manager.tagIndex.find c.installConfig.tag.toNat = none

theorem State.installs (refused : s.installRefusal c = none) : s.Installs c := by
  unfold State.installRefusal at refused
  split_ifs at refused with index free value kind present tag framing
  refine ⟨Nat.lt_of_not_le index, not_not.mp free, fun j => State.companion_checked kind present, fun ingress => ?_⟩
  exact Option.not_isSome_iff_eq_none.mp fun found => tag ⟨ingress, found⟩

theorem Command.installed_inUse (c : Command) : c.installed.inUse := .inl rfl

theorem Command.installConfig_kind (c : Command) : c.installed.config.kind = c.installKind := by
  show c.installConfig.kind = c.installKind
  unfold Command.installConfig
  dsimp only
  cases c.installKind <;> rfl

section Install

variable (h : s.Named) (installs : s.Installs c)

include installs

theorem State.Installs.unused : ¬ (s.record c.index).inUse := fun used => Record.inUse_ne_free used installs.free

theorem State.Installs.naming (j : Nat) : (s.record c.index).naming j = 0 := Record.naming_of_not fun both => installs.unused both.1.2

theorem State.Installs.apart (j : Nat) (named : c.installCompanion = some j) : j ≠ c.index := by
  rintro rfl
  exact installs.unused (installs.companion _ named).2

include h

theorem State.Installs.flowsExact : c.installed.FlowsExact (s.heldReferences c.index) := by
  rw [Record.flowsExact_unused (fun goes => installs.unused goes.2) (h.flows c.index)]
  exact ⟨fun held => absurd held (Nat.lt_irrefl 0), fun _ => rfl⟩

/-- No record names a FREE one. -/
theorem State.Installs.unnamed (j : Nat) : (s.record j).config.companion ≠ some c.index := fun companion =>
  installs.unused (h.companions.named j c.index companion).2.2

/-- An EGRESS record is placed, and its companion counts one more (R9). -/
theorem named_installEgress (egress : c.installKind = .egress) :
    ((s.setRecord c.index c.installed).gainCompanion c.installCompanion).Named := by
  have kind : c.installed.config.kind = .egress := c.installConfig_kind.trans egress
  have goes : c.installed.takesFlows := ⟨kind, c.installed_inUse⟩
  have companion : c.installed.config.companion = c.installCompanion := by
    show c.installConfig.companion = _
    unfold Command.installConfig
    dsimp only
    rw [egress]
  have placed (j : Nat) : (s.setRecord c.index c.installed).record j = if c.index = j then c.installed else s.record j :=
    State.record_setRecord ..
  have gained := State.record_gainCompanion (s := s.setRecord c.index c.installed) (o := c.installCompanion) fun j named => by
    rw [placed, if_neg (installs.apart j named).symm]
    exact State.record_present installs.companion j named
  have records (j : Nat) : ((s.setRecord c.index c.installed).gainCompanion c.installCompanion).record j = if c.index = j then c.installed else
      { s.record j with companionCount := (s.record j).companionCount + if c.installCompanion = some j then 1 else 0 } := by
    rw [gained, placed]
    split
    next e =>
      rw [if_neg fun named => installs.apart j named e.symm]
      rfl
    next => rfl
  refine h.move installs.index records (State.heldReferences_gainCompanion _ _) (installs.flowsExact h) (fun j _ _ => ?_) (fun j named => ?_)
    (fun j _ named => absurd named (installs.unnamed h j)) (fun ingress => nomatch kind.symm.trans ingress) ?_
  · rw [installs.naming, Record.naming_of_takesFlows goes, companion, Nat.add_zero]
  · rw [companion] at named
    exact ⟨goes, installs.apart j named, installs.companion j named⟩
  · have same : ((s.setRecord c.index c.installed).gainCompanion c.installCompanion).manager.tagIndex = s.manager.tagIndex := by
      cases c.installCompanion <;> rfl
    rw [same]
    exact h.tags.move records fun g =>
      iff_of_false (fun carried => nomatch kind.symm.trans carried.1) fun carried => installs.unused carried.2.1

/-- An INGRESS record is placed, and its tag enters the Tag Index (R9, R17). -/
theorem named_installIngress (ingress : c.installKind = .ingress) :
    ((s.setRecord c.index c.installed).insertTag c.installConfig.tag c.index).Named := by
  have kind : c.installed.config.kind = .ingress := c.installConfig_kind.trans ingress
  have companion : c.installed.config.companion = none := by
    show c.installConfig.companion = _
    unfold Command.installConfig
    dsimp only
    rw [ingress]
  have quiet (j : Nat) : c.installed.naming j = 0 := Record.naming_of_not fun both => nomatch kind.symm.trans both.1.1
  have placed (j : Nat) : (s.setRecord c.index c.installed).record j = if c.index = j then c.installed else s.record j :=
    State.record_setRecord ..
  refine h.move (m := fun j => (s.record j).companionCount) installs.index placed (fun _ => rfl) (installs.flowsExact h) (fun j _ _ => ?_)
    (fun j named => nomatch companion.symm.trans named) (fun j _ named => absurd named (installs.unnamed h j)) (fun _ => ?_) fun g j => ?_
  · rw [installs.naming, quiet]
  · rw [installs.naming, quiet, namingIn_eq_zero (h.companions.naming_eq_zero fun named => installs.unused named.2)]
    rfl
  · show (s.manager.tagIndex.insert c.installConfig.tag.toNat c.index).find g = some j ↔
      ((s.setRecord c.index c.installed).record j).carries g
    rw [KeyedList.find_insert, placed]
    have fresh : c.installed.carries g ↔ c.installConfig.tag.toNat = g :=
      ⟨fun carried => carried.2.2, fun tag => ⟨kind, c.installed_inUse, tag⟩⟩
    have before := h.tags g
    by_cases here : c.index = j
    · rw [if_pos here, fresh]
      constructor
      · intro found
        by_contra other
        rw [if_neg other, ← here] at found
        exact installs.unused ((before _).mp found).2.1
      · intro tag
        rw [if_pos tag, here]
    · rw [if_neg here]
      split
      next tag =>
        refine iff_of_false (fun e => here (Option.some.inj e)) fun carried => ?_
        have found := (before j).mpr carried
        rw [← tag, installs.tag ingress] at found
        cases found
      next => exact before j

end Install

theorem named_install (h : s.Named) (refused : s.installRefusal c = none) : (s.install c).Named := by
  have installs := State.installs refused
  unfold State.install
  dsimp only
  split
  next egress => exact named_installEgress h installs egress
  next ingress => exact named_installIngress h installs ingress

/-! ### Modify -/

theorem Command.modifyConfig_tag (g : RecordConfig) : (c.modifyConfig g).tag = g.tag := by
  cases hk : g.kind <;> simp only [Command.modifyConfig, hk]

theorem State.modifyRefusal_companion (refused : s.modifyRefusal c = none) (j : Nat) (named : c.namedCompanion = some j) :
    (s.record j).config.kind = .ingress ∧ (s.record j).inUse := by
  unfold State.modifyRefusal at refused
  dsimp only at refused
  split_ifs at refused with index free retiring value kind present
  exact State.companion_checked kind present named

/-- The companion of a record after a Modify. -/
theorem Command.modifyConfig_companion (g : RecordConfig) : (c.modifyConfig g).companion =
    if g.kind = .egress ∧ c.selects 18 = true then c.modifyCompanion else g.companion := by
  cases kind : g.kind with
  | egress =>
    rw [Command.modifyConfig_egress kind]
    simp only [true_and]
    rfl
  | ingress =>
    rw [Command.modifyConfig_ingress kind]
    exact (if_neg fun both => nomatch both.1).symm

section Modified

variable (r : Record) (c : Command) (n : Nat)

/-- The record after an accepted Modify (R12, R13). -/
def Record.modified : Record := (r.reconfigure c).modifyFires c n

theorem Record.modified_refers : (r.reconfigure c).RefersAs (r.modified c n) := (Record.follows_modifyFires _ c n).refersAs

theorem Record.modified_kind : (r.modified c n).config.kind = r.config.kind := by
  rw [(r.modified_refers c n).config]
  exact Command.modifyConfig_kind _

theorem Record.modified_tag : (r.modified c n).config.tag = r.config.tag := by
  rw [(r.modified_refers c n).config]
  exact Command.modifyConfig_tag _

theorem Record.modified_companion : (r.modified c n).config.companion =
    if r.config.kind = .egress ∧ c.selects 18 = true then c.modifyCompanion else r.config.companion := by
  rw [(r.modified_refers c n).config]
  exact Command.modifyConfig_companion _

theorem Record.modified_inUse : (r.modified c n).inUse ↔ r.inUse := (r.modified_refers c n).inUse_iff.trans Iff.rfl

theorem Record.modified_takesFlows : (r.modified c n).takesFlows ↔ r.takesFlows := by
  unfold Record.takesFlows
  rw [Record.modified_kind, Record.modified_inUse]

theorem Record.modified_carries (g : Nat) : (r.modified c n).carries g ↔ r.carries g := by
  unfold Record.carries
  rw [Record.modified_kind, Record.modified_inUse, Record.modified_tag]

theorem Record.modified_flowsExact {held : Nat} (h : r.FlowsExact held) : (r.modified c n).FlowsExact held :=
  ⟨fun some => (r.modified_takesFlows c n).mpr (h.goes some), fun egress =>
    (r.modified_refers c n).flowReferences.trans (h.count ((r.modified_kind c n).symm.trans egress))⟩

end Modified

section Modify

variable (h : s.Named) {i : Nat} (n : Nat)

include h

/-- A record whose companions have been counted anew, given its new configuration (R11, R14). -/
theorem named_modified (index : i < Config.records) (used : (s.record i).inUse) {m : Nat → Nat}
    (records : ∀ j, t.record j = if i = j then (s.record i).modified c n else { s.record j with companionCount := m j })
    (held : ∀ j, t.heldReferences j = s.heldReferences j) (tagIndex : t.manager.tagIndex = s.manager.tagIndex)
    (counts : ∀ j, (s.record j).config.kind = .ingress →
      m j + (s.record i).naming j = (s.record j).companionCount + ((s.record i).modified c n).naming j)
    (named : ∀ j, ((s.record i).modified c n).config.companion = some j →
      (s.record i).takesFlows ∧ (s.record j).config.kind = .ingress ∧ (s.record j).inUse) : t.Named := by
  have kind := (s.record i).modified_kind c n
  have inUse := ((s.record i).modified_inUse c n).mpr used
  refine h.move index records held ((s.record i).modified_flowsExact c n (h.flows i)) (fun j _ => counts j) (fun j companion => ?_)
    (fun j _ companion => ⟨kind.trans (h.companions.named j i companion).2.1, inUse⟩) (fun ingress => ?_) ?_
  · obtain ⟨goes, ingress⟩ := named j companion
    refine ⟨((s.record i).modified_takesFlows c n).mpr goes, ?_, ingress⟩
    rintro rfl
    exact nomatch goes.1.symm.trans ingress.1
  · have quiet : ((s.record i).modified c n).naming i = 0 := Record.naming_of_not fun both => nomatch ingress.symm.trans both.1.1
    rw [h.companions.naming_self i, quiet, Nat.add_zero, Nat.add_zero]
    exact ((s.record i).modified_refers c n).companionCount.trans (h.companions.count i (kind.symm.trans ingress))
  · rw [tagIndex]
    exact h.tags.move records ((s.record i).modified_carries c n)

omit h in
theorem State.record_setModified (used : (s.record i).inUse) (u : State) (j : Nat) :
    (u.setRecord i ((s.record i).modified c n)).record j = if i = j then (s.record i).modified c n else u.record j := by
  rw [State.record_setRecord, if_neg (Record.inUse_ne_free (((s.record i).modified_inUse c n).mpr used))]

/-- A companion selected: the previous one counts one fewer and the new one counts one more (R14). -/
theorem named_modifyLinked (index : i < Config.records) (goes : (s.record i).takesFlows) (selected : c.selects 18 = true)
    (checked : ∀ j, c.modifyCompanion = some j → (s.record j).config.kind = .ingress ∧ (s.record j).inUse) :
    (((s.loseCompanion (s.record i).config.companion).gainCompanion c.modifyCompanion).setRecord i ((s.record i).modified c n)).Named := by
  have companion := ((s.record i).modified_companion c n).trans (if_pos ⟨goes.1, selected⟩)
  have lost := State.record_loseCompanion (s := s) (o := (s.record i).config.companion) fun j named =>
    Record.inUse_ne_free (h.companions.named i j named).2.2
  have gained := State.record_gainCompanion (s := s.loseCompanion (s.record i).config.companion) (o := c.modifyCompanion) fun j named => by
    rw [lost]
    exact Record.inUse_ne_free (checked j named).2
  refine named_modified h n index goes.2 (m := fun j => (s.record j).companionCount -
    (if (s.record i).config.companion = some j then 1 else 0) + if c.modifyCompanion = some j then 1 else 0)
    (fun j => by rw [State.record_setModified n goes.2, gained, lost])
    (fun j => (State.heldReferences_gainCompanion _ _ j).trans (State.heldReferences_loseCompanion s _ j)) ?_ (fun j ingress => ?_)
    fun j named => ⟨goes, checked j (companion.symm.trans named)⟩
  · rw [State.gainCompanion_rest, State.loseCompanion_rest]
    rfl
  · have least := naming_le_namingIn (f := s.record) index j
    have counted := h.companions.count j ingress
    rw [Record.naming_of_takesFlows goes] at least ⊢
    rw [Record.naming_of_takesFlows (((s.record i).modified_takesFlows c n).mpr goes), companion]
    omega

theorem named_modifyUnlinked (index : i < Config.records) (used : (s.record i).inUse) (unselected : ¬ c.selects 18 = true) :
    (s.setRecord i ((s.record i).modified c n)).Named := by
  have companion := ((s.record i).modified_companion c n).trans (if_neg fun both => unselected both.2)
  refine named_modified h n index used (m := fun j => (s.record j).companionCount) (State.record_setModified n used s) (fun _ => rfl) rfl
    (fun j _ => ?_) fun j named => h.companions.named i j (companion.symm.trans named)
  have naming : ((s.record i).modified c n).naming j = (s.record i).naming j := Record.naming_congr (by rw [Record.modified_takesFlows, companion])
  rw [naming]

end Modify

theorem named_modify (h : s.Named) (refused : s.modifyRefusal c = none) : (s.modify c).Named := by
  obtain ⟨index, used, good⟩ := State.modifyRefusal_eq_none refused
  rw [State.modify_eq]
  unfold State.relink
  split
  next selected =>
    have egress : (s.record c.index).config.kind = .egress := by
      cases found : (s.record c.index).config.kind with
      | egress => rfl
      | ingress =>
        rw [found] at good
        unfold Command.modifyBadValue at good
        rw [selected] at good
        simp at good
    exact named_modifyLinked h _ index ⟨egress, used⟩ selected fun j named =>
      State.modifyRefusal_companion refused j ((if_pos selected).trans named)
  next unselected => exact named_modifyUnlinked h _ index used unselected

/-! ### Retire -/

/-- A retired record: RETIRING, with no companion, or FREE (R15, R16). -/
theorem Record.retired_cases (r : Record) : r.retire.freeWhenDrained = r.retire ∨ r.retire.freeWhenDrained = Record.free := by
  unfold Record.freeWhenDrained
  split
  · exact .inr rfl
  · exact .inl rfl

section Retire

variable (r : Record)

theorem Record.retired_unused : ¬ r.retire.freeWhenDrained.inUse := by
  rcases r.retired_cases with e | e <;> rw [e]
  · exact Record.unused_of_retiring rfl
  · exact Record.not_inUse_free

theorem Record.retired_companion : r.retire.freeWhenDrained.config.companion = none := by
  rcases r.retired_cases with e | e <;> rw [e] <;> rfl

theorem Record.retired_naming (j : Nat) : r.retire.freeWhenDrained.naming j = 0 := Record.naming_of_not fun both => r.retired_unused both.1.2

theorem Record.retired_ingress (kind : r.retire.freeWhenDrained.config.kind = .ingress) : r.config.kind = .ingress ∧
    r.retire.freeWhenDrained.companionCount = r.companionCount := by
  rcases r.retired_cases with e | e <;> rw [e] at kind ⊢
  · exact ⟨kind, rfl⟩
  · cases kind

theorem Record.retired_flowsExact (calm : r.config.kind = .egress → r.flowReferences = 0) : r.retire.freeWhenDrained.FlowsExact 0 := by
  refine ⟨fun held => absurd held (Nat.lt_irrefl 0), fun egress => ?_⟩
  rcases r.retired_cases with e | e <;> rw [e] at egress ⊢
  · exact calm egress
  · rfl

theorem Record.retired_stored : r.retire.freeWhenDrained.stored = r.retire.freeWhenDrained := by
  rcases r.retired_cases with e | e <;> rw [e] <;> rfl

end Retire

theorem State.record_setRetired (s u : State) (i j : Nat) : (u.setRecord i (s.record i).retire.freeWhenDrained).record j =
    if i = j then (s.record i).retire.freeWhenDrained else u.record j := by
  rw [State.record_setRecord_stored, Record.retired_stored]

section Retire

variable (h : s.Named) {i : Nat} (index : i < Config.records) (used : (s.record i).inUse)

include h in
theorem retired_count (kind : (s.record i).retire.freeWhenDrained.config.kind = .ingress) :
    (s.record i).retire.freeWhenDrained.companionCount + (s.record i).naming i =
      namingIn s.record i + (s.record i).retire.freeWhenDrained.naming i := by
  obtain ⟨before, same⟩ := (s.record i).retired_ingress kind
  rw [h.companions.naming_self i, Record.retired_naming, same, Nat.add_zero, Nat.add_zero]
  exact h.companions.count i before

include h index used

/-- An EGRESS record that no flow entry names is retired, and its companion counts one fewer (R15). -/
theorem named_retireEgress (kind : (s.record i).config.kind = .egress) (idle : (s.record i).flowReferences = 0) :
    ((s.loseCompanion (s.record i).config.companion).setRecord i (s.record i).retire.freeWhenDrained).Named := by
  have none : s.heldReferences i = 0 := ((h.flows i).count kind).symm.trans idle
  have goes : (s.record i).takesFlows := ⟨kind, used⟩
  have lost := State.record_loseCompanion (s := s) (o := (s.record i).config.companion) fun j named =>
    Record.inUse_ne_free (h.companions.named i j named).2.2
  have records (j : Nat) : ((s.loseCompanion (s.record i).config.companion).setRecord i (s.record i).retire.freeWhenDrained).record j =
      if i = j then (s.record i).retire.freeWhenDrained else { s.record j with
        companionCount := (s.record j).companionCount - if (s.record i).config.companion = some j then 1 else 0 } := by
    rw [State.record_setRetired, lost]
  refine h.move index records (State.heldReferences_loseCompanion s _) (by rw [none]; exact Record.retired_flowsExact _ fun _ => idle)
    (fun j _ ingress => ?_) (fun j named => nomatch ((s.record i).retired_companion).symm.trans named) (fun j _ companion => ?_)
    (retired_count h) ?_
  · have least := naming_le_namingIn (f := s.record) index j
    have counted := h.companions.count j ingress
    rw [Record.naming_of_takesFlows goes] at least ⊢
    rw [Record.retired_naming]
    omega
  · exact nomatch kind.symm.trans (h.companions.named j i companion).2.1
  · have same : ((s.loseCompanion (s.record i).config.companion).setRecord i (s.record i).retire.freeWhenDrained).manager.tagIndex =
        s.manager.tagIndex := by
      rw [State.loseCompanion_rest]
      rfl
    rw [same]
    exact h.tags.move records fun g => iff_of_false (fun carried => Record.retired_unused _ carried.2.1)
      fun carried => nomatch kind.symm.trans carried.1

/-- An INGRESS record that no record names is retired, and its tag leaves the Tag Index (R15, R17). -/
theorem named_retireIngress (can : s.manager.Canonical) (kind : (s.record i).config.kind = .ingress) (idle : (s.record i).companionCount = 0) :
    ((s.removeTag (s.record i).config.tag).setRecord i (s.record i).retire.freeWhenDrained).Named := by
  have other : ¬ (s.record i).takesFlows := fun goes => nomatch kind.symm.trans goes.1
  have none : s.heldReferences i = 0 := Record.flowsExact_unused other (h.flows i)
  have records := State.record_setRetired s (s.removeTag (s.record i).config.tag) i
  refine h.move (m := fun j => (s.record j).companionCount) index records (fun _ => rfl)
    (by rw [none]; exact Record.retired_flowsExact _ fun egress => nomatch kind.symm.trans egress) (fun j _ _ => ?_)
    (fun j named => nomatch ((s.record i).retired_companion).symm.trans named) (fun j _ companion => ?_) (retired_count h) fun g j => ?_
  · rw [Record.retired_naming, Record.naming_of_not fun both => other both.1]
  · obtain ⟨goes, -⟩ := h.companions.named j i companion
    have least := naming_le_namingIn (f := s.record) (State.index_of_present can (Record.inUse_ne_free goes.2)) i
    have counted := h.companions.count i kind
    rw [Record.naming_of_takesFlows goes, if_pos companion] at least
    omega
  · show (s.manager.tagIndex.erase (s.record i).config.tag.toNat).find g = some j ↔
      (((s.removeTag (s.record i).config.tag).setRecord i (s.record i).retire.freeWhenDrained).record j).carries g
    rw [KeyedList.find_erase, records]
    have before := h.tags g
    have own : (s.record i).carries (s.record i).config.tag.toNat := ⟨kind, used, rfl⟩
    by_cases here : i = j
    · rw [if_pos here]
      refine iff_of_false (fun found => ?_) fun carried => Record.retired_unused _ carried.2.1
      split at found
      · cases found
      next different =>
        have carried := (before j).mp found
        rw [← here] at carried
        exact different carried.2.2
    · rw [if_neg here]
      split
      next tag =>
        refine iff_of_false (fun e => nomatch e) fun carried => ?_
        have found := (before j).mpr carried
        rw [← tag, (h.tags _ _).mpr own] at found
        exact here (Option.some.inj found)
      next => exact before j

end Retire

theorem named_retire (can : s.manager.Canonical) (h : s.Named) (refused : s.retireRefusal c = none) : (s.retire c).Named := by
  obtain ⟨index, used, idle⟩ := State.retireRefusal_eq_none refused
  unfold State.retire
  dsimp only
  cases kind : (s.record c.index).config.kind with
  | egress =>
    rw [kind] at idle
    exact named_retireEgress h index used kind idle
  | ingress =>
    rw [kind] at idle
    exact named_retireIngress h index used can kind idle

end Moves

end Sys2Proof.Machine
end

section
/-!
PROOFS. Every command and tick at the records keeps the tables of the part canonical, the references exact and the time in range, and
leaves the Command Port to the response that answers it (sections 1.8, 1.9, 3.1, 5.1 and 10.3).
-/

namespace Sys2Proof.Machine

/-! ### The tables -/

/-- The tables of the part are in their canonical form and within their capacities, and the time is in range. -/
structure State.TablesOk (s : State) : Prop where
  manager : s.manager.Canonical
  flows : FlowMapOk s.flowMap
  timebase : s.timebase.Ok

section Tables

variable {s t : State} {i : Nat} {r : Record}

theorem tablesOk_tables : OfTables State.TablesOk := fun s t same h => {
  manager := by
    obtain ⟨records, noFree, indices, tags, ticks⟩ := h.manager
    rw [← same.records] at records noFree indices
    rw [← same.tagIndex] at tags
    rw [← same.ticksTaken] at ticks
    exact ⟨records, noFree, indices, tags, ticks⟩
  flows := by
    have keys (es : List FlowEntry) : es.map FlowEntry.key = (es.map FlowEntry.bare).map Prod.fst := by
      rw [List.map_map]
      rfl
    have length (es : List FlowEntry) : es.length = (es.map FlowEntry.bare).length := (List.length_map _).symm
    refine ⟨?_, ?_⟩
    · rw [keys, same.flows, ← keys]
      exact h.flows.keys
    · rw [length, same.flows, ← length]
      exact h.flows.size
  timebase := same.timebase ▸ h.timebase }

theorem AssociationManager.Canonical.setRecord {m : AssociationManager} (h : m.Canonical) (index : r.state ≠ .free → i < Config.records) :
    (m.setRecord i r).Canonical := by
  refine ⟨?_, ?_, ?_, h.tags, h.ticks⟩ <;> unfold AssociationManager.setRecord <;> dsimp only <;> split
  · exact KeyedList.sorted_erase h.records i
  · exact KeyedList.sorted_insert h.records i r
  · exact fun p mem => h.noFree p (List.mem_of_mem_filter mem)
  next present =>
    intro p mem
    rcases KeyedList.mem_insert mem with rfl | old
    · exact present
    · exact h.noFree p old
  · exact fun p mem => h.indices p (List.mem_of_mem_filter mem)
  next present =>
    intro p mem
    rcases KeyedList.mem_insert mem with rfl | old
    · exact index present
    · exact h.indices p old

section Kept

variable (h : s.TablesOk)

include h

theorem State.TablesOk.setRecord (index : r.state ≠ .free → i < Config.records) : (s.setRecord i r).TablesOk :=
  ⟨h.manager.setRecord index, h.flows, h.timebase⟩

/-- A record given anew that refers as the one that was. -/
theorem State.TablesOk.refer (refers : (s.record i).Refers r) : (s.setRecord i r).TablesOk :=
  h.setRecord fun present => State.index_of_present h.manager (refers.present present)

/-- A record given anew in the state in which it was. -/
theorem State.TablesOk.restate (state : r.state = (s.record i).state) : (s.setRecord i r).TablesOk :=
  h.setRecord fun present => State.index_of_present h.manager (state ▸ present)

theorem State.TablesOk.gainCompanion (o : Option Nat) : (s.gainCompanion o).TablesOk := by
  cases o with
  | none => exact h
  | some j => exact h.restate rfl

theorem State.TablesOk.loseCompanion (o : Option Nat) : (s.loseCompanion o).TablesOk := by
  cases o with
  | none => exact h
  | some j => exact h.restate rfl

theorem State.TablesOk.insertTag (tag : BitVec 24) (i : Nat) : (s.insertTag tag i).TablesOk :=
  ⟨⟨h.manager.records, h.manager.noFree, h.manager.indices, KeyedList.sorted_insert h.manager.tags _ _, h.manager.ticks⟩, h.flows, h.timebase⟩

theorem State.TablesOk.removeTag (tag : BitVec 24) : (s.removeTag tag).TablesOk :=
  ⟨⟨h.manager.records, h.manager.noFree, h.manager.indices, KeyedList.sorted_erase h.manager.tags _, h.manager.ticks⟩, h.flows, h.timebase⟩

end Kept

end Tables

/-! ### What the owner of a command makes of the part -/

/-- The owner's event leaves the port and the turn of the command, answers within the room of a response, and keeps the tables and the
references. -/
structure Orderly (u : State) (done : State × Reply) : Prop where
  port : SamePort u done.1
  short : done.2.body.length ≤ Config.walkBody
  tables : u.TablesOk → done.1.TablesOk
  named : u.TablesOk → u.Named → done.1.Named

section Owners

variable {s u t : State} {c : Command}

theorem Orderly.refused (u : State) (st : Status) : Orderly u (u, status st) := ⟨.refl u, Nat.zero_le _, id, fun _ => id⟩

/-- An event that ends in a status alone. -/
theorem Orderly.settled (port : SamePort u t) (st : Status) (tables : u.TablesOk → t.TablesOk) (named : u.TablesOk → u.Named → t.Named) :
    Orderly u (t, status st) := ⟨port, Nat.zero_le _, tables, named⟩

/-- An event that gives one record anew, which refers as it did. -/
theorem Orderly.refer {i : Nat} {r : Record} (st : Status) (refers : (u.record i).Refers r) : Orderly u (u.setRecord i r, status st) :=
  .settled (by constructor <;> rfl) st (fun h => h.refer refers) fun _ h => h.setRecord refers

theorem Orderly.referAs {i : Nat} {r : Record} (st : Status) (refers : (u.record i).RefersAs r) : Orderly u (u.setRecord i r, status st) :=
  .refer st (.kept refers)

theorem sameTables_sendEvidence (s : State) (i : Nat) : SameTables s (s.sendEvidence i) := ⟨rfl, rfl, rfl, rfl, rfl, rfl⟩

theorem orderly_install (c : Command) (u : State) : Orderly u (installOwner c u) := by
  unfold installOwner
  split
  · exact .refused u _
  next refused =>
    have index := (State.installs refused).index
    refine .settled ?_ _ (fun h => ?_) fun _ named => named_install named refused
    all_goals
      unfold State.install
      dsimp only
      split
    · cases c.installCompanion <;> exact ⟨rfl, rfl, rfl, rfl⟩
    · exact ⟨rfl, rfl, rfl, rfl⟩
    · exact (h.setRecord fun _ => index).gainCompanion _
    · exact (h.setRecord fun _ => index).insertTag _ _

theorem orderly_activate (c : Command) (u : State) : Orderly u (activateOwner c u) := by
  unfold activateOwner
  dsimp only
  split
  · exact .refused u _
  · split
    iterate 4 exact .refused u _
    next staged => exact .referAs _ (Record.refersAs_activate staged)

theorem State.relink_keeps (u : State) (c : Command) : SamePort u (u.relink c) ∧ (u.TablesOk → (u.relink c).TablesOk) ∧
    ∀ i, ((u.relink c).record i).state = (u.record i).state := by
  have moved (s : State) (j n : Nat) (i : Nat) : ((s.setRecord j { s.record j with companionCount := n }).record i).state = (s.record i).state := by
    rw [State.record_setRecord_stored]
    split
    next e =>
      subst e
      unfold Record.stored
      split
      next free => exact free.symm
      next => rfl
    next => rfl
  have gain (s : State) (o : Option Nat) : SamePort s (s.gainCompanion o) ∧ ∀ i, ((s.gainCompanion o).record i).state = (s.record i).state := by
    cases o with
    | none => exact ⟨.refl s, fun _ => rfl⟩
    | some j => exact ⟨⟨rfl, rfl, rfl, rfl⟩, moved s j _⟩
  have lose (s : State) (o : Option Nat) : SamePort s (s.loseCompanion o) ∧ ∀ i, ((s.loseCompanion o).record i).state = (s.record i).state := by
    cases o with
    | none => exact ⟨.refl s, fun _ => rfl⟩
    | some j => exact ⟨⟨rfl, rfl, rfl, rfl⟩, moved s j _⟩
  unfold State.relink
  split
  · obtain ⟨lostPort, lostState⟩ := lose u (u.record c.index).config.companion
    obtain ⟨gainedPort, gainedState⟩ := gain (u.loseCompanion (u.record c.index).config.companion) c.modifyCompanion
    exact ⟨lostPort.trans gainedPort, fun h => (h.loseCompanion _).gainCompanion _, fun i => (gainedState i).trans (lostState i)⟩
  · exact ⟨.refl u, id, fun _ => rfl⟩

theorem orderly_modify (c : Command) (u : State) : Orderly u (modifyOwner c u) := by
  unfold modifyOwner
  split
  · exact .refused u _
  next refused =>
    obtain ⟨port, tables, state⟩ := u.relink_keeps c
    refine .settled (port.trans (by constructor <;> rfl)) _ (fun h => (tables h).restate ?_) fun _ named => named_modify named refused
    rw [state, Record.modifyFires_state]
    rfl

theorem orderly_retire (c : Command) (u : State) : Orderly u (retireOwner c u) := by
  unfold retireOwner
  split
  · exact .refused u _
  next refused =>
    obtain ⟨index, -⟩ := State.retireRefusal_eq_none refused
    refine .settled ?_ _ (fun h => ?_) fun h named => named_retire h.manager named refused
    all_goals
      unfold State.retire
      dsimp only
      split
    · exact ⟨rfl, rfl, rfl, rfl⟩
    · cases (u.record c.index).config.companion <;> exact ⟨rfl, rfl, rfl, rfl⟩
    · exact (h.removeTag _).setRecord fun _ => index
    · exact (h.loseCompanion _).setRecord fun _ => index

theorem orderly_clearCounters (c : Command) (u : State) : Orderly u (clearCountersOwner c u) := by
  unfold clearCountersOwner
  dsimp only
  split
  · exact .refused u _
  · split
    · exact .refused u _
    · exact .referAs _ ⟨rfl, rfl, rfl, .inl rfl⟩

theorem orderly_loadNextKey (c : Command) (u : State) : Orderly u (loadNextKeyOwner c u) := by
  unfold loadNextKeyOwner
  split
  · exact .refused u _
  · exact .referAs _ (Record.refersAs_loadNext ..)

theorem orderly_rollNow (c : Command) (u : State) : Orderly u (rollNowOwner c u) := by
  unfold rollNowOwner
  split
  · exact .refused u _
  · exact .referAs _ (Record.refersAs_trigger ..)

theorem orderly_forceSwitch (c : Command) (u : State) : Orderly u (forceSwitchOwner c u) := by
  unfold forceSwitchOwner
  split
  · exact .refused u _
  · dsimp only
    split
    · exact .referAs _ (Record.refersAs_egressSwitch ..)
    · have refers := (u.record c.index).refersAs_ingressSwitch 0 u.timebase.tickCount
      exact .settled (by constructor <;> rfl) _
        (fun h => tablesOk_tables _ _ (sameTables_sendEvidence _ _) (h.refer (.kept refers)))
        fun _ h => named_tables _ _ (sameTables_sendEvidence _ _) (h.setRecord (.kept refers))

theorem orderly_takeAttention (c : Command) (u : State) : Orderly u (takeAttentionOwner c u) := by
  unfold takeAttentionOwner
  split
  · exact .refused u _
  next i _ =>
    have refers : (u.record i).Refers { u.record i with causes := {} } := .kept ⟨rfl, rfl, rfl, .inl rfl⟩
    exact ⟨⟨rfl, rfl, rfl, rfl⟩, by show (1 : Nat) ≤ 63; decide, fun h => h.refer refers, fun _ h => h.setRecord refers⟩

theorem orderly_configurePart (c : Command) (u : State) : Orderly u (configurePartOwner c u) := by
  unfold configurePartOwner
  split
  · exact .refused u _
  next good =>
    refine .settled (by constructor <;> rfl) _ (fun h => ⟨h.manager, h.flows, h.timebase.tickCount, ?_, h.timebase.intervalPrescaler⟩)
      fun _ h => h.refer (fun _ => .kept (.refl _)) (fun _ => rfl) rfl
    show (if _ then _ else _) ≤ 7
    split
    next selected => exact Nat.le_of_not_lt fun above => good (Command.partBad_iff.mpr (.inl ⟨selected, above⟩))
    next => exact h.timebase.prescaler

end Owners

/-! ### How the commands and ticks at the records are taken -/

/-- How a command or a tick at the records is taken: not at all, as the Timebase's tick, as one record given anew that refers as it did
beside the ticks and the evidence, or as a command of one response. -/
inductive RecordEvent (s : State) : Result → Prop where
  | stays : RecordEvent s (.next s)
  | advanced : RecordEvent s (s.takes { s with timebase := s.timebase.advance })
  | referred {u : State} {i : Nat} {r : Record} (record : u.record = s.record) (tagIndex : u.manager.tagIndex = s.manager.tagIndex)
      (held : u.heldReferences = s.heldReferences) (port : SamePort s u) (tables : s.TablesOk → u.TablesOk)
      (refers : (s.record i).RefersAs r) : RecordEvent s (s.takes (u.setRecord i r))
  | served (name : CommandName) {owner : Command → State → State × Reply} (orderly : ∀ c u, Orderly u (owner c u)) :
      RecordEvent s (s.serve name owner)

section Events

variable {s u : State} {r a b : Result}

theorem RecordEvent.ite {p : Prop} [Decidable p] (ha : RecordEvent s a) (hb : RecordEvent s b) : RecordEvent s (if p then a else b) := by
  split
  · exact ha
  · exact hb

theorem RecordEvent.unlessResetting (h : RecordEvent s r) : RecordEvent s (s.unlessResetting r) := .ite .stays h

theorem recordEvent_tickWhen (s : State) (i : Nat) (condition : Record → Bool) : RecordEvent s (s.tickWhen i condition) := by
  have tables (h : s.TablesOk) : ({ s with manager := s.manager.countTick i } : State).TablesOk :=
    ⟨⟨h.manager.records, h.manager.noFree, h.manager.indices, h.manager.tags, KeyedList.sorted_insert h.manager.ticks _ _⟩, h.flows,
      h.timebase⟩
  exact .unlessResetting (.ite (.referred rfl rfl rfl ⟨rfl, rfl, rfl, rfl⟩ tables (Record.refersAs_tick ..)) .stays)

theorem recordEvent_exec (s : State) {c : Instr} (quiet : quietInstr c = true) : RecordEvent s (exec c s) := by
  cases c with
  | installAssociation => exact .served _ orderly_install
  | activateAssociation => exact .served _ orderly_activate
  | modifyAssociation => exact .served _ orderly_modify
  | retireAssociation => exact .served _ orderly_retire
  | clearCounters => exact .served _ orderly_clearCounters
  | loadNextKey => exact .served _ orderly_loadNextKey
  | rollNow => exact .served _ orderly_rollNow
  | forceSwitch => exact .served _ orderly_forceSwitch
  | takeAttention => exact .served _ orderly_takeAttention
  | configurePart => exact .served _ orderly_configurePart
  | tick => exact .unlessResetting .advanced
  | recordTick i => exact recordEvent_tickWhen s i fun _ => true
  | lifetimeThreshold i => exact recordEvent_tickWhen s i Record.thresholdAtTick
  | leadExpiry i => exact recordEvent_tickWhen s i fun r => r.leadAtTick s.timebase.tickCount
  | graceExpiry i => exact recordEvent_tickWhen s i fun r => r.graceAtTick s.timebase.tickCount
  | overlapExpiry i => exact recordEvent_tickWhen s i fun r => r.overlapAtTick s.timebase.tickCount
  | evidenceArrival sender receiver =>
    exact .unlessResetting (.ite (.referred rfl rfl rfl ⟨rfl, rfl, rfl, rfl⟩ (fun h => ⟨h.manager, h.flows, h.timebase⟩)
      (Record.refersAs_evidenceArrives ..)) .stays)
  | _ => cases quiet

/-! ### What they keep -/

/-- The tables, the port and the turn of a command as they should be. -/
def State.steady (s : State) : Prop := s.TablesOk ∧ s.portOk

theorem steady_takes (tables : u.TablesOk) (port : u.portOk) : Ensures (s.takes u) State.steady := fun t next =>
  ⟨ensures_takes tablesOk_tables.core tables t next, portOk_takes port t next⟩

theorem steady_serve (h : s.steady) {name : CommandName} {owner : Command → State → State × Reply}
    (orderly : ∀ c u, SamePort u (owner c u).1 ∧ (owner c u).2.body.length ≤ Config.walkBody ∧ (u.TablesOk → (owner c u).1.TablesOk)) :
    Ensures (s.serve name owner) State.steady := fun t next =>
  ⟨ensures_serve tablesOk_tables.core h.1 (fun c _ => (orderly c _).2.2 (tablesOk_tables.core _ _ (sameCore_taken s) h.1)) t next,
    portOk_serve h.2 (fun c u => (orderly c u).1) (fun c u => (orderly c u).2.1) t next⟩

theorem steady_quiet (h : s.steady) {c : Instr} (quiet : quietInstr c = true) : Ensures (exec c s) State.steady := by
  have event := recordEvent_exec s quiet
  generalize exec c s = r at event
  obtain ⟨tables, port⟩ := h
  cases event with
  | stays => exact ensures_next ⟨tables, port⟩
  | advanced =>
    exact steady_takes ⟨tables.manager, tables.flows, Nat.mod_lt _ (Nat.two_pow_pos 48), tables.timebase.prescaler, tables.timebase.prescaler⟩
      (port.same ⟨rfl, rfl, rfl, rfl⟩)
  | referred record tagIndex held same kept refers =>
    exact steady_takes ((kept tables).refer (record ▸ .kept refers)) (port.same (same.trans ⟨rfl, rfl, rfl, rfl⟩))
  | served name orderly =>
    exact steady_serve ⟨tables, port⟩ fun c u => ⟨(orderly c u).port, (orderly c u).short, (orderly c u).tables⟩

theorem named_quiet (tables : s.TablesOk) (h : s.Named) {c : Instr} (quiet : quietInstr c = true) : Ensures (exec c s) State.Named := by
  have event := recordEvent_exec s quiet
  generalize exec c s = r at event
  cases event with
  | stays => exact ensures_next h
  | advanced => exact ensures_takes named_tables.core (h.refer (fun _ => .kept (.refl _)) (fun _ => rfl) rfl)
  | referred record tagIndex held _ _ refers =>
    have same : _ := h.refer (fun i => record ▸ .kept (.refl _)) (fun i => congrFun held i) tagIndex
    exact ensures_takes named_tables.core (same.setRecord (record ▸ .kept refers))
  | served name orderly =>
    have core := sameCore_taken s
    exact ensures_serve named_tables.core h fun c _ =>
      (orderly c _).named (tablesOk_tables.core _ _ core tables) (named_tables.core _ _ core h)

end Events

end Sys2Proof.Machine
end

section
/-!
PROOFS. Every step keeps the stored forms and the capacities: the events of the lanes, the flow commands, the messages, the resets and the
step (sections 1.8, 5.1, 6.1, 7.1, 8.1 and 10.3).
-/

namespace Sys2Proof.Machine

section Groups

variable {s t u : State}

theorem Beside.samePort (h : Beside s t) : SamePort s t := ⟨h.commands, h.responses, h.tables.flowTurn, h.walk⟩

theorem State.steady.beside (h : s.steady) (beside : Beside s t) : t.steady :=
  ⟨tablesOk_tables _ _ beside.tables h.1, h.2.same beside.samePort⟩

theorem State.Sound.steady (h : s.Sound) : s.steady := ⟨⟨h.manager, h.flows, h.timebase⟩, h.port, h.turn⟩

theorem State.sound_of (steady : s.steady) (lanes : s.lanesOk) : s.Sound := by
  obtain ⟨⟨manager, flows, timebase⟩, port, turn⟩ := steady
  exact ⟨manager, flows, lanes, port, turn, timebase⟩

theorem sound_both {r : Result} (steady : Ensures r State.steady) (lanes : Ensures r State.lanesOk) : Ensures r State.Sound :=
  fun t next => State.sound_of (steady t next) (lanes t next)

/-! ### The lanes -/

theorem steady_lanesOnly (h : s.steady) {c : Instr} (lanes : lanesOnly c = true) : Ensures (exec c s) State.steady := by
  have event := laneEvent_exec s lanes
  generalize exec c s = r at event
  cases event with
  | stays => exact ensures_next h
  | taken beside => exact steady_takes (h.beside beside).1 (h.beside beside).2
  | served name beside short =>
    exact steady_serve h fun c u => ⟨(beside c u).samePort, short c u, tablesOk_tables _ _ (beside c u).tables⟩
  | ended links =>
    exact ensures_next ⟨tablesOk_tables s _ ⟨rfl, rfl, rfl, rfl, rfl, rfl⟩ h.1, h.2.same ⟨rfl, rfl, rfl, rfl⟩⟩

/-! ### The flow commands -/

theorem State.TablesOk.releaseReference (h : s.TablesOk) (i : Nat) : (s.releaseReference i).TablesOk := h.restate rfl

theorem State.TablesOk.holdFlowTurn (h : s.TablesOk) (t : FlowTurn) : (s.holdFlowTurn t).TablesOk := ⟨h.manager, h.flows, h.timebase⟩

theorem FlowChange.tables {done : FlowOutcome} {claim : Option Nat} (change : FlowChange u done claim) (h : u.TablesOk) :
    done.after.TablesOk := by
  have claims : (u.claims claim).TablesOk := by
    cases claim with
    | none => exact h
    | some i => exact h.restate rfl
  refine ⟨?_, change.flows, change.timebase ▸ h.timebase⟩
  rw [change.manager]
  exact claims.manager

theorem FlowChange.tablesEnds {done : FlowOutcome} {claim : Option Nat} (change : FlowChange u done claim) (h : u.TablesOk) (c : Command) :
    FlowEnds State.TablesOk c done :=
  ⟨fun _ => change.tables h, fun i _ _ => (change.tables h).releaseReference i, fun _ _ _ => (change.tables h).holdFlowTurn _⟩

theorem FlowChange.lanesEnds {done : FlowOutcome} {claim : Option Nat} (change : FlowChange u done claim) (h : u.lanesOk) (c : Command) :
    FlowEnds State.lanesOk c done :=
  ⟨fun _ => h.same change.lanes, fun _ _ _ => h.same change.lanes, fun _ _ _ => h.same change.lanes⟩

theorem sound_serveFlow (h : s.Sound) {name : CommandName} {owner : Command → State → FlowOutcome}
    (change : ∀ c (u : State), FlowMapOk u.flowMap → ∃ claim, FlowChange u (owner c u) claim)
    (short : ∀ c (u : State), (owner c u).reply.body.length ≤ Config.walkBody) : Ensures (s.serveFlow name owner) State.Sound := by
  obtain ⟨tables, port⟩ := h.steady
  have lanes : s.lanesOk := h.lanes
  have takenTables : s.taken.TablesOk := tablesOk_tables.core _ _ (sameCore_taken s) tables
  have takenLanes : s.taken.lanesOk := lanesOk_core _ _ (sameCore_taken s) lanes
  have ended {u : State} (tables : u.TablesOk) : u.endFlowTurn.TablesOk := ⟨tables.manager, tables.flows, tables.timebase⟩
  refine sound_both (fun t next => ⟨?_, portOk_serveFlow port tables.flows change short t next⟩) ?_
  · refine ensures_serveFlow tablesOk_tables.core tables (fun c _ _ => takenTables.holdFlowTurn _) (fun c _ _ => ?_) (fun c _ => ?_)
      (fun c i _ => (ended tables).releaseReference i) t next
    · obtain ⟨claim, changed⟩ := change c _ (ended takenTables).flows
      exact changed.tablesEnds (ended takenTables) c
    · obtain ⟨claim, changed⟩ := change c _ (ended tables).flows
      exact changed.tablesEnds (ended tables) c
  · refine ensures_serveFlow lanesOk_core lanes (fun c _ _ => takenLanes.same rfl) (fun c _ _ => ?_) (fun c _ => ?_)
      fun c i _ => lanes.same rfl
    · obtain ⟨claim, changed⟩ := change c _ (ended takenTables).flows
      exact changed.lanesEnds (takenLanes.same rfl) c
    · obtain ⟨claim, changed⟩ := change c _ (ended tables).flows
      exact changed.lanesEnds (lanes.same rfl) c

/-! ### The messages -/

theorem sound_takes (tables : u.TablesOk) (port : u.portOk) (lanes : u.lanesOk) : Ensures (s.takes u) State.Sound :=
  sound_both (steady_takes tables port) (ensures_takes lanesOk_core lanes)

section Messages

variable (h : s.Sound)

include h

theorem State.Sound.tables : s.TablesOk := h.steady.1

/-- A message taken at its record, where the record refers as it did. -/
theorem sound_atRecord {i : Nat} {r : Record} (manager : t.manager = s.manager) (flowMap : t.flowMap = s.flowMap)
    (timebase : t.timebase = s.timebase) (lanes : t.lanesOk) (port : t.portOk) (refers : (s.record i).Refers r) :
    Ensures (s.takes (t.setRecord i r)) State.Sound := by
  have same : t.record i = s.record i := by
    unfold State.record
    rw [manager]
  have tables : t.TablesOk := ⟨manager ▸ h.manager, flowMap ▸ h.flows, timebase ▸ h.timebase⟩
  exact sound_takes (tables.refer (same ▸ refers)) (port.same ⟨rfl, rfl, rfl, rfl⟩) (lanes.same rfl)

theorem sound_takeEnqueue (l : LaneId) (i : Nat) : Ensures (s.takes (s.takeEnqueue l i)) State.Sound := by
  refine sound_atRecord h rfl rfl rfl h.lanes ?_ (.kept ⟨rfl, rfl, rfl, .inl rfl⟩)
  obtain ⟨one, room, walk⟩ := h.turn
  refine ⟨h.port, one.imp (fun idle => ?_) id, fun busy => room ?_, walk⟩
  · show s.flowTurn.map _ = none
    rw [idle]
    rfl
  · have same : (s.flowTurn.map (FlowTurn.afterEnqueue · l i)).isSome = s.flowTurn.isSome := Option.isSome_map
    rw [← busy]
    show _ = ((s.flowTurn.map (FlowTurn.afterEnqueue · l i)).isSome || s.manager.walk.isSome)
    rw [same]
    rfl

theorem sound_takeWithdrawal (l : LaneId) (i : Nat) : Ensures (s.takes (s.takeWithdrawal l i)) State.Sound :=
  sound_atRecord h rfl rfl rfl h.lanes (h.steady.2.same ⟨rfl, rfl, rfl, rfl⟩)
    (.freeWhenDrained (r' := (s.record i).loseQueued) ⟨rfl, rfl, rfl, .inl rfl⟩)

theorem sound_takeAllocation (l : LaneId) (q : AllocationRequest) : Ensures (s.takes (s.takeAllocation l q)) State.Sound := by
  have lanes : s.lanesOk := h.lanes
  have answered (a : AllocationAnswer) : (s.lane l).Fits ((s.lane l).withEgress { (s.lane l).egress with answer := some a }) :=
    .of_same rfl rfl rfl
  exact sound_atRecord h rfl rfl rfl (lanes.fit (answered _) rfl) (h.steady.2.same ⟨rfl, rfl, rfl, rfl⟩)
    (Record.refers_allocate (State.record_of_free h.manager) ..)

theorem sound_takeRelease (m : ReleaseMsg) : Ensures (s.takes (s.takeRelease m)) State.Sound :=
  sound_atRecord h rfl rfl rfl h.lanes (h.steady.2.same ⟨rfl, rfl, rfl, rfl⟩) (Record.refers_release ..)

theorem sound_takeAbandon (m : AbandonMsg) : Ensures (s.takes (s.takeAbandon m)) State.Sound :=
  sound_atRecord h rfl rfl rfl h.lanes (h.steady.2.same ⟨rfl, rfl, rfl, rfl⟩) (Record.refers_abandon ..)

/-- A frame store given anew at an Ingress Engine leaves settings and buffers. -/
theorem State.lanesOk_setStore (l : LaneId) (k : StoreId) (f : FrameStore) (lanes : t.lanes = s.lanes) :
    (t.setLane l ((t.lane l).withIngress ((t.lane l).ingress.setStore k f))).lanesOk := by
  have same : t.lanesOk := State.lanesOk.same h.lanes lanes
  have fits : (t.lane l).Fits ((t.lane l).withIngress ((t.lane l).ingress.setStore k f)) := .of_same rfl rfl rfl
  exact same.fit fits rfl

theorem sound_takeLookup (l : LaneId) (k : StoreId) (f : FrameStore) (octets : Frame) (e : EnvelopeFields) :
    Ensures (s.takes (s.takeLookup l k f octets e)) State.Sound := by
  have judged : (s.judgeLookup l e).1.TablesOk ∧ SamePort s (s.judgeLookup l e).1 ∧ (s.judgeLookup l e).1.lanes = s.lanes := by
    unfold State.judgeLookup
    split
    · exact ⟨h.tables, .refl s, rfl⟩
    · exact ⟨h.tables.refer (Record.refers_lookup ..), ⟨rfl, rfl, rfl, rfl⟩, rfl⟩
  obtain ⟨tables, port, lanes⟩ := judged
  exact sound_takes ⟨tables.manager, tables.flows, tables.timebase⟩ (h.steady.2.same (port.trans ⟨rfl, rfl, rfl, rfl⟩))
    (State.lanesOk_setStore h l k _ lanes)

theorem sound_takeCommit (l : LaneId) (k : StoreId) (f : FrameStore) (octets : Frame) (e : EnvelopeFields) (g : IngressGrant)
    (plaintext : List Byte) : Ensures (s.takes (s.takeCommit l k f octets e g plaintext)) State.Sound := by
  have tables := h.tables.refer (Record.refers_commit (s.record g.record) g.slot e.sequence (deliveredCount octets) s.timebase.tickCount)
  have evident (u : State) (b : Bool) : (u.commitEvidence g.record b).manager = u.manager ∧ (u.commitEvidence g.record b).flowMap = u.flowMap ∧
      (u.commitEvidence g.record b).timebase = u.timebase ∧ (u.commitEvidence g.record b).lanes = u.lanes ∧
      SamePort u (u.commitEvidence g.record b) := by
    unfold State.commitEvidence
    split <;> exact ⟨rfl, rfl, rfl, rfl, rfl, rfl, rfl, rfl⟩
  unfold State.takeCommit State.giveCommit
  dsimp only
  generalize (s.record g.record).commit g.slot e.sequence (deliveredCount octets) s.timebase.tickCount = r at tables ⊢
  generalize ((s.record g.record).judgeCommit g.slot e.sequence == CommitAnswer.accepted &&
    (s.record g.record).commitSwitches g.slot) = switches
  obtain ⟨manager, flowMap, timebase, lanes, port⟩ := evident (s.setRecord g.record r) switches
  refine sound_takes ⟨?_, ?_, ?_⟩ (h.steady.2.same (SamePort.trans (t := s.setRecord g.record r) ⟨rfl, rfl, rfl, rfl⟩
    (port.trans ⟨rfl, rfl, rfl, rfl⟩))) (State.lanesOk_setStore h l k _ lanes)
  · show ((s.setRecord g.record r).commitEvidence g.record switches).manager.Canonical
    rw [manager]
    exact tables.manager
  · show FlowMapOk ((s.setRecord g.record r).commitEvidence g.record switches).flowMap
    rw [flowMap]
    exact tables.flows
  · show ((s.setRecord g.record r).commitEvidence g.record switches).timebase.Ok
    rw [timebase]
    exact tables.timebase

end Messages

/-! ### The step -/

/-- A part whose blocks are at their power-on state but for its links. -/
theorem sound_cleared (lanes : ∀ l, ∃ systemUp lineUp, t.lane l = Lane.cleared systemUp lineUp) (manager : t.manager = {}) (flowMap : t.flowMap = [])
    (flowTurn : t.flowTurn = none) (timebase : t.timebase = {}) (commands : t.port.commands = []) (responses : t.port.responses = []) :
    t.Sound := by
  have base := sound_reset
  have same : SamePort State.reset t := ⟨commands, responses, flowTurn, by rw [manager]; rfl⟩
  refine ⟨manager ▸ base.manager, flowMap ▸ base.flows, fun l => ?_, base.port.of_same commands responses, base.turn.of_same same,
    timebase ▸ base.timebase⟩
  obtain ⟨systemUp, lineUp, lane⟩ := lanes l
  rw [lane]
  exact Lane.ok_cleared systemUp lineUp

theorem sound_exec (h : s.Sound) : ∀ c, Ensures (exec c s) State.Sound := by
  have lanes : s.lanesOk := h.lanes
  have full (links : LinkStates) : (s.fullReset links).Sound :=
    sound_cleared (fun l => ⟨_, _, State.lane_fullReset s links l⟩) rfl rfl rfl rfl rfl rfl
  refine Instr.byGroup
    (fun c quiet => sound_both (steady_quiet h.steady quiet) fun t next => lanes.same (ensures_quiet s quiet t next).lanes)
    (fun c reads => sound_both (fun t next => ⟨ensures_readsOnly tablesOk_tables.core h.tables reads t next, portOk_readsOnly h.steady.2 reads t next⟩)
      (ensures_readsOnly lanesOk_core lanes reads))
    (fun c only => sound_both (steady_lanesOnly h.steady only) (lanesOk_lanesOnly lanes only))
    (sound_serveFlow h (fun c u => flowChange_addFlowOwner) addFlowOwner_short)
    (sound_serveFlow h (fun c u flows => ⟨none, flowChange_removeFlowOwner flows⟩) removeFlowOwner_short)
    (sound_serveFlow h (fun c u flows => ⟨none, flowChange_readFlowOwner flows⟩) readFlowOwner_short)
    (fun hold => ensures_unlessResetting h fun _ => ensures_next
      (sound_cleared (fun l => ⟨_, _, State.lane_beginReset s l⟩) rfl rfl rfl rfl rfl rfl))
    (fun links => ensures_next (full links)) (fun links => ensures_next (full links))
    (fun l i => ensures_unlessResetting h fun _ => ensures_ite (fun _ => sound_takeEnqueue h l i) fun _ => ensures_next h)
    (fun l i => ensures_unlessResetting h fun _ => ensures_ite (fun _ => sound_takeWithdrawal h l i) fun _ => ensures_next h)
    (fun l => ensures_unlessResetting h fun _ => ?_)
    (fun m => ensures_unlessResetting h fun _ => ensures_ite (fun _ => sound_takeRelease h m) fun _ => ensures_next h)
    (fun m => ensures_unlessResetting h fun _ => ensures_ite (fun _ => sound_takeAbandon h m) fun _ => ensures_next h)
    (fun l j => ensures_unlessResetting h fun _ => ?_) (fun l j => ensures_unlessResetting h fun _ => ?_)
  · split
    · exact ensures_ite (fun _ => sound_takeAllocation h l _) fun _ => ensures_next h
    · exact ensures_next h
  · split
    · split
      · exact ensures_ite (fun _ => ensures_next h) fun _ => sound_takeLookup h l j _ _ _
      · exact ensures_next h
    · exact ensures_next h
  · split
    · split
      · exact sound_takeCommit h l j _ _ _ _ _
      · exact ensures_next h
    · exact ensures_next h

theorem sound_step (h : s.Sound) : Ensures (step s) State.Sound := by
  unfold step
  split
  · refine ensures_next ⟨h.manager, h.flows, fun l => ?_, h.port, ⟨h.turn.one, h.turn.room, h.turn.walk⟩, h.timebase⟩
    rw [State.lane_quantum]
    exact ⟨(h.lanes l).config, ⟨(h.lanes l).egress.oneReceiving, (h.lanes l).egress.occupancy⟩, (h.lanes l).delivery⟩
  next c rest _ => exact sound_exec (h.withPending rest) c

end Groups

/-- Settles O5: the tables and the time, the lanes, and the port with the unanswered command, each kept by every group of commands and
events. -/
theorem stepKeepsCapacities : Obligations.StepKeepsCapacities := fun _ t sound next => sound_step sound t next

end Sys2Proof.Machine
end

section
/-!
PROOFS. Every step keeps the references exact: the flow commands, the messages, the resets and the step (sections 1.7 to 1.9, 5.3 and
5.4).
-/

namespace Sys2Proof.Machine

section References

variable {s t u : State}

/-! ### References claimed and released -/

/-- The records count the references that are held to them, as many as a function of the index says; companions and tags are exact. -/
structure State.NamedWith (s : State) (held : Nat → Nat) : Prop where
  flows : ∀ j, (s.record j).FlowsExact (held j)
  companions : CompanionsExact s.record
  tags : TagsExact s.manager.tagIndex s.record

theorem State.Named.counted (h : s.Named) {held : Nat → Nat} (same : ∀ j, s.heldReferences j = held j) : s.NamedWith held :=
  ⟨fun j => same j ▸ h.flows j, h.companions, h.tags⟩

theorem State.NamedWith.named {held : Nat → Nat} (h : s.NamedWith held) (same : ∀ j, s.heldReferences j = held j) : s.Named :=
  ⟨fun j => (same j).symm ▸ h.flows j, h.companions, h.tags⟩

theorem State.NamedWith.of_manager {held : Nat → Nat} (h : s.NamedWith held) (manager : t.manager = s.manager) : t.NamedWith held := by
  have records : t.record = s.record := funext fun j => by
    unfold State.record
    rw [manager]
  exact ⟨by rw [records]; exact h.flows, by rw [records]; exact h.companions, by rw [records, manager]; exact h.tags⟩

/-- One record given another count of references. -/
theorem State.NamedWith.recount {held held' : Nat → Nat} (h : s.NamedWith held) (i m : Nat) (others : ∀ j, j ≠ i → held' j = held j)
    (flows : ({ s.record i with flowReferences := m } : Record).FlowsExact (held' i)) :
    (s.setRecord i { s.record i with flowReferences := m }).NamedWith held' := by
  have record (j : Nat) := s.record_setRecord_stored i j { s.record i with flowReferences := m }
  have names (j : Nat) : (s.record j).Names ((s.setRecord i { s.record i with flowReferences := m }).record j) := by
    rw [record]
    split
    next e =>
      subst e
      exact Record.Names.stored (.kept rfl rfl .rfl)
    next => exact .refl _
  refine ⟨fun j => ?_, h.companions.keep names, h.tags.keep names⟩
  rw [record]
  split
  next e =>
    subst e
    exact flows.stored
  next e =>
    rw [others j (Ne.symm e)]
    exact h.flows j

/-- A reference claimed for an entry that will name an EGRESS record in use (R86). -/
theorem State.NamedWith.claims {held : Nat → Nat} (h : s.NamedWith held) {claim : Option Nat}
    (claimed : ∀ i, claim = some i → (s.record i).takesFlows) :
    (s.claims claim).NamedWith fun j => held j + if claim = some j then 1 else 0 := by
  cases claim with
  | none => exact ⟨h.flows, h.companions, h.tags⟩
  | some i =>
    refine h.recount i _ (fun j ne => by rw [if_neg fun e => ne (Option.some.inj e).symm, Nat.add_zero]) ?_
    rw [if_pos rfl]
    exact ⟨fun _ => claimed i rfl, fun egress => congrArg (· + 1) ((h.flows i).count egress)⟩

/-- A reference released, where one more than the others is held (R86). -/
theorem State.NamedWith.release {held : Nat → Nat} {i : Nat} (h : s.NamedWith fun j => held j + if some i = some j then 1 else 0) :
    (s.releaseReference i).NamedWith held := by
  have before := h.flows i
  rw [if_pos rfl] at before
  refine h.recount i _ (fun j ne => by rw [if_neg fun e => ne (Option.some.inj e).symm, Nat.add_zero]) ?_
  exact ⟨fun _ => before.goes (Nat.succ_pos _), fun egress => (congrArg (· - 1) (before.count egress)).trans (Nat.add_sub_cancel ..)⟩

/-! ### The flow commands -/

theorem State.heldReferences_idle (idle : s.releasingRecord = none) (j : Nat) : s.heldReferences j = namingOf s.flowMap j := by
  unfold State.heldReferences
  rw [idle]
  rfl

theorem State.releasingRecord_idle (idle : s.flowTurn = none) : s.releasingRecord = none := by
  unfold State.releasingRecord
  rw [idle]

/-- A flow command's event keeps the references exact, where no other reference is to be released (R84). -/
theorem FlowChange.namedEnds {c : Command} {done : FlowOutcome} {claim : Option Nat} (change : FlowChange u done claim) (h : u.Named)
    (idle : u.flowTurn = none) : FlowEnds State.Named c done := by
  have before := (h.counted (State.heldReferences_idle (State.releasingRecord_idle idle))).claims change.claimed
  rw [← funext change.naming] at before
  have after := before.of_manager change.manager
  have calm : done.after.flowTurn = none := change.flowTurn.trans idle
  refine ⟨fun quiet => ?_, fun i released _ => ?_, fun i released _ => ?_⟩
  · rw [quiet] at after
    exact after.named (State.heldReferences_idle (State.releasingRecord_idle calm))
  · rw [released] at after
    exact after.release.named (State.heldReferences_idle (State.releasingRecord_idle calm))
  · rw [released] at after
    exact (after.of_manager (t := done.after.holdFlowTurn _) rfl).named fun _ => rfl

theorem named_serveFlow (h : s.Named) (flows : FlowMapOk s.flowMap) {name : CommandName} {owner : Command → State → FlowOutcome}
    (change : ∀ c (u : State), FlowMapOk u.flowMap → ∃ claim, FlowChange u (owner c u) claim) :
    Ensures (s.serveFlow name owner) State.Named := by
  have same := sameCore_taken s
  have taken : s.taken.Named := named_tables.core _ _ same h
  have idled {u : State} (h : u.Named) (idle : u.releasingRecord = none) : u.endFlowTurn.Named :=
    h.refer (fun _ => .kept (.refl _))
      (fun j => (State.heldReferences_idle (s := u.endFlowTurn) rfl j).trans (State.heldReferences_idle idle j).symm) rfl
  refine ensures_serveFlow named_tables.core h (fun c offered _ => ?_) (fun c offered _ => ?_) (fun c waiting => ?_) fun c i releasing => ?_
  · have idle : s.taken.releasingRecord = none := State.releasingRecord_idle (same.flowTurn.trans (State.offers_answered offered).1)
    exact taken.refer (fun _ => .kept (.refl _)) (fun j => (State.heldReferences_idle (s := s.taken.holdFlowTurn _) rfl j).trans
      (State.heldReferences_idle idle j).symm) rfl
  · have idle : s.taken.releasingRecord = none := State.releasingRecord_idle (same.flowTurn.trans (State.offers_answered offered).1)
    have fine : FlowMapOk s.taken.endFlowTurn.flowMap := by
      show FlowMapOk s.taken.flowMap
      rw [same.flowMap]
      exact flows
    obtain ⟨claim, changed⟩ := change c _ fine
    exact changed.namedEnds (idled taken idle) rfl
  · have idle : s.releasingRecord = none := by
      unfold State.releasingRecord
      rw [waiting]
    obtain ⟨claim, changed⟩ := change c s.endFlowTurn flows
    exact changed.namedEnds (idled h idle) rfl
  · have held : s.NamedWith fun j => namingOf s.flowMap j + if some i = some j then 1 else 0 := h.counted fun j => by
      unfold State.heldReferences State.releasingRecord
      rw [releasing]
      rfl
    exact (held.of_manager (t := s.endFlowTurn) rfl).release.named (State.heldReferences_idle rfl)

/-! ### The messages -/

/-- A message taken at its record, which refers as it did. -/
theorem named_atRecord (h : s.Named) {i : Nat} {r : Record} (manager : t.manager = s.manager) (held : ∀ j, t.heldReferences j = s.heldReferences j)
    (refers : (s.record i).Refers r) : Ensures (s.takes (t.setRecord i r)) State.Named := by
  have record (j : Nat) : t.record j = s.record j := by
    unfold State.record
    rw [manager]
  have same : t.Named := h.refer (fun j => (record j).symm ▸ .kept (.refl _)) held (by rw [manager])
  exact ensures_takes named_tables.core (same.setRecord ((record i).symm ▸ refers))

theorem named_takeEnqueue (h : s.Named) (l : LaneId) (i : Nat) : Ensures (s.takes (s.takeEnqueue l i)) State.Named := by
  refine named_atRecord h rfl (fun j => ?_) (.kept ⟨rfl, rfl, rfl, .inl rfl⟩)
  have releasing (o : Option FlowTurn) : ({ s with flowTurn := o.map (FlowTurn.afterEnqueue · l i) } : State).releasingRecord =
      ({ s with flowTurn := o } : State).releasingRecord := by
    cases o with
    | none => rfl
    | some turn => cases turn <;> rfl
  exact congrArg (fun o => s.namingEntries j + if o = some j then 1 else 0) (releasing s.flowTurn)

theorem named_takeLookup (h : s.Named) (l : LaneId) (k : StoreId) (f : FrameStore) (octets : Frame) (e : EnvelopeFields) :
    Ensures (s.takes (s.takeLookup l k f octets e)) State.Named := by
  have judged : (s.judgeLookup l e).1.Named := by
    unfold State.judgeLookup
    split
    · exact h
    · exact h.setRecord (Record.refers_lookup ..)
  exact ensures_takes named_tables.core (named_tables _ _ (beside_setLane ..).tables judged)

theorem named_takeCommit (h : s.Named) (l : LaneId) (k : StoreId) (f : FrameStore) (octets : Frame) (e : EnvelopeFields) (g : IngressGrant)
    (plaintext : List Byte) : Ensures (s.takes (s.takeCommit l k f octets e g plaintext)) State.Named := by
  have committed := h.setRecord (Record.refers_commit (s.record g.record) g.slot e.sequence (deliveredCount octets) s.timebase.tickCount)
  have evident (u : State) (i : Nat) (b : Bool) : SameTables u (u.commitEvidence i b) := by
    unfold State.commitEvidence
    split
    · exact sameTables_sendEvidence u i
    · exact .refl u
  exact ensures_takes named_tables.core (named_tables _ _ ((evident _ _ _).trans (beside_setLane ..).tables) committed)

/-! ### The step -/

theorem named_exec (sound : s.Sound) (h : s.Named) : ∀ c, Ensures (exec c s) State.Named := by
  have reset : State.reset.Named := referencesExact_reset.named_records sound_reset.manager
  refine Instr.byGroup (fun c => named_quiet sound.tables h) (fun c => ensures_readsOnly named_tables.core h)
    (fun c => ensures_lanesOnly named_tables h)
    (named_serveFlow h sound.flows fun c u => flowChange_addFlowOwner)
    (named_serveFlow h sound.flows fun c u flows => ⟨none, flowChange_removeFlowOwner flows⟩)
    (named_serveFlow h sound.flows fun c u flows => ⟨none, flowChange_readFlowOwner flows⟩)
    (fun hold => ensures_unlessResetting h fun _ => ensures_next (named_tables State.reset _ ⟨rfl, rfl, rfl, rfl, rfl, rfl⟩ reset))
    (fun links => ensures_next (named_tables State.reset _ ⟨rfl, rfl, rfl, rfl, rfl, rfl⟩ reset))
    (fun links => ensures_next (named_tables State.reset _ ⟨rfl, rfl, rfl, rfl, rfl, rfl⟩ reset))
    (fun l i => ensures_unlessResetting h fun _ => ensures_ite (fun _ => named_takeEnqueue h l i) fun _ => ensures_next h)
    (fun l i => ensures_unlessResetting h fun _ => ensures_ite
      (fun _ => named_atRecord h rfl (fun _ => rfl) (.freeWhenDrained (r' := (s.record i).loseQueued) ⟨rfl, rfl, rfl, .inl rfl⟩))
      fun _ => ensures_next h)
    (fun l => ensures_unlessResetting h fun _ => ?_)
    (fun m => ensures_unlessResetting h fun _ => ensures_ite
      (fun _ => named_atRecord h rfl (fun _ => rfl) (Record.refers_release ..)) fun _ => ensures_next h)
    (fun m => ensures_unlessResetting h fun _ => ensures_ite
      (fun _ => named_atRecord h rfl (fun _ => rfl) (Record.refers_abandon ..)) fun _ => ensures_next h)
    (fun l j => ensures_unlessResetting h fun _ => ?_) (fun l j => ensures_unlessResetting h fun _ => ?_)
  · split
    · exact ensures_ite (fun _ => named_atRecord h rfl (fun _ => rfl) (Record.refers_allocate (State.record_of_free sound.manager) ..))
        fun _ => ensures_next h
    · exact ensures_next h
  · split
    · split
      · exact ensures_ite (fun _ => ensures_next h) fun _ => named_takeLookup h l j _ _ _
      · exact ensures_next h
    · exact ensures_next h
  · split
    · split
      · exact named_takeCommit h l j _ _ _ _ _
      · exact ensures_next h
    · exact ensures_next h

theorem named_step (sound : s.Sound) (h : s.Named) : Ensures (step s) State.Named := by
  unfold step
  split
  · exact ensures_next (named_tables s _ ⟨rfl, rfl, rfl, rfl, rfl, rfl⟩ h)
  next c rest _ =>
    exact named_exec (sound.withPending rest) (named_tables s { s with pending := rest } ⟨rfl, rfl, rfl, rfl, rfl, rfl⟩ h) c

end References

/-- Settles O6: the references are exact at every record, before and after each group of commands and events, and the tables that hold
them are canonical. -/
theorem stepKeepsReferences : Obligations.StepKeepsReferences := fun _ t sound refs next =>
  (named_step sound (refs.named_records sound.manager) t next).references (sound_step sound t next).manager

end Sys2Proof.Machine
end
